-- ==== Sys2Proof/Word.lean ====
section
/-! DEFINITION. The word types of the SX7264 (00 R5, R6, R7) and the three lanes (01 R14). -/

namespace Sys2Proof

/-- One byte of a host structure, a frame or a memory. -/
abbrev Byte := BitVec 8
/-- A 16-bit field. -/
abbrev Half := BitVec 16
/-- A 32-bit word: a host word (R5), an s7.24 value (R6) or an angle in turns (R7). -/
abbrev Word := BitVec 32

/-- A lane of the device (R14): one of three identical dies. -/
inductive LaneId where
  | l0 | l1 | l2
  deriving DecidableEq, Repr

/-- One value for each lane. -/
structure Tri (α : Type) where
  a0 : α
  a1 : α
  a2 : α
  deriving DecidableEq, Repr

end Sys2Proof
end

