-- ==== Sys2Proof/Syntax.lean ====
section
/-! DEFINITION. The commands of the block: one constructor of `Instr` for each row of spec/opcode_table.json, and
the operands they carry. The first operand is the lane the command acts on (in a row of an opcode, inside `Ctx`). -/

namespace Sys2Proof

/-- The herdline links (01, The herdline). -/
inductive Link where
  | k01 | k12 | k20
  deriving DecidableEq, Repr

/-- The Welor channels (08). -/
inductive Channel where
  | A | B
  deriving DecidableEq, Repr

/-- The legs of a bridge. -/
inductive Leg where
  | A | B | C
  deriving DecidableEq, Repr

/-- The power domains of Table 13-7, in the order of their numbers. -/
inductive Domain where
  | aon | cpu | ox | mem | ana | gate | flock | host
  deriving DecidableEq, Repr

/-- A host that sends commands: on a lane's SPI port, or an entry of the remote table (01 R51). -/
inductive Sender where
  | spi (l : LaneId)
  | remote (n : Fin 16)
  deriving DecidableEq, Repr

/-- The privilege sets, in the order of their codes (01 Table 1-7). -/
inductive Priv where
  | owner | operator | observer | none
  deriving DecidableEq, Repr

/-- A command packet after its segments have been joined (09 R307). -/
structure Packet where
  sender : Sender
  opcode : Half
  tag : Half
  timed : Bool
  noCompletion : Bool
  fence : Bool
  execAt : Word
  block : List Byte
  deriving DecidableEq, Repr

/-- A replicated packet on the herdline (01 R40): `rn` is absent until the lead has numbered it. `oseq` is the task
number of the packet on the lane that received it, `priv` the privilege that admitted it there (01 R58), and `minimal` says that
the sender is in minimal mode (13 R406). -/
structure ReplMsg where
  origin : LaneId
  oseq : Nat
  rn : Option Nat
  priv : Priv
  minimal : Bool
  pkt : Packet
  deriving DecidableEq, Repr

/-- The result of one lane for one command (01 R41); `late` says that the lane inserted a timed command too late to
wait for its time (09 R315). -/
structure LaneRes where
  status : Byte
  result : Word
  reply : List Byte
  late : Bool := false
  deriving DecidableEq, Repr

/-- The kinds of check event of 04 R147, with the poisoned state word of 12 Table 12-2. -/
inductive CheckKind where
  | perWrite | signature | residue | overrun | statePoison
  deriving DecidableEq, Repr

/-- What goes wrong in hardware during a partition execution, for the redundant checks to find (04 R140, R144–R147; 12 Table 12-2): on one
datapath the write of a word of a node differs by the bits of `mask` (code 0–3 an output word, 4–15 a state word), or an adder, accumulator
or multiplier result at a node is wrong by `err` before rounding; the fast partition has not passed its check in time; or the array word of
memory 3 that holds a state word of a node decodes uncorrectable, or with a single-bit error (12 R373). -/
inductive Upset where
  | write (node : Byte) (code : BitVec 4) (mask : Word)
  | result (node : Byte) (err : Int)
  | overrun
  | statePoison (node : Byte) (word : Nat)
  | stateSbe (node : Byte) (word : Nat) (syndrome : Byte)
  deriving DecidableEq, Repr

/-- The execution of a command on a lane: the lane, the host that sent it, the task it belongs to (09 R311), and the
upsets of what it executes (04 R153). -/
structure Ctx where
  lane : LaneId
  sender : Sender
  tid : Nat
  upsets : List Upset := []
  deriving DecidableEq, Repr

/-- A check event found in an execution: its kind and the node (0xFF when none). -/
structure CheckFault where
  kind : CheckKind
  node : Byte
  deriving DecidableEq, Repr

/-- How an array word decodes (12 R373). -/
inductive EccOutcome where
  | clean
  | single (syndrome : Byte)
  | double (syndrome : Byte)
  deriving DecidableEq, Repr

/-- What befalls a lane's arrays and interconnect (12 R373, R375): the cells of an array word flip, so that it decodes as given until it is
rewritten; the next transfer of a word, a write or a read, fails its data parity or its address or control parity; or the lane's CPU fetches
or loads a word of an array. -/
inductive MemEvent where
  | cells (mem : Fin 8) (word : Nat) (found : EccOutcome)
  | parity (mem : Fin 8) (word : Nat) (write control : Bool)
  | cpuRead (mem : Fin 8) (word : Nat)
  deriving DecidableEq, Repr

/-- What a fast sample takes from outside the digital lane: its instant on the lane's own clock in 10 ns units,
the two current codes (05 R169), the upsets of the executions that this sample starts (04 R144–R147), the lockstep comparison, the table words that the Ox memory delivered poisoned, the
array word of a checkpoint that is poisoned when a rollback needs it (12 Table 12-2), and what befell the memories since the last sample. -/
structure FastIn where
  t10 : Nat
  codeA : BitVec 14
  codeB : BitVec 14
  fastFault : List Upset
  medFault : List Upset
  slowFault : List Upset
  lockstepOk : Bool
  poisonedTable : List Nat
  checkpointPoisoned : Option Nat
  mem : List MemEvent := []
  deriving DecidableEq, Repr

/-- The state of the gates and of the comparators at a short-circuit report (07 R249–R254): the leg of the latest
gate edge within 2 µs, the high sides commanded on, and, for the fast comparator, whether the report arises only
because a blanking interval ends and whether the gross comparator has reported since the start of that interval. -/
structure TripIn where
  edge : Option Leg
  highs : BitVec 3
  blankEnd : Bool
  grossSince : Bool
  deriving DecidableEq, Repr

/-- What the start tests of 13 Table 13-3 find, the offsets of step 5, and the words of the image in NVM that do not decode clean at the
load (12 R373). -/
structure FwIn where
  checkerOk : Bool
  injectionOk : Bool
  analogOk : Bool
  offA : Half
  offB : Half
  patchLevel : Half
  nvm : List (Nat × EccOutcome)
  deriving DecidableEq, Repr

/-- What a lane's TAP is given (14 R442): an instruction; the level of TRST_N; a scan of the data register that its instruction selects, with
the bits of TDI where the lane is the first of the chain. -/
inductive TapInstr where
  | bypass | idcode | samplePreload | extest | halt
  | trst (high : Bool)
  | scan (tdi : List Bool)
  deriving DecidableEq, Repr

/-- Which count of 01 Table 1-3 SENSOR_DISAGREE is about. -/
inductive SenseQty where
  | pos | spd
  deriving DecidableEq, Repr

/-- The inputs of the multiplexed converter (06 R228). -/
inductive AuxInput where
  | vlnk | aux1 | aux2 | ntc
  deriving DecidableEq, Repr

/-- The two ways a cold start begins (13 R393). -/
inductive ColdCause where
  | supply | wake
  deriving DecidableEq, Repr

/-- A frame as a receiver of a channel sees it (08 R274): its bytes, the first falling edge of its start gap against the action point by the
lane's own clock in 10 ns units, the slot of its channel in progress, whether it ends before its slot ends, and
whether it could be decoded at all. -/
structure RxFrame where
  bytes : List Byte
  dev : Int
  slot : Nat
  endsInSlot : Bool
  decodable : Bool
  deriving DecidableEq, Repr

/-- A record of an event queue as it travels in a KIND 3 message (10 R333). -/
structure EventRec where
  source : Byte
  cls : BitVec 3
  unsync : Bool
  time : Word
  payload : BitVec 64
  deriving DecidableEq, Repr

/-- A lane's answer in the prepare phase of a commit (01 R43). -/
inductive PrepAns where
  | ready
  | failed (status : Byte) (result : Word)
  deriving DecidableEq, Repr

/-- The apply message of a commit (01 R43): the lane that sends it, and the new generation. -/
structure ApplyMsg where
  from_ : LaneId
  gen : Byte
  deriving DecidableEq, Repr

/-- A lane's answer to a sleep request: all its named domains agree, or the first that refuses and its reason
(13 Table 13-9). -/
inductive SleepAns where
  | agree
  | refuse (d : Domain) (reason : BitVec 5)
  deriving DecidableEq, Repr

/-- The commands of the SX7264, one constructor per row of spec/opcode_table.json, in its order. -/
inductive Instr where
  /-- SPI_NOP (R301): A NOP transaction on a host port is checked by CRC, sets LAST_SEQ to its SEQ and sets SEQ_SYNCED. -/
  | spiNop (l : LaneId) (mosi : List Word)
  /-- SPI_READ (R301): A READ transaction is CRC-checked and sequence-checked, then returns data words and a response word with CRC and poison mask. -/
  | spiRead (l : LaneId) (mosi : List Word) (ecc : List (Nat × EccOutcome))
  /-- SPI_WRITE (R299): A WRITE transaction to words with no behaviour of their own is applied whole after its CRC and sequence checks, or ignored and counted as a violation. -/
  | spiWrite (l : LaneId) (mosi : List Word)
  /-- DOORBELL (R308): A DOORBELL transaction sets CQ_TAIL to the new tail, or is a format error, and admission begins within 5 µs. -/
  | doorbell (l : LaneId) (mosi : List Word)
  /-- EQ_HEAD_WRITE (R305): A host write of EQ_HEAD frees event records and reply slots, and releases HIRQ_N when the queue becomes empty. -/
  | eqHeadWrite (l : LaneId) (mosi : List Word)
  /-- LANE_VIOL_CLEAR (R50): An OWNER write to LANE engine offset 0x008 clears LANE_VIOL_COUNT and the last-violation register. -/
  | laneViolClear (l : LaneId) (mosi : List Word)
  /-- PACKET_ADMISSION (R309): The lane checks the packet at CQ_HEAD in order, then admits it, refuses it with a completion, discards a slot or waits for resources. -/
  | packetAdmission (l : LaneId)
  /-- REPLICATED_PACKET (R40): A command packet replicated over the herdline is executed by each healthy lane in replication-number order. -/
  | replicatedPacket (l : LaneId) (m : ReplMsg)
  /-- LANE_RESULT_REPORT (R41): A lane's result of a replicated command reaches the receiving lane, which writes the completion once all lanes have reported. -/
  | laneResultReport (l : LaneId) (from_ : LaneId) (rn : Nat) (r : LaneRes)
  /-- LANE_REPLY_WAIT_EXPIRY (R41): At LANE_REPLY_WAIT after replication, the completion is written with TIMEOUT or the status of a failing lane. -/
  | laneReplyWaitExpiry (l : LaneId) (tid : Nat)
  /-- TIMED_COMMAND_START (R315): A delay-list tick at or after EXEC_AT starts a timed command. -/
  | timedCommandStart (l : LaneId) (tid : Nat)
  /-- HOST_CFG_TIMEOUT (R319): An idle configuration transaction closes after HOST_CFG_TIMEOUT and its staging is discarded. -/
  | hostCfgTimeout (l : LaneId)
  /-- HOST_SILENT_TIMEOUT (R303): No transaction for HOST_SILENT_TIME raises an H report with H_SILENT. -/
  | hostSilentTimeout (l : LaneId)
  /-- HOST_CRC_SECOND (R303): A whole second without a CRC error ends the H_CRC report. -/
  | hostCrcSecond (l : LaneId)
  /-- LANE_CLAIM_TIMEOUT (R55): An owner claim ends after LANE_CLAIM_TIMEOUT without activity from the claiming host, and OWNER returns to the configured host. -/
  | laneClaimTimeout (l : LaneId)
  /-- CLAIM_LOCKOUT_END (R54): The 60 s claim lockout of a host ends after three wrong keys. -/
  | claimLockoutEnd (l : LaneId) (h : Sender)
  /-- LANE_IDENT (R354): Returns the identification of the receiving lane. -/
  | laneIdent (c : Ctx) (blk : List Byte)
  /-- LANE_READ (R355): Reads COUNT consecutive words of a named healthy lane, with a poison mask. -/
  | laneRead (c : Ctx) (blk : List Byte)
  /-- LANE_STATUS (R353): Returns the LANE registers of every healthy lane. -/
  | laneStatus (c : Ctx) (blk : List Byte)
  /-- LANE_ROLE_SET (R37): Moves the lead to a named healthy standby or watch by a planned hand-over. -/
  | laneRoleSet (c : Ctx) (blk : List Byte)
  /-- LANE_OWNER_CLAIM (R54): Grants OWNER to the requesting host when the commissioning key matches and motion is disabled. -/
  | laneOwnerClaim (c : Ctx) (blk : List Byte)
  /-- LANE_OWNER_RELEASE (R55): Ends an owner claim, and OWNER returns to the configured host. -/
  | laneOwnerRelease (c : Ctx) (blk : List Byte)
  /-- LANE_SS1 (R367): Starts SS1 with STOP_CAUSE COMMAND_SS1 at the next medium execution. -/
  | laneSs1 (c : Ctx) (blk : List Byte)
  /-- LANE_STO (R368): Turns all gates off on every healthy lane, aborts waiting motion commands and enters STOPPED with COMMAND_STO. -/
  | laneSto (c : Ctx) (blk : List Byte)
  /-- OX_GRAPH_LOAD (R356): Stages up to 15 consecutive node records in the open transaction. -/
  | oxGraphLoad (c : Ctx) (blk : List Byte)
  /-- OX_TABLE_LOAD (R353): Stages table entries at a given table-memory word. -/
  | oxTableLoad (c : Ctx) (blk : List Byte)
  /-- OX_PARAM_SET (R357): Stages one field of one node record. -/
  | oxParamSet (c : Ctx) (blk : List Byte)
  /-- OX_GRAPH_INFO (R360): Returns node counts, table use and the graph CRCs of every lane. -/
  | oxGraphInfo (c : Ctx) (blk : List Byte)
  /-- OX_SETPOINT (R123): Writes a value to a HOST_SP node, applied at the node's next execution. -/
  | oxSetpoint (c : Ctx) (blk : List Byte)
  /-- OX_MANUAL (R120): Puts a PI or PID into manual mode with a given output value. -/
  | oxManual (c : Ctx) (blk : List Byte)
  /-- OX_AUTO (R120): Returns a PI or PID from manual to automatic operation without stepping its output. -/
  | oxAuto (c : Ctx) (blk : List Byte)
  /-- OX_LEARN_START (R126): Starts a learning pass on a FRICTION or COGGING node. -/
  | oxLearnStart (c : Ctx) (blk : List Byte)
  /-- OX_LEARN_STOP (R128): Ends a learning pass, forms its proposal and posts the learning event. -/
  | oxLearnStop (c : Ctx) (blk : List Byte)
  /-- OX_LEARN_COMMIT (R130): Installs the learned proposal on every lane through a configuration commit. -/
  | oxLearnCommit (c : Ctx) (blk : List Byte)
  /-- OX_LEARN_DISCARD (R129): Discards a learning pass or its proposal. -/
  | oxLearnDiscard (c : Ctx) (blk : List Byte)
  /-- OX_NODE_READ (R353): Returns the output words and SAT bits of up to 16 nodes and clears the SAT bits read. -/
  | oxNodeRead (c : Ctx) (blk : List Byte)
  /-- OX_DEBUG_ENTER (R152): Makes a named lane DEBUG_ACTIVE, which excludes it from the vote. -/
  | oxDebugEnter (c : Ctx) (blk : List Byte)
  /-- OX_DEBUG_STEP (R153): Executes the next node of a DEBUG_ACTIVE lane's graph. -/
  | oxDebugStep (c : Ctx) (blk : List Byte)
  /-- OX_DEBUG_RUN (R153): Runs a DEBUG_ACTIVE lane's graph for COUNT fast samples or until the break node. -/
  | oxDebugRun (c : Ctx) (blk : List Byte)
  /-- OX_DEBUG_EXIT (R154): Reactivates the lane's graph, clears DEBUG_ACTIVE and starts the rejoin. -/
  | oxDebugExit (c : Ctx) (blk : List Byte)
  /-- OX_TRACE_SETUP (R157): Configures the probes and the trigger of the trace. -/
  | oxTraceSetup (c : Ctx) (blk : List Byte)
  /-- OX_TRACE_ARM (R158): Moves every enabled probe to ARMED at the next fast sample. -/
  | oxTraceArm (c : Ctx) (blk : List Byte)
  /-- OX_TRACE_TRIGGER (R160): Triggers the armed probes at execution, and the trigger is sent to the other lanes. -/
  | oxTraceTrigger (c : Ctx) (blk : List Byte)
  /-- OX_TRACE_STOP (R161): Freezes the ARMED and TRIGGERED probes. -/
  | oxTraceStop (c : Ctx) (blk : List Byte)
  /-- OX_TRACE_READ (R361): Returns a probe descriptor and up to 64 samples of a named lane. -/
  | oxTraceRead (c : Ctx) (blk : List Byte)
  /-- MOTION_ENABLE (R191): Measures offsets, precharges and presets the loops, then releases the bridges of lanes whose STO_N is high. -/
  | motionEnable (c : Ctx) (blk : List Byte)
  /-- MOTION_DISABLE (R195): Aborts waiting motion commands and puts the bridge in the disable state at the next PWM update point. -/
  | motionDisable (c : Ctx) (blk : List Byte)
  /-- MOTION_VEL_ENTER (R189): Enters host velocity mode, with the host value starting at the present in0. -/
  | motionVelEnter (c : Ctx) (blk : List Byte)
  /-- MOTION_VEL_SET (R190): Changes the host velocity value, or refuses a reversal at speed. -/
  | motionVelSet (c : Ctx) (blk : List Byte)
  /-- MOTION_VEL_EXIT (R189): Blends the SS1_REF input back from the host value to in0 over MOTION_VEL_BLEND medium executions. -/
  | motionVelExit (c : Ctx) (blk : List Byte)
  /-- SENSE_ALIGN_SET (R208): Sets the period count of every lane with a valid own sensor to a given mechanical angle. -/
  | senseAlignSet (c : Ctx) (blk : List Byte)
  /-- SENSE_LANE_STATUS (R234): Returns the SENSE registers of every healthy lane. -/
  | senseLaneStatus (c : Ctx) (blk : List Byte)
  /-- GATE_STATUS (R262): Returns the GATE registers of every healthy lane. -/
  | gateStatus (c : Ctx) (blk : List Byte)
  /-- FLOCK_SCHED_LOAD (R273): Stages static-slot schedule entries of one channel. -/
  | flockSchedLoad (c : Ctx) (blk : List Byte)
  /-- FLOCK_SUB_LOAD (R357): Stages safe-signal subscription entries. -/
  | flockSubLoad (c : Ctx) (blk : List Byte)
  /-- FLOCK_PUB_LOAD (R357): Stages safe-signal publication entries. -/
  | flockPubLoad (c : Ctx) (blk : List Byte)
  /-- FLOCK_STATUS (R296): Returns the FLOCK registers of every healthy lane. -/
  | flockStatus (c : Ctx) (blk : List Byte)
  /-- FLOCK_CLAIM_READ (R358): Returns the receiving lane's claim table for one channel. -/
  | flockClaimRead (c : Ctx) (blk : List Byte)
  /-- FLOCK_REJOIN (R296): Makes the named channel's transmitting lane stop and re-integrate. -/
  | flockRejoin (c : Ctx) (blk : List Byte)
  /-- CFG_BEGIN (R317): Opens the device's configuration transaction. -/
  | cfgBegin (c : Ctx) (blk : List Byte)
  /-- CFG_SET (R318): Stages up to 120 configuration item values. -/
  | cfgSet (c : Ctx) (blk : List Byte)
  /-- CFG_COMMIT (R43): Runs the two-phase prepare and apply commit of the staged configuration. -/
  | cfgCommit (c : Ctx) (blk : List Byte)
  /-- CFG_ABORT (R319): Closes the transaction and discards what it staged. -/
  | cfgAbort (c : Ctx) (blk : List Byte)
  /-- CFG_GET (R359): Returns the running or staged values of up to 120 items. -/
  | cfgGet (c : Ctx) (blk : List Byte)
  /-- CFG_STORE (R320): Stores the running configuration in the unused NVM image. -/
  | cfgStore (c : Ctx) (blk : List Byte)
  /-- HOST_SLEEP (R339): Declares the port's host asleep with a wake mask of event groups. -/
  | hostSleep (c : Ctx) (blk : List Byte)
  /-- EVENT_COUNTS (R343): Returns the 256 source counts and the pending bitmap. -/
  | eventCounts (c : Ctx) (blk : List Byte)
  /-- INTEG_FAULT_READ (R362): Returns the receiving lane's latched fault records and overflow bits. -/
  | integFaultRead (c : Ctx) (blk : List Byte)
  /-- INTEG_FAULT_CLEAR (R363): Clears the latched records whose cause is gone on the named lanes and ends the faults they raised. -/
  | integFaultClear (c : Ctx) (blk : List Byte)
  /-- INTEG_COUNTS (R392): Returns the INTEGRITY counter registers. -/
  | integCounts (c : Ctx) (blk : List Byte)
  /-- POWER_SLEEP (R364): Puts named domains of named lanes into a target rung through a two-phase handshake. -/
  | powerSleep (c : Ctx) (blk : List Byte)
  /-- POWER_WAKE (R365): Wakes the named domains in the wake order. -/
  | powerWake (c : Ctx) (blk : List Byte)
  /-- POWER_OP_SET (R366): Sets the operating point of every healthy lane. -/
  | powerOpSet (c : Ctx) (blk : List Byte)
  /-- POWER_STATUS (R353): Returns the POWER registers of every healthy lane. -/
  | powerStatus (c : Ctx) (blk : List Byte)
  /-- START_FULL (R371): Resets the boot counter and makes a full start from minimal mode. -/
  | startFull (c : Ctx) (blk : List Byte)
  /-- SHUTDOWN (R372): Turns all gates off, completes, then runs the staggered shutdown self-test and powers down. -/
  | shutdown (c : Ctx) (blk : List Byte)
  /-- START_BIST (R370): Runs the shutdown tests on the named lanes one at a time, each of which then rejoins. -/
  | startBist (c : Ctx) (blk : List Byte)
  /-- START_RESULTS (R371): Returns the boot-cause record, the start-test results and the last shutdown self-test result. -/
  | startResults (c : Ctx) (blk : List Byte)
  /-- PREPARE_MESSAGE (R43): The lead's prepare message makes each lane check the staged configuration and answer ready or failed. -/
  | prepareMessage (l : LaneId) (from_ : LaneId)
  /-- PREPARE_ANSWER (R43): A lane's ready or failed answer reaches the lead, which sends apply once every lane is ready. -/
  | prepareAnswer (l : LaneId) (from_ : LaneId) (ans : PrepAns)
  /-- APPLY_MESSAGE (R43): The apply message with the new generation reaches a lane, which applies at its next fast sample. -/
  | applyMessage (l : LaneId) (m : ApplyMsg)
  /-- CONFIG_STORE_DONE (R320): A configuration store completes and marks the new image in use. -/
  | configStoreDone (l : LaneId)
  /-- EVENT_ARRIVAL (R325): A source rings the event doorbell, and the controller counts the arrival and writes or drops a record. -/
  | eventArrival (l : LaneId) (src : Byte) (cls : BitVec 3) (payload : BitVec 64)
  /-- HOLDOFF_TIMER_EXPIRY (R338): A hold-off timer expires and asserts HIRQ_N if the queue still holds records. -/
  | holdoffTimerExpiry (l : LaneId) (g : Fin 16)
  /-- REMOTE_EVENT_MESSAGE (R333): A KIND 3 transport message for this device becomes arrivals at remote sources or is discarded. -/
  | remoteEventMessage (l : LaneId) (node dest : Half) (msgId : Byte) (recs : List EventRec)
  /-- HERD_SAMPLE_RECORD (R17): A 32-byte sample record arrives from another lane over a herdline link. -/
  | herdSampleRecord (l : LaneId) (link : Link) (bytes : List Byte) (at10 : Nat)
  /-- TIME_MESSAGE (R9): The lead's local-time message makes the other lanes slew or step their local time. -/
  | timeMessage (l : LaneId) (from_ : LaneId) (t : Word)
  /-- LANE_DOWN_SYMBOL (R63): A received LANE_DOWN symbol is treated as silence and exclusion of the sending lane. -/
  | laneDownSymbol (l : LaneId) (from_ : LaneId)
  /-- BRIDGE_DOWN_SYMBOL (R256): A received BRIDGE_DOWN sets the sending lane's weight to 0 at the next fast sample. -/
  | bridgeDownSymbol (l : LaneId) (from_ : LaneId)
  /-- EXCLUDE_ORDER (R64): An EXCLUDE order makes the named lane zero its current, drop its role and turn its gates off. -/
  | excludeOrder (l : LaneId) (from_ named : LaneId)
  /-- KILL_ORDER (R65): A kill order from a lane in the accept mask forces all gates of the receiving lane off in hardware. -/
  | killOrder (l : LaneId) (from_ : LaneId)
  /-- KILL_CHECK (R65): At 2.9 ms after an exclusion, a lane sends a kill order if the excluded lane still shows ENERGISED or is silent. -/
  | killCheck (l : LaneId) (named : LaneId) (now10 : Nat)
  /-- HANDOVER (R402): A HANDOVER message makes each lane activate its graph and move its bridge from the Colt action. -/
  | handover (l : LaneId) (from_ : LaneId)
  /-- SHARE_OUT (R180): A SHARE_OUT message starts a ramp of the sending lane's weight down to 0. -/
  | shareOut (l : LaneId) (from_ : LaneId)
  /-- SHARE_RAMP_END (R180): At the end of a withdrawal ramp the lane clears ENERGISED and turns its gates off. -/
  | shareRampEnd (l : LaneId) (of_ : LaneId)
  /-- TRACE_TRIGGER_MESSAGE (R159): A cross-lane trigger message triggers the receiving lane's armed probes at the common trigger instant. -/
  | traceTriggerMessage (l : LaneId) (from_ : LaneId) (dt10 at10 : Nat)
  /-- PLANNED_SLEEP (R420): A PLANNED_SLEEP message removes the sending lane from the healthy set without counting a fault. -/
  | plannedSleep (l : LaneId) (from_ : LaneId)
  /-- FORWARDED_SAFE_RECORD (R270): A safe-signal record forwarded over the herdline is handled as a received record. -/
  | forwardedSafeRecord (l : LaneId) (rec : List Byte)
  /-- GANDER_CUT_MESSAGE (R284): A cut message makes the transmitting lane stop transmitting and re-integrate. -/
  | ganderCutMessage (l : LaneId) (ch : Channel)
  /-- CLAIM_ANNOUNCE (R283): A transmitting lane's announcement of a spare-slot claim opens Gander for that slot. -/
  | claimAnnounce (l : LaneId) (ch : Channel) (slot : Nat)
  /-- ANNOUNCEMENT (R27): A lane announces itself on the herdline for the election with its image generation and Colt current. -/
  | announcement (l : LaneId) (from_ : LaneId) (gen : BitVec 24) (minimal : Bool) (current : Word)
  /-- ELECTION_CLOSE (R27): The election closes when all lanes announced or LANE_START_WAIT elapsed, and roles are assigned. -/
  | electionClose (l : LaneId)
  /-- FAST_SAMPLE (R134): At the current-sample instant the lane converts currents, latches position, votes, takes a checkpoint and runs its partitions. -/
  | fastSample (l : LaneId) (i : FastIn)
  /-- RELEASE_POINT (R135): The staged fast outputs are released together and the sample record is sent. -/
  | releasePoint (l : LaneId) (t10 : Nat) (recordPoisoned : Bool)
  /-- LINK_DOWN (R21): A link with no valid record for LANE_MISS_COUNT samples is declared down, and isolation follows if two links are down. -/
  | linkDown (l : LaneId) (link : Link)
  /-- LANE_SILENT (R22): A lane whose records are missing for LANE_MISS_COUNT votes is declared silent and excluded. -/
  | laneSilent (l : LaneId) (j : LaneId)
  /-- TQ_DISAGREE_COUNT (R24): A TQ disagreement count reaches LANE_TQ_COUNT. -/
  | tqDisagreeCount (l : LaneId) (j : LaneId)
  /-- SENSOR_DISAGREE (R220): A position or speed count reaches its limit, and the lane declares its own sensor lost or the vote is unresolved. -/
  | sensorDisagree (l : LaneId) (j : LaneId) (q : SenseQty)
  /-- TQ_DEV_COUNT (R182): A delivered-torque count reaches MOTION_TQ_DEV_COUNT and raises a W fault or an unresolved vote. -/
  | tqDevCount (l : LaneId) (j : LaneId)
  /-- TQ_DEV_ENERGISED_CHECK (R182): A lane still ENERGISED 1 ms after its deviation count is excluded. -/
  | tqDevEnergisedCheck (l : LaneId) (j : LaneId)
  /-- REJOIN_COMPLETE (R36): After 64 samples inside the windows a rejoining lane joins the vote as standby or watch. -/
  | rejoinComplete (l : LaneId)
  /-- MULE_TIMER_EXPIRY (R70): The Mule budget reaches zero and SS1 starts with MULE_EXPIRED. -/
  | muleTimerExpiry (l : LaneId)
  /-- MULE_EVENT_TICK (R73): A Mule event is posted at every 1 s of Mule time and when 10 s remain. -/
  | muleEventTick (l : LaneId)
  /-- MULE_EXIT (R71): When none of M1–M6 has held for 1 s, the cap and rate scaling are removed. -/
  | muleExit (l : LaneId)
  /-- NET_STALE_EXPIRY (R75): The network stays lost for LANE_NET_STALE_TIME, and the device enters Mule mode with NETWORK_LOST. -/
  | netStaleExpiry (l : LaneId)
  /-- STO_DISCREPANCY (R81): Lanes that disagree on STO_ACTIVE for 10 ms raise STO discrepancy as a W fault. -/
  | stoDiscrepancy (l : LaneId)
  /-- EXTRAPOLATION_END (R223): SENSE_EXTRAP_MAX elapses without step 2, and the lane takes the Hall step or sends SHARE_OUT. -/
  | extrapolationEnd (l : LaneId)
  /-- HALL_NO_EDGE_TIMEOUT (R188): No Hall edge for the reversal time lets six-step take the speed as below MOTION_REV_SPEED. -/
  | hallNoEdgeTimeout (l : LaneId)
  /-- SETPOINT_STALE (R124): A HOST_SP node not written within STALE_TIME goes stale, applies its stale action and posts event 0x54. -/
  | setpointStale (l : LaneId) (node : Byte)
  /-- LEARN_TIME_LIMIT (R128): A learning pass reaches TIME_MAX and forms its proposal. -/
  | learnTimeLimit (l : LaneId)
  /-- SINCOS_CONVERSION (R203): A sin/cos conversion pair is corrected, windowed and interpolated into the position word. -/
  | sincosConversion (l : LaneId) (sin cos : BitVec 14) (t10 : Nat)
  /-- AUX_CONVERSION (R228): An auxiliary input is converted by the multiplexed ADC. -/
  | auxConversion (l : LaneId) (input : AuxInput) (code : BitVec 12)
  /-- HALL_STATE_ACCEPTED (R211): A Hall state that has held for SENSE_HALL_FILT is accepted with the time of its first sample. -/
  | hallStateAccepted (l : LaneId) (hall : BitVec 3) (t10 : Nat)
  /-- HALL_GLITCH (R211): A Hall change shorter than the filter is discarded and counted. -/
  | hallGlitch (l : LaneId)
  /-- STO_N_FALLING (R79): STO_N low forces all six gates of the lane off within 1 µs. -/
  | stoNFalling (l : LaneId) (ns : Nat)
  /-- STO_N_RISING (R80): STO_N rising leaves the gates off until the OWNER enables motion. -/
  | stoNRising (l : LaneId)
  /-- SC_FAST_TRIP (R249): The fast short-circuit comparator trips and is reported within 150 ns. -/
  | scFastTrip (l : LaneId) (i : TripIn)
  /-- SC_GROSS_TRIP (R250): The gross comparator trips, never blanked, and is reported within 150 ns. -/
  | scGrossTrip (l : LaneId) (i : TripIn)
  /-- VGD_UVLO (R243): VGD below its falling threshold forces all six gates off and reports a UVLO event. -/
  | vgdUvlo (l : LaneId)
  /-- BOOT_UVLO (R243): A bootstrap below its falling threshold forces that high side off. -/
  | bootUvlo (l : LaneId) (leg : Leg)
  /-- UVLO_RECOVER (R244): Supplies above the rising threshold for GATE_UVLO_RECOVER end the UVLO W fault. -/
  | uvloRecover (l : LaneId)
  /-- HANDSHAKE_TIMEOUT (R240): A complementary gate not seen off within 2 µs holds the leg off and raises HANDSHAKE. -/
  | handshakeTimeout (l : LaneId) (leg : Leg)
  /-- PRECHARGE_END (R247): The bootstrap precharge ends, and the lane energises or raises PRECHARGE. -/
  | prechargeEnd (l : LaneId) (charged : Bool)
  /-- OFFSET_MEASUREMENT_DONE (R171): The 256-conversion amplifier offset measurement ends and stores OFFSET_A and OFFSET_B. -/
  | offsetMeasurementDone (l : LaneId) (meanA meanB : Half)
  /-- VIN_GOOD (R393): VIN rising above 4.40 V for 50 µs begins a cold start with the Colt stage. -/
  | vinGood (l : LaneId) (cause : ColdCause) (pmbus : Bool) (mv : Half)
  /-- COLT_SLOW_TIMEOUT (R396): No Hall edge for t_s lets the Colt stage take the motor as slower and return to HOLD_EFFORT. -/
  | coltSlowTimeout (l : LaneId)
  /-- COLT_HALL_VALID_HOLD (R396): A valid Hall state held for 1 ms returns the Colt stage to HOLD_EFFORT. -/
  | coltHallValidHold (l : LaneId)
  /-- SUPPLY_LOSS (R393): VIN falling below 3.0 V removes PD_AON and every record it holds. -/
  | supplyLoss (l : LaneId)
  /-- FIRMWARE_START (R399): The lane logic leaves reset and firmware runs the boot counter, patches, tests and configuration load, then announces. -/
  | firmwareStart (l : LaneId) (i : FwIn)
  /-- NRST_N (R408): NRST_N low resets the lane, which restarts without a cold start. -/
  | nrstN (l : LaneId) (ns : Nat)
  /-- TEST_EN (R443): TEST_EN high for 10 ms holds every lane in reset with its gates off. -/
  | testEn (l : LaneId) (us : Nat)
  /-- VIN_WARNING (R424): VIN below 4.55 V moves the lane to OP2 and raises VIN_WARNING. -/
  | vinWarning (l : LaneId) (mv : Half)
  /-- VIN_RESTORE (R424): VIN at or above 4.60 V for 1 ms restores OP_RESTORE. -/
  | vinRestore (l : LaneId) (mv : Half)
  /-- VIN_RESET (R425): VIN below 4.25 V resets the lane with VIN_RESET. -/
  | vinReset (l : LaneId) (mv : Half)
  /-- VCORE_LOW (R414): VCORE more than 8 % below the point in force for 2 µs resets the lane. -/
  | vcoreLow (l : LaneId) (mv : Half)
  /-- CLOCK_LOSS (R410): A crystal, PLL or CLK_AON failure makes the lane FA within 10 µs. -/
  | clockLoss (l : LaneId)
  /-- OP_CHANGE_DONE (R412): An operating-point change completes and clears OP_CHANGING. -/
  | opChangeDone (l : LaneId)
  /-- PMBUS_STATUS_POLL (R414): STATUS_WORD is polled every 100 µs to acknowledge a VOUT change. -/
  | pmbusStatusPoll (l : LaneId) (status : Half)
  /-- PMBUS_ACK_TIMEOUT (R414): A PMBus change unacknowledged within 2 ms counts in PMBUS_ERR. -/
  | pmbusAckTimeout (l : LaneId)
  /-- WAKE_RISING (R423): A WAKE rising edge wakes every domain and cancels or abandons key-off and self-test. -/
  | wakeRising (l : LaneId)
  /-- WAKE_FALLING (R427): A WAKE falling edge starts the key-off delay. -/
  | wakeFalling (l : LaneId)
  /-- KEYOFF_DELAY_EXPIRY (R427): WAKE low for POWER_KEYOFF_DELAY with motion disabled starts the shutdown self-test. -/
  | keyoffDelayExpiry (l : LaneId)
  /-- HCS_N_WAKE (R423): HCS_N falling wakes PD_HOST and PD_CPU. -/
  | hcsNWake (l : LaneId)
  /-- RXD_ACTIVITY (R423): Activity on RXD wakes PD_FLOCK and PD_CPU. -/
  | rxdActivity (l : LaneId) (ch : Channel)
  /-- WAKE_STEP_READY (R421): A wake step reports ready and the next step starts. -/
  | wakeStepReady (l : LaneId)
  /-- WAKE_STEP_TIMEOUT (R422): A wake step times out and the domain is left Off with WAKE_FAIL. -/
  | wakeStepTimeout (l : LaneId) (d : Domain)
  /-- SLEEP_ANSWER (R419): A lane's agree or refuse answer reaches the sleep coordinator. -/
  | sleepAnswer (l : LaneId) (from_ : LaneId) (ans : SleepAns)
  /-- SLEEP_ANSWER_TIMEOUT (R419): No answer within 100 µs makes the coordinator roll back. -/
  | sleepAnswerTimeout (l : LaneId) (from_ : LaneId)
  /-- SLEEP_COMMIT_MESSAGE (R419): The commit message moves each stopped domain to its target rung. -/
  | sleepCommitMessage (l : LaneId)
  /-- SLEEP_ROLLBACK_MESSAGE (R419): The roll-back message returns every stopped domain to On. -/
  | sleepRollbackMessage (l : LaneId)
  /-- SLEEP_SELF_ROLLBACK (R419): A lane with neither commit nor roll-back within 1 ms rolls back by itself. -/
  | sleepSelfRollback (l : LaneId)
  /-- SELF_TEST_DOMAIN_DONE (R429): The test of one domain ends, and the next domain or lane is tested. -/
  | selfTestDomainDone (l : LaneId) (pass : Bool) (ms : Byte) (detail : Half)
  /-- DEBUG_HALT (R151): A halt through the IEEE 1149.1 port makes the lane DEBUG_ACTIVE. -/
  | debugHalt (l : LaneId)
  /-- SCRUB_SLOT (R378): The scrubber reads one word every 640 ns and corrects or reports it. -/
  | scrubSlot (l : LaneId) (found : EccOutcome)
  /-- AON_SCRUB_SLOT (R378): The always-on scrubber reads one save-RAM word every 64 µs. -/
  | aonScrubSlot (l : LaneId) (found : EccOutcome)
  /-- REPAIR_DONE (R379): Firmware rewrites an uncorrectable word from the running configuration. -/
  | repairDone (l : LaneId)
  /-- MERGE_IDLE_DRAIN (R376): A merge-buffer entry idle for 16 cycles is drained by read-modify-write. -/
  | mergeIdleDrain (l : LaneId) (found : EccOutcome) (parityBad : Bool)
  /-- FAULT_HANDLING_DONE (R386): Firmware marks a latched fault record HANDLED. -/
  | faultHandlingDone (l : LaneId) (cls : BitVec 3)
  /-- FAULT_HANDLED_TIMEOUT (R386): The collector sets HANDLED itself 100 µs after a latch. -/
  | faultHandledTimeout (l : LaneId) (cls : BitVec 3)
  /-- FLOCK_CYCLE_START (R271): A Welor cycle starts and the previous cycle's synchronisation and loss checks are applied. -/
  | flockCycleStart (l : LaneId)
  /-- STATIC_SLOT_ACTION_POINT (R267): At an own static slot's action point the transmitting lane sends its frame. -/
  | staticSlotActionPoint (l : LaneId) (ch : Channel) (slot : Nat)
  /-- MINISLOT_BOUNDARY (R275): A minislot boundary advances the dynamic slot counter and may start a pending dynamic frame. -/
  | minislotBoundary (l : LaneId) (ch : Channel) (idle : Bool)
  /-- STATIC_FRAME_RECEIVED (R274): A static frame is accepted or discarded by the window, CRC, slot, length and source tests. -/
  | staticFrameReceived (l : LaneId) (ch : Channel) (f : RxFrame)
  /-- DYNAMIC_FRAME_RECEIVED (R275): A dynamic frame is accepted when it matches the slot counter and window. -/
  | dynamicFrameReceived (l : LaneId) (ch : Channel) (f : RxFrame)
  /-- COMMAND_FRAGMENT (R292): A remote command fragment is reassembled, and a completed packet is passed to its flow and replicated. -/
  | commandFragment (l : LaneId) (ch : Channel) (source : Half) (payload : List Byte)
  /-- REASSEMBLY_TIMEOUT (R292): A reassembly not complete within 16 cycles is discarded and counted. -/
  | reassemblyTimeout (l : LaneId) (source : Half) (msgId : Byte)
  /-- CAS_RECEIVED (R277): A received CAS makes a listening or waiting cold-start node integrate. -/
  | casReceived (l : LaneId) (ch : Channel)
  /-- COLDSTART_LISTEN_EXPIRY (R276): The silent listening period ends and the cold-start node makes an attempt with CAS and startup frame. -/
  | coldstartListenExpiry (l : LaneId)
  /-- COLLISION_WAIT_EXPIRY (R277): After a collision wait with nothing heard, the node retries or gives up. -/
  | collisionWaitExpiry (l : LaneId)
  /-- GANDER_WINDOW_EDGE (R283): Lane 2 opens or closes BGE at a Gander window edge. -/
  | ganderWindowEdge (l : LaneId) (ch : Channel) (opens active readback : Bool)
  /-- CLAIM_BACKOFF_EXPIRY (R287): After b cycles of backoff the claimant chooses a slot again. -/
  | claimBackoffExpiry (l : LaneId) (ch : Channel)
  /-- CLAIM_HOLDER_SILENT (R288): A holder silent for 16 cycles is removed from the claim table. -/
  | claimHolderSilent (l : LaneId) (ch : Channel) (slot : Nat)
  /-- CORE_SUPPLY_READY (R395): The core supply reaches 0.80 V after VIN good, and the always-on hardware reads the Colt record and applies ALL_OFF or ACTIVE_SHORT. -/
  | coreSupplyReady (l : LaneId) (nvm : List (Nat × EccOutcome))
  /-- BACK_ABOVE_UVLO (R245): A gate supply rises back above its rising UVLO threshold, which ends its forcing of the gates, and in the Colt stage the always-on hardware precharges and applies the Colt action again. -/
  | backAboveUvlo (l : LaneId) (supply : Option Leg)
  /-- RESTART_RECORD_WAIT (R408): When a restarting lane receives no sample record from a lane that holds a role within 100 µs, the always-on hardware applies the Colt action and the lane joins a new election. -/
  | restartRecordWait (l : LaneId)
  /-- TAP_INSTRUCTION (R442): An instruction updated into a lane's TAP through the IEEE 1149.1 port takes effect on that lane, for example EXTEST, which holds its gate outputs off. -/
  | tapInstruction (l : LaneId) (t : TapInstr)
  deriving DecidableEq, Repr

end Sys2Proof
end

