-- ==== Sys2Proof/Decode.lean ====
section
/-! DEFINITION. Decoding a word of the opcode table. No row of spec/opcode_table.json gives bits: a command of this
block is a transaction, a packet or an event, and no word spells one.
Log entries: 11 (DESIGN CHOICE). -/

namespace Sys2Proof

/-- The command that a word of the table spells: none, for every width. -/
def decodeTableWord (nbits w : Nat) : Option Instr :=
  match nbits, w with
  | _, _ => none

end Sys2Proof
end

