-- ==== Sys2Proof/Machine/Bits.lean ====
section
/-! DEFINITION. Bit fields, byte order, the numbers of lanes, links, legs and domains, and the per-lane triple.
Log entries: 63 (DEDUCED); 24 (DESIGN CHOICE). -/

namespace Sys2Proof

/-- The lane's number (01 R14). -/
def LaneId.num : LaneId → Nat
  | .l0 => 0 | .l1 => 1 | .l2 => 2

/-- The lane of a number, if it is one. -/
def LaneId.ofNum : Nat → Option LaneId
  | 0 => some .l0 | 1 => some .l1 | 2 => some .l2 | _ => none

/-- The lanes in ascending number. -/
def LaneId.all : List LaneId := [.l0, .l1, .l2]

/-- The two other lanes, in ascending number. -/
def LaneId.others : LaneId → List LaneId
  | .l0 => [.l1, .l2] | .l1 => [.l0, .l2] | .l2 => [.l0, .l1]

def Tri.get {α : Type} (t : Tri α) : LaneId → α
  | .l0 => t.a0 | .l1 => t.a1 | .l2 => t.a2

def Tri.set {α : Type} (t : Tri α) (l : LaneId) (v : α) : Tri α :=
  match l with
  | .l0 => { t with a0 := v } | .l1 => { t with a1 := v } | .l2 => { t with a2 := v }

def Tri.upd {α : Type} (t : Tri α) (l : LaneId) (f : α → α) : Tri α := t.set l (f (t.get l))

def Tri.map {α β : Type} (t : Tri α) (f : α → β) : Tri β := ⟨f t.a0, f t.a1, f t.a2⟩

def Tri.toList {α : Type} (t : Tri α) : List α := [t.a0, t.a1, t.a2]

/-- A value for each lane, from the lane. -/
def Tri.tab {α : Type} (f : LaneId → α) : Tri α := ⟨f .l0, f .l1, f .l2⟩

/-- The mask with bit n for lane n. -/
def Tri.mask (t : Tri Bool) : Nat := t.a0.toNat + 2 * t.a1.toNat + 4 * t.a2.toNat

/-- The lanes whose value is true, in ascending number. -/
def Tri.lanes (t : Tri Bool) : List LaneId := LaneId.all.filter t.get

/-- The lanes a mask names, bit n for lane n. -/
def Tri.ofMask (m : Nat) : Tri Bool := ⟨m.testBit 0, m.testBit 1, m.testBit 2⟩

/-- The link that joins two lanes. -/
def Link.between : LaneId → LaneId → Option Link
  | .l0, .l1 => some .k01 | .l1, .l0 => some .k01
  | .l1, .l2 => some .k12 | .l2, .l1 => some .k12
  | .l2, .l0 => some .k20 | .l0, .l2 => some .k20
  | _, _ => none

/-- Link 0 is 0–1, link 1 is 1–2, link 2 is 2–0 (01, The herdline). -/
def Link.num : Link → Nat
  | .k01 => 0 | .k12 => 1 | .k20 => 2

/-- The lane at the other end of a link of lane `l`, if `l` is at one of its ends. -/
def Link.peer : Link → LaneId → Option LaneId
  | .k01, .l0 => some .l1 | .k01, .l1 => some .l0
  | .k12, .l1 => some .l2 | .k12, .l2 => some .l1
  | .k20, .l2 => some .l0 | .k20, .l0 => some .l2
  | _, _ => none

/-- The lanes a link joins. -/
def Link.ends (k : Link) : List LaneId := LaneId.all.filter fun j => (k.peer j).isSome

/-- The link of a number. -/
def Link.ofNum : Nat → Link
  | 0 => .k01 | 1 => .k12 | _ => .k20

/-- A lane's links are kept as a triple: link 0–1, 1–2, 2–0 under the lanes 0, 1 and 2. -/
def Link.slot : Link → LaneId
  | .k01 => .l0 | .k12 => .l1 | .k20 => .l2

def Channel.num : Channel → Nat
  | .A => 0 | .B => 1

def Leg.num : Leg → Nat
  | .A => 0 | .B => 1 | .C => 2

def Leg.bit : Leg → BitVec 3
  | .A => 1 | .B => 2 | .C => 4

def Domain.num : Domain → Nat
  | .aon => 0 | .cpu => 1 | .ox => 2 | .mem => 3 | .ana => 4 | .gate => 5 | .flock => 6 | .host => 7

def Domain.all : List Domain := [.aon, .cpu, .ox, .mem, .ana, .gate, .flock, .host]

/-- The domains a mask names, bit = domain number (11 Table 11-12). -/
def Domain.ofMask (m : Byte) : List Domain := Domain.all.filter fun d => m.getLsbD d.num

/-- The flow of a port (09 R311). -/
def Sender.lane? : Sender → Option LaneId
  | .spi l => some l | .remote _ => none

/-- Add 1, saturating at all ones. -/
def satInc {w : Nat} (x : BitVec w) : BitVec w := if x = BitVec.allOnes w then x else x + 1

/-- Add a number, saturating at all ones. -/
def satAdd {w : Nat} (x : BitVec w) (n : Nat) : BitVec w :=
  if x.toNat + n < 2 ^ w then BitVec.ofNat w (x.toNat + n) else BitVec.allOnes w

/-- A number limited to the largest value of the width. -/
def satNat (w n : Nat) : BitVec w := if n < 2 ^ w then BitVec.ofNat w n else BitVec.allOnes w

/-- Bits [lo + len − 1 : lo] of a word as a number. -/
def fieldOf {w : Nat} (x : BitVec w) (lo len : Nat) : Nat := x.toNat / 2 ^ lo % 2 ^ len

/-- A word from values placed at their lowest bits. -/
def packWord : List (Nat × Nat) → Word
  | [] => 0
  | (lo, v) :: r => BitVec.ofNat 32 (v * 2 ^ lo) ||| packWord r

/-- The bytes of a word, least significant first (00 R5). -/
def le16 (h : Half) : List Byte := [h.setWidth 8, (h >>> 8).setWidth 8]
def le24 (x : BitVec 24) : List Byte := [x.setWidth 8, (x >>> 8).setWidth 8, (x >>> 16).setWidth 8]
def le32 (w : Word) : List Byte := [w.setWidth 8, (w >>> 8).setWidth 8, (w >>> 16).setWidth 8, (w >>> 24).setWidth 8]
def le64 (d : BitVec 64) : List Byte := le32 (d.setWidth 32) ++ le32 ((d >>> 32).setWidth 32)

/-- The bytes of a word, most significant first (08 R266, 09 R299). -/
def be16 (h : Half) : List Byte := (le16 h).reverse
def be32 (w : Word) : List Byte := (le32 w).reverse

/-- Byte `o` of a block, 0 beyond its end. -/
def byteAt (b : List Byte) (o : Nat) : Byte := b.getD o 0

def rd16 (b : List Byte) (o : Nat) : Half := (byteAt b (o + 1)) ++ (byteAt b o)
def rd32 (b : List Byte) (o : Nat) : Word := rd16 b (o + 2) ++ rd16 b o
def rd64 (b : List Byte) (o : Nat) : BitVec 64 := rd32 b (o + 4) ++ rd32 b o
def rd16be (b : List Byte) (o : Nat) : Half := (byteAt b o) ++ (byteAt b (o + 1))
def rd24be (b : List Byte) (o : Nat) : BitVec 24 := byteAt b o ++ rd16be b (o + 1)
def rd32be (b : List Byte) (o : Nat) : Word := rd16be b o ++ rd16be b (o + 2)

/-- Are all the bytes from `o` for `n` bytes 0: a reserved field of a block (11 R347). -/
def zerosAt (b : List Byte) (o n : Nat) : Bool := ((b.drop o).take n).all (· == 0)

/-- `n` zero bytes. -/
def zeros (n : Nat) : List Byte := List.replicate n 0

/-- A list padded with zeros, or cut, to `n` bytes. -/
def fitBytes (n : Nat) (b : List Byte) : List Byte := (b ++ zeros (n - b.length)).take n

/-- The little-endian words of a byte list, the last one padded with zeros. -/
def wordsOf (n : Nat) (b : List Byte) : List Word := (List.range n).map fun i => rd32 b (4 * i)

/-- A time `t` is after `u` (00 R9): (t − u) mod 2³² lies in 1 to 2³¹ − 1. -/
def timeAfter (t u : Word) : Bool := let d := (t - u).toNat; 1 ≤ d && d < 2 ^ 31

/-- `t` is at or after `u`. -/
def timeNotBefore (t u : Word) : Bool := t == u || timeAfter t u

/-- The Hall states in forward order (05 R185). -/
def hallOrder : List (BitVec 3) := [0b001, 0b011, 0b010, 0b110, 0b100, 0b101]

/-- The place of a Hall state in the order; none for 0b000 and 0b111. -/
def hallIdx (h : BitVec 3) : Option Nat := hallOrder.findIdx? (· == h)

end Sys2Proof
end

