-- ==== Sys2Proof/Machine/Crc.lean ====
section
/-! DEFINITION. The cyclic codes of the manual: CRC-8 (09 R299), CRC-16 and CRC-24 (08 Table 8-2), CRC-32C
(08 Table 8-3) and CRC-32 (04 R145). -/

namespace Sys2Proof

/-- Shift one bit of an unreflected CRC of width `w` and polynomial `p`. -/
def crcBit {w : Nat} (p c : BitVec w) : BitVec w := if c.msb then (c <<< 1) ^^^ p else c <<< 1

/-- Take in one byte, most significant bit first. -/
def crcByte {w : Nat} (p c : BitVec w) (b : Byte) : BitVec w :=
  (List.range 8).foldl (fun c _ => crcBit p c) (c ^^^ (b.setWidth w <<< (w - 8)))

/-- Shift one bit of a reflected CRC; `p` is the reflected polynomial. -/
def crcBitR (p c : Word) : Word := if c.getLsbD 0 then (c >>> 1) ^^^ p else c >>> 1

/-- Take in one byte of a reflected CRC. -/
def crcByteR (p c : Word) (b : Byte) : Word :=
  (List.range 8).foldl (fun c _ => crcBitR p c) (c ^^^ b.setWidth 32)

/-- 09 R299: polynomial 0x2F, initial value 0xFF, no reflection, final exclusive-or with 0xFF. -/
def crc8 (bs : List Byte) : Byte := bs.foldl (crcByte 0x2F#8) 0xFF#8 ^^^ 0xFF#8

/-- 08 Table 8-2 HCRC: polynomial 0x1021, initial value 0xFFFF, no reflection, no final complement. -/
def crc16 (bs : List Byte) : Half := bs.foldl (crcByte 0x1021#16) 0xFFFF#16

/-- 08 Table 8-2 FCRC: polynomial 0x86_4CFB, initial value 0xB7_04CE. -/
def crc24 (bs : List Byte) : BitVec 24 := bs.foldl (crcByte 0x864CFB#24) 0xB704CE#24

/-- 08 Table 8-3: CRC-32C, polynomial 0x1EDC_6F41 reflected (0x82F6_3B78), initial and final 0xFFFF_FFFF. -/
def crc32c (bs : List Byte) : Word := bs.foldl (crcByteR 0x82F63B78#32) 0xFFFFFFFF#32 ^^^ 0xFFFFFFFF#32

/-- 04 R145: CRC-32, polynomial 0x04C1_1DB7 reflected (0xEDB8_8320). -/
def crc32 (bs : List Byte) : Word := bs.foldl (crcByteR 0xEDB88320#32) 0xFFFFFFFF#32 ^^^ 0xFFFFFFFF#32

end Sys2Proof
end

