-- ==== Sys2Proof/Config.lean ====
section
/-! DEFINITION. What an implementation fixes and the manual leaves open: constants with no body, so that
nothing can be proved of their values (log entry 3).
Log entries: 36, 45 (DEDUCED); 3, 28, 76 (DESIGN CHOICE). -/

namespace Sys2Proof.Config

/-- 03 R103: sin in PARK and IPARK lies within 4 × 2⁻²⁴ of the exact value. The offset, 4 meaning none, is free. -/
opaque sinErr : Word → Fin 9
/-- As `sinErr`, for cos. -/
opaque cosErr : Word → Fin 9
/-- 11 Table 11-6: ROM_VERSION is not stated. -/
opaque romVersion : Word
/-- 11 Table 11-6: the die identity is fixed at manufacture. -/
opaque dieId : LaneId → BitVec 64
/-- 08 R287: the draw of 1–8 cycles, less 1, from the node ID, the flock time and the number of the draw. -/
opaque claimDraw : Word → Word → Nat → Fin 8
/-- 02 R79, 14 R451: a pulse between the two filter bounds may or may not act. -/
opaque shortPulseActs : Nat → Bool
/-- 13 Table 13-15: the VIN and VCORE readings before the first conversion, in mV, which the manual does not state. -/
opaque supplyReading : Nat → Half

/-- 07 R261: GATES and SENSED are sampled at the read, and inside a PWM period the manual fixes no instant for it:
which of the switching gates are on is free, by lane and time. -/
opaque gateLevels : LaneId → Nat → BitVec 6

/-- 07 R240, R261: what the sense comparators of a leg that failed the handshake show: free, by lane and time. -/
opaque senseLevels : LaneId → Nat → BitVec 6

/-- 07 R257: what the short-circuit comparators show at a clear is outside the lane's digital state: free, by lane and time. -/
opaque shuntHigh : LaneId → Nat → Bool

/-- 07 R257: whether a supply of the gate drive is below its rising threshold at a clear, which no command says: free, by lane and time. -/
opaque supplyLow : LaneId → Nat → Bool

/-- 03 Table 3-2 PROBE: the value in modes 1 and 2 where no PI or PID drives in0. -/
opaque probeOther : Word → Word

/-- 06 Table 6-3: the NTC value at code 0, where the formula takes the logarithm of 0. -/
opaque ntcOpen : Word

/-- 04 Table 4-8: LAST_KIND of a poisoned state word, for which the table gives no code. -/
opaque statePoisonKind : BitVec 2

/-- 12 R379: which words of the flock buffers hold a schedule or subscription copy, which the manual does not lay out. -/
opaque scheduleCopy : Nat → Bool

/-- What a word of the Ox node memory, the first 2,048 words of memory 3, holds. -/
inductive OxUse where
  | record (node : Nat) | state (node : Nat) | checkpoint (part : Nat) | spare
  deriving DecidableEq, Repr, Inhabited

/-- 12 Table 12-1, R381: which node records, state words and checkpoints lie in which word of the Ox node memory, which the manual does not
lay out. -/
opaque oxWord : Nat → OxUse

/-- 12 R379: the word of CPU SRAM with the running configuration's copy of a word of another memory, by memory and word. -/
opaque sramCopy : Nat → Nat → Nat

/-- 12 Table 12-2: the word of CPU SRAM in which the sample record is put together, by lane. -/
opaque recordWord : LaneId → Nat

/-- 12 Table 12-1: is a word of the flock buffers that of the frame of a channel and slot? The manual does not lay them out. -/
opaque frameWord : Channel → Nat → Nat → Bool

/-- 06 R214: the Hall angle in an impossible Hall state before any edge, for which the manual gives no sector: free, by time. -/
opaque hallNoState : Nat → Word

/-- 01 R16, R18: the time a record takes over a link, up to 1 µs, in 10 ns. -/
opaque linkLatency : Fin 101

/-- 13 R401: the conducting current of a period of the Colt PWM is measured, and no command carries its codes: free, by lane and draw. -/
opaque coltCurrent : LaneId → Nat → Word

/-- 13 R431, 11 R371: what a self-test or a start test measures beyond its verdict, for which the manual fixes no layout or
value: free, by draw. -/
opaque testByte : Nat → Byte

/-- 14 R442: the manufacturer's number in IDCODE, which the manual does not state. -/
opaque tapMaker : BitVec 11

/-- 14 R442: what the boundary register of a lane, or the register of a debug instruction, holds when it is captured: the manual does not lay
it out. Free, by lane and time. -/
opaque boundary : LaneId → Nat → List Bool

/-- 12 Table 12-1: which image a word of the NVM belongs to (0 A, 1 B, 2 neither): the manual does not lay the NVM out. -/
opaque nvmImage : Nat → Fin 3

end Sys2Proof.Config
end

