-- ==== Sys2Proof/Machine/Fixed.lean ====
section
/-! DEFINITION. s7.24 arithmetic (00 R6, 03 R98, R99), turns (00 R7), and the functions of a real argument that the
manual's formulas name, evaluated on integers scaled by 2⁶⁰ before the one rounding.
Log entries: 58 (DEDUCED). -/

namespace Sys2Proof

/-- 1.0 in s7.24. -/
def qOne : Word := 0x01000000
/-- The unit of s7.24, 2²⁴. -/
def qUnit : Int := 16777216

/-- Saturate an s7.24 number to its range (R6). -/
def satQ (x : Int) : Word :=
  if x < -2147483648 then 0x80000000
  else if 2147483647 < x then 0x7FFFFFFF
  else BitVec.ofInt 32 x

/-- Does a result saturate (03 R100). -/
def satQd (x : Int) : Bool := x < -2147483648 || 2147483647 < x

/-- n / d, d > 0, to the nearest integer, ties toward +∞ (R98). -/
def roundDiv (n d : Int) : Int := (2 * n + d) / (2 * d)

/-- n / d of any sign, to the nearest integer, ties toward +∞; d ≠ 0. -/
def roundQuot (n d : Int) : Int := if d < 0 then roundDiv (-n) (-d) else roundDiv n d

/-- The rounded product of two s7.24 numbers, before saturation (R98). -/
def mulQ (a b : Int) : Int := roundDiv (a * b) qUnit

/-- The quotient of two s7.24 numbers in s7.24, before saturation; by zero under R98. -/
def quotQ (a b : Int) : Int :=
  if b = 0 then (if a = 0 then 0 else if a < 0 then -2147483648 else 2147483647)
  else roundQuot (a * qUnit) b

/-- Does a quotient set SAT: it saturates, or divides a number other than 0 by 0 (R98). -/
def quotSat (a b : Int) : Bool := if b = 0 then a ≠ 0 else satQd (quotQ a b)

def clampI (x lo hi : Int) : Int := if x < lo then lo else if hi < x then hi else x

def signI (x : Int) : Int := if x < 0 then -1 else if 0 < x then 1 else 0

def absI (x : Int) : Int := if x < 0 then -x else x

/-- The signed 32-bit difference of two angles (06 R215 wrap). -/
def wrapDiff (a b : Word) : Int := (a - b).toInt

/-- The square root of a number, rounded down, by bits from `n` down. -/
def isqrtFrom (x : Nat) : Nat → Nat → Nat
  | 0, r => r
  | n + 1, r => let t := r + 2 ^ n; isqrtFrom x n (if t * t ≤ x then t else r)

def isqrt (x : Nat) : Nat := isqrtFrom x 48 0

/-- 2⁶⁰. -/
def one60 : Int := 1152921504606846976
/-- π/2 × 2⁶⁰. -/
def halfPi60 : Int := 1811004864519280711

/-- The series of sin from the term of degree `n`: `t` is the present term, `x2` the square of the argument. -/
def sinSeries (x2 : Int) : Nat → Int → Int → Int → Int
  | 0, _, _, acc => acc
  | k + 1, n, t, acc =>
    let t' := -(t * x2 / one60) / ((n + 1) * (n + 2))
    sinSeries x2 k (n + 2) t' (acc + t')

/-- sin of `r` / 2³⁰ of a quarter turn, 0 ≤ r ≤ 2³⁰, times 2⁶⁰. -/
def sinQuarter (r : Int) : Int :=
  let x := r * halfPi60 / 1073741824
  sinSeries (x * x / one60) 14 1 x x

/-- sin of an angle in turns, times 2⁶⁰. -/
def sin60 (th : Word) : Int :=
  let r : Int := fieldOf th 0 30
  match fieldOf th 30 2 with
  | 0 => sinQuarter r
  | 1 => sinQuarter (1073741824 - r)
  | 2 => -sinQuarter r
  | _ => -sinQuarter (1073741824 - r)

/-- cos of an angle in turns, times 2⁶⁰. -/
def cos60 (th : Word) : Int := sin60 (th + 0x40000000)

/-- A value within 4 × 2⁻²⁴ of the exact one (03 R103), at the free offset `e`. -/
def nearQ (exact60 : Int) (e : Fin 9) : Int :=
  let r := roundDiv exact60 (one60 / qUnit)
  let v := r + (e.val : Int) - 4
  if absI (v * (one60 / qUnit) - exact60) ≤ 4 * (one60 / qUnit) then v else r

/-- sin and cos as PARK and IPARK form them. -/
def sinQ (th : Word) : Int := nearQ (sin60 th) (Config.sinErr th)
def cosQ (th : Word) : Int := nearQ (cos60 th) (Config.cosErr th)

/-- The angle of (s, c) in 1/131,072 turn within a half turn, rounded down, by bits: the angle is at or above a
boundary b when s cos b − c sin b ≥ 0. -/
def atanBits (s c : Int) : Nat → Nat → Nat
  | 0, m => m
  | n + 1, m =>
    let t := m + 2 ^ n
    let b := BitVec.ofNat 32 (t * 32768)
    atanBits s c n (if 0 ≤ s * cos60 b - c * sin60 b then t else m)

/-- 06 R203: atan2(s, c) in 1/65,536 period, to the nearest with ties up, 65,536 wrapping to 0. -/
def atan16 (s c : Int) : Half :=
  if s = 0 && c = 0 then 0
  else
    let low := 0 < s || (s = 0 && 0 < c)
    let m := atanBits (if low then s else -s) (if low then c else -c) 16 0 + (if low then 0 else 65536)
    BitVec.ofNat 16 ((m + 1) / 2)

/-- ln 2 × 2⁶⁰. -/
def ln2by60 : Int := 799144290325165979

/-- The series 2 (z + z³/3 + …) of ln((1 + z)/(1 − z)). -/
def atanhSeries (z2 : Int) : Nat → Int → Int → Int → Int
  | 0, _, _, acc => acc
  | k + 1, n, t, acc =>
    let t' := t * z2 / one60
    atanhSeries z2 k (n + 2) t' (acc + t' / (n + 2))

/-- ln of p / q, both positive, times 2⁶⁰: powers of two are taken out first. -/
def ln60 (p q : Nat) : Int :=
  let e : Int := (p.log2 : Int) - (q.log2 : Int)
  let p' : Int := if e < 0 then (p : Int) * 2 ^ (-e).toNat else p
  let q' : Int := if e < 0 then q else (q : Int) * 2 ^ e.toNat
  let z := (p' - q') * one60 / (p' + q')
  e * ln2by60 + 2 * atanhSeries (z * z / one60) 30 1 z z

end Sys2Proof
end

