-- ==== Sys2Proof/Machine/State.lean ====
section
/-! DEFINITION. The state of the SX7264: everything the manual gives each of the three lanes, as plain data, and the
state before the first supply. The default of a field is its value in `State.reset`; a default the manual does not
give is zero or absent by log entry 2.
Log entries: 4, 37, 38, 45, 66, 72 (DEDUCED); 1, 2, 3, 5, 11, 65, 67, 76, 78, 80 (DESIGN CHOICE). -/

namespace Sys2Proof.Machine

/-- A sparse memory: keys strictly rising, no entry equal to what an unlisted key reads as (0 or absent). -/
abbrev Store (α : Type) := List (Nat × α)

/-- The roles of a lane (01 R27). -/
inductive Role where
  | lead | standby | watch | none
  deriving DecidableEq, Repr

/-- PHASE of 13 Table 13-16. -/
inductive Phase where
  | cold | colt | fwStart | announced | full | minimal | shutdownTest | poweredDown
  deriving DecidableEq, Repr

/-- The fault kinds of 02 Table 2-1: L, W, S, C, K, H. -/
inductive FKind where
  | lane | winding | sensor | channel | link | host
  deriving DecidableEq, Repr

/-- A standing fault (02 R59): its kind, the lane it is on, the part (channel, link) and the source code of
12 Table 12-4 that raised it (0 none). -/
structure Standing where
  kind : FKind
  lane : LaneId
  part : Nat := 0
  src : Byte := 0
  deriving DecidableEq, Repr

/-- SAFE_STATE of 02 Table 2-5. -/
inductive Safe where
  | full | degraded | netHold | mule | ss1 | stopped | colt
  deriving DecidableEq, Repr

/-- END_STATE of 02 Table 2-5. -/
inductive EndState where
  | none | sto | activeShort | colt
  deriving DecidableEq, Repr

/-- The fields of a herdline sample record (01 Table 1-1). -/
structure HerdRec where
  lane : BitVec 2 := 0
  role : BitVec 2 := 3
  debug : Bool := false
  excl : Bool := false
  posOk : Bool := false
  spdOk : Bool := false
  seq : Byte := 0
  health : Half := 0
  ia : Half := 0
  ib : Half := 0
  pos : Word := 0
  speed : Word := 0
  tq : Word := 0
  integ : Word := 0
  index : BitVec 3 := 0
  gen : Byte := 0
  age : Half := 0
  deriving DecidableEq, Repr

/-- The newest record held from a lane, with its sample instant (01 R22) and the last arrival of a record of the lane (02 R65), on the
receiving lane's clock. -/
structure Held where
  r : HerdRec
  inst10 : Nat
  at10 : Nat := 0
  deriving DecidableEq, Repr

/-- An announcement held for the election (01 R27, 13 R401). -/
structure Announced where
  gen : BitVec 24
  minimal : Bool
  current : Word
  deriving DecidableEq, Repr

/-- A requesting host's count of wrong keys, the instants they came on the lane's clock, and its lockout (01 R54). -/
structure KeyCount where
  host : Sender
  times : List Nat
  locked : Bool
  deriving DecidableEq, Repr

/-- What a lane sends on the herdline (01 R16, R19 and the chapters that name the message). -/
inductive HerdMsg where
  | record (bytes : List Byte)
  | time (t : Word)
  | laneDown
  | bridgeDown
  | exclude (named : LaneId)
  | kill (named : LaneId)
  | handover
  | shareOut
  | traceTrigger (inst10 : Nat)
  | plannedSleep
  | safeRecord (bytes : List Byte)
  | cut (ch : Channel)
  | claim (ch : Channel) (slot : Nat)
  | announce (gen : BitVec 24) (minimal : Bool) (current : Word)
  | packet (m : ReplMsg)
  | result (origin : LaneId) (rn : Nat) (r : LaneRes)
  | prepare
  | prepAns (a : PrepAns)
  | apply (gen : Byte)
  | sleepAns (coordinator : LaneId) (a : SleepAns)
  | sleepCommit
  | sleepRollback
  | remoteEvents (node dest : Half) (msgId : Byte) (recs : List EventRec)
  | dynFrame (payload : List Byte)
  deriving DecidableEq, Repr

/-- The LANE engine: links, records, votes, roles, herdline bookkeeping (01). `devHit`: the torque count of a lane reached its limit and waits
for the test of 1 ms later (05 R182); `ownCleared`: the loss of that lane's own sensor has been cleared here (06 R210); `numbered`: one above
the last packet of that lane that has a replication number (01 R40); `lateCheckBad`, `lateResidueBad`, `lateUc`: what a check event after the
release point leaves for the record after the one released there (04 R147). -/
structure LaneEng where
  role : Role := .none
  lead : Option LaneId := none
  standby : Option LaneId := none
  debug : Bool := false
  excluded : Bool := false
  healthy : Tri Bool := ⟨false, false, false⟩
  up01 : Bool := false
  up12 : Bool := false
  up20 : Bool := false
  relay : Bool := false
  linkErr : Tri Half := ⟨0, 0, 0⟩
  linkMiss : Tri Byte := ⟨0, 0, 0⟩
  linkSeen : Tri Bool := ⟨false, false, false⟩
  linksRx : Tri Bool := ⟨false, false, false⟩
  isolated : Bool := false
  gen : Byte := 0
  switchCount : Half := 0
  lastGap : Half := 0
  gapFrom : Option Nat := none
  violCount : Word := 0
  violAddr : BitVec 24 := 0
  violWrite : Bool := false
  violUnmapped : Bool := false
  recs : Tri (Option Held) := ⟨none, none, none⟩
  miss : Tri Byte := ⟨0, 0, 0⟩
  silent : Tri Bool := ⟨false, false, false⟩
  down : Tri Bool := ⟨false, false, false⟩
  sleeping : Tri Bool := ⟨false, false, false⟩
  bridgeDown : Tri Bool := ⟨false, false, false⟩
  tqCnt : Tri Byte := ⟨0, 0, 0⟩
  posCnt : Tri Byte := ⟨0, 0, 0⟩
  spdCnt : Tri Byte := ⟨0, 0, 0⟩
  devCnt : Tri Byte := ⟨0, 0, 0⟩
  twoDev : Byte := 0
  devHit : Tri Bool := ⟨false, false, false⟩
  disregard : Tri Bool := ⟨false, false, false⟩
  posIn : Tri Bool := ⟨false, false, false⟩
  spdIn : Tri Bool := ⟨false, false, false⟩
  tqIn : Tri Bool := ⟨false, false, false⟩
  ownSeen : Tri Bool := ⟨false, false, false⟩
  ownLost : Tri Bool := ⟨false, false, false⟩
  ownCleared : Tri Bool := ⟨false, false, false⟩
  tqAcc : Word := 0
  tqOwn : Word := 0
  accepting : Bool := false
  roleSet : Option LaneId := none
  killed : Bool := false
  acceptMask : Tri Bool := ⟨false, false, false⟩
  exclAt : Tri (Option Nat) := ⟨none, none, none⟩
  dropNow : Bool := false
  rejoin : Option Nat := none
  announced : Tri (Option Announced) := ⟨none, none, none⟩
  electionOpen : Bool := false
  nextRn : Nat := 0
  numbered : Tri Nat := ⟨0, 0, 0⟩
  claim : Option Sender := none
  claimCount : List KeyCount := []
  lockstepOk : Bool := true
  checkOk : Bool := true
  residueOk : Bool := true
  ucRaised : Bool := false
  lateCheckBad : Bool := false
  lateResidueBad : Bool := false
  lateUc : Bool := false
  laneRegs : Tri Word := ⟨0, 0, 0⟩
  debugReq : Option Bool := none
  halted : Bool := false
  formerLead : Option LaneId := none
  formerStandby : Option LaneId := none
  debugNamed : Option LaneId := none
  leadSeen : Bool := false
  left : Tri Bool := ⟨true, true, true⟩
  trackAt : Option Nat := none
  deriving DecidableEq, Repr

/-- The SS1 run of a lane (02 R76, R77): `n0` is absent until the first medium execution, `seen` says that the medium execution
in progress started in the run, and the items keep the values they had when it started (R83). -/
structure Ss1Run where
  n0 : Option Word := none
  t : Nat := 0
  still : Nat := 0
  viol : Nat := 0
  invalid : Nat := 0
  seen : Bool := false
  decel : Word
  margin : Word
  stand : Word
  textra : Nat
  endState : EndState
  cap : Word
  scale : Word
  deriving DecidableEq, Repr

/-- Standing faults and the safe-state registers (02). `m2`: condition M2 stands, until a second winding carries a share (02 R71). -/
structure SafeEng where
  faults : List Standing := []
  state : Safe := .colt
  muleCause : Byte := 0
  muleRemain : Half := 12000
  muleUs : Nat := 0
  mule : Bool := false
  stopCause : Byte := 0
  endState : EndState := .none
  stoLow : Tri Bool := ⟨false, false, false⟩
  stateUnsync : Bool := true
  stateTime : Word := 0
  ss1Req : Bool := false
  ss1 : Option Ss1Run := none
  stoReq : Bool := false
  netHold : Bool := false
  netStale : Bool := false
  unresolved : Bool := false
  startOne : Bool := false
  prevCounted : List (FKind × LaneId × Nat) := []
  prevCond : Nat := 0
  leadMule : Bool := false
  m2 : Bool := false
  deriving DecidableEq, Repr

/-- An input reference (03 Table 3-3). -/
structure InRef where
  node : Byte := 0
  word : BitVec 2 := 0
  delay : Bool := false
  connected : Bool := false
  deriving DecidableEq, Repr

/-- A node record (03 Table 3-1). Reserved fields are 0 in every record the lane stores (11 R347). -/
structure NodeRec where
  typ : Byte := 0
  part : BitVec 2 := 0
  tracked : Bool := false
  trackIdx : BitVec 3 := 0
  muleScaled : Bool := false
  arbiter : Bool := false
  nin : BitVec 4 := 0
  mode : BitVec 4 := 0
  inUse : BitVec 4 := 0
  ins : List InRef := []
  attr : Word := 0
  ps : List Word := []
  tblBase : Half := 0
  tblLen : Half := 0
  deriving DecidableEq, Repr

/-- Four output words and the poison mark of each (12 R381). -/
structure Outs where
  o1 : Word := 0
  o2 : Word := 0
  o3 : Word := 0
  o4 : Word := 0
  poison : BitVec 4 := 0
  deriving DecidableEq, Repr

/-- The run-time state of a node (03 R95–R124). `visInteg` and `visBc` are what other partitions see of the integrator and of the
back-calculation term, as `vis` is of the outputs (03 R96). -/
structure NodeSt where
  cur : Outs := {}
  vis : Outs := {}
  sat : Bool := false
  integ : BitVec 48 := 0
  d : Word := 0
  xPrev : Word := 0
  p : Word := 0
  ff : Word := 0
  u : Word := 0
  y : Word := 0
  bc : BitVec 40 := 0
  visInteg : BitVec 48 := 0
  visBc : BitVec 40 := 0
  h0 : Word := 0
  h1 : Word := 0
  h2 : Word := 0
  h3 : Word := 0
  cnt : Nat := 0
  manual : Option Word := none
  herdSet : Option Word := none
  devPreset : Option Word := none
  spNew : Option Word := none
  spVal : Word := 0
  spFresh : Bool := false
  first : Bool := true
  kpOld : Option Word := none
  deriving DecidableEq, Repr

/-- The node states of a graph, by node number. -/
abbrev Nodes := Store NodeSt

/-- A medium or slow execution in progress (04 R137): the CLK_OX cycles still to run, the states it will install,
and the check event it will end in. -/
structure PartRun where
  cycles : Nat
  start : Nodes
  done : Nodes
  fault : Option CheckFault
  deriving DecidableEq, Repr

/-- The duties, STATUS and PUBLISH values staged by a fast execution (04 R135). -/
structure Staged3 where
  duties : Option (Tri Word)
  poisoned : Bool
  sinks : List (Nat × Word × Bool) := []
  deriving DecidableEq, Repr

/-- GRAPH of 04 Table 4-8. -/
inductive GraphState where
  | none | active | stopped | debug
  deriving DecidableEq, Repr

/-- The Ox engine (03, 04). -/
structure OxEng where
  graphState : GraphState := .none
  signature : Bool := false
  order : List Nat := []
  nodes : Nodes := []
  fastCount : Nat := 0
  medCount : Nat := 0
  medRun : Option PartRun := none
  slowRun : Option PartRun := none
  medFresh : Bool := false
  slowFresh : Bool := false
  fastFresh : Bool := false
  staged : Staged3 := { duties := none, poisoned := false }
  events : List Nat := []
  eventsTotal : Word := 0
  lastKind : BitVec 2 := 0
  lastPart : BitVec 2 := 0
  lastNode : Byte := 0
  lastSample : BitVec 20 := 0
  fastEnd : Half := 0
  fastEndMax : Half := 0
  release : Half := 0
  status : Store Word := []
  statusPoison : Store Bool := []
  publish : Store (Word × Bool) := []
  integIdx : Nat := 0
  k : Word := 0x01000000
  coltEffort : Word := 0
  dbgNext : Nat := 0
  dbgPart : BitVec 2 := 0
  dbgRun : Option (Nat × Nat × Option Nat) := none
  dbgTid : Option Nat := none
  dbgOld : Nodes := []
  dbgCount : Nat := 0
  dbgAt : Nat := 0
  inst10 : Nat := 0
  tqPoison : Bool := false
  tqNext : Option (Word × Bool) := none
  cycleSeen : Option Nat := none
  medRestart : Bool := false
  sinksNext : List (Nat × Word × Bool) := []
  counting : Bool := false
  deriving DecidableEq, Repr

/-- STATE of 04 Table 4-9. -/
inductive ProbeState where
  | idle | armed | triggered | done | frozen
  deriving DecidableEq, Repr

/-- A trace probe: its descriptor of 04 Table 4-9, and the samples recorded from the trigger index on. -/
structure Probe where
  state : ProbeState := .idle
  rate : BitVec 2 := 0
  poisonSeen : Bool := false
  timeUnsync : Bool := false
  en : Bool := false
  node : Byte := 0
  word : BitVec 2 := 0
  prePct : Byte := 0
  depth : Nat := 0
  next : Nat := 0
  trigIndex : Nat := 0
  trigTime : Word := 0
  trigInst : Nat := 0
  trigOfs : Word := 0
  waitOfs : Bool := false
  preValid : Nat := 0
  trigSrc : BitVec 3 := 0
  trigLane : BitVec 2 := 0
  samples : Nat := 0
  post : Nat := 0
  base : Nat := 0
  trigSample : Nat := 0
  insts : List Nat := []
  deriving DecidableEq, Repr

/-- The trigger setup of 04 Table 4-6. -/
structure TrigSetup where
  kind : BitVec 2
  node : Byte
  word : BitVec 2
  cmp : BitVec 2
  value : Word
  faultMask : BitVec 3
  cycle : Byte
  cross : Bool
  deriving DecidableEq, Repr

/-- Trace (04 R155–R161). -/
structure TraceEng where
  setup : Option TrigSetup := none
  probes : List Probe := []
  armReq : Bool := false
  mem : Store Word := []
  deriving DecidableEq, Repr

/-- A learning pass (03 R126, R127). -/
structure Pass where
  node : Nat
  resNode : Nat
  resWord : BitVec 2
  vMin : Word
  vMax : Word
  accMax : Word
  gain : Word
  stepMax : Word
  nMin : Nat
  timeMax : Nat
  sums : Store Int
  counts : Store Nat
  lastSpeed : Option Word
  deriving DecidableEq, Repr

/-- Learning (03 R126–R130): the pass running and the proposal of the last one, as node and table entries. -/
structure LearnEng where
  pass : Option Pass := none
  proposal : Option (Nat × List Word) := none
  deriving DecidableEq, Repr

/-- DRIVE of 05 Table 5-5. -/
inductive Drive where
  | off | foc | sixStep | disable
  deriving DecidableEq, Repr

/-- A ramp of a share weight (05 R179, R180): the value it started from, the value and step count at the last
change of MOTION_SHARE_RAMP, and the length then in force. -/
structure Ramp where
  up : Bool
  start : Word
  base : Word
  n : Nat
  len : Nat
  deriving DecidableEq, Repr

/-- How far an enable has come (05 R171, R191; 07 R247). -/
inductive EnableStep where
  | idle | offsets | precharge | presets | release | energise
  deriving DecidableEq, Repr

/-- Host velocity mode (05 R189): the host value, absent until the entry's medium execution takes it, and a blend back as the
executions done and the value it began at. -/
structure VelMode where
  value : Option Word := none
  blend : Option (Nat × Word) := none
  deriving DecidableEq, Repr

/-- A change of velocity mode that waits for the next medium execution (11 Table 11-5). -/
inductive VelReq where
  | enter
  | set (v : Word)
  | exit
  deriving DecidableEq, Repr

/-- The MOTION engine (05). `clamped`: the duties of this update were clamped (05 R167); `legs`: the legs that the six-step table drives high
and low since the last update point (05 R185, R186); `offsetsDue`, `flyDue`: the offsets, and the flying start, are still to be made when the
lane is next energised (05 R171, R193). -/
structure MotEng where
  enabled : Bool := false
  drive : Drive := .off
  energised : Bool := false
  dirHeld : Bool := false
  depth : Bool := false
  clamped : Bool := false
  w : Tri Word := ⟨0, 0, 0⟩
  ramp : Tri (Option Ramp) := ⟨none, none, none⟩
  wasEnergised : Tri Bool := ⟨false, false, false⟩
  iqRef : Word := 0
  iqMeas : Word := 0
  offA : Half := 0
  offB : Half := 0
  ia : Word := 0
  ib : Word := 0
  staged : Option (Tri Word) := none
  stagedPoison : Bool := false
  up : Tri (BitVec 18) := ⟨0, 0, 0⟩
  down : Tri (BitVec 18) := ⟨0, 0, 0⟩
  valley : Bool := true
  gatesOffSample : Bool := false
  sixI : Word := 0
  sixDir : Bool := false
  sixDuty : Word := 0
  iCond : Word := 0
  revSlow : Bool := false
  legs : Option (Leg × Leg) := none
  enable : EnableStep := .idle
  enableTids : List Nat := []
  stoHold : Bool := false
  disableReq : Option EndState := none
  vel : Option VelMode := none
  velReq : List VelReq := []
  fly : Bool := false
  offsetsDue : Bool := false
  flyDue : Bool := false
  rampIn : Tri Bool := ⟨false, false, false⟩
  deriving DecidableEq, Repr

/-- SOURCE of 06 Table 6-5. -/
inductive Source where
  | none | own | borrowed | extrapolating | hall
  deriving DecidableEq, Repr

/-- The SENSE engine (06). -/
structure SenEng where
  source : Source := .none
  aligned : Bool := false
  scLost : Bool := false
  lossCause : BitVec 3 := 0
  speedValid : Bool := false
  hallValid : Bool := false
  hallFailed : Bool := false
  disagree : Bool := false
  aux1Fault : Bool := false
  aux2Fault : Bool := false
  ntcFault : Bool := false
  noPosition : Bool := false
  position : Word := 0
  word : Word := 0
  angle : Word := 0
  speed : Word := 0
  amplitude : Half := 0
  hallState : BitVec 3 := 0
  ampGlitch : Byte := 0
  edgeAngle : Word := 0
  edgeIndex : BitVec 3 := 0
  edgeDir : Bool := false
  hallErr : Byte := 0
  hallGlitch : Byte := 0
  extrapLast : Half := 0
  extrapCount : Half := 0
  vlnkCode : BitVec 12 := 0
  aux1Code : BitVec 12 := 0
  aux2Code : BitVec 12 := 0
  ntcCode : BitVec 12 := 0
  phase : Half := 0
  prevDelta : Half := 0
  period : Nat := 0
  started : Bool := false
  outRun : Nat := 0
  lastOut10 : Option Nat := none
  lastOver : Bool := false
  conv10 : Nat := 0
  hallRun : Nat := 0
  hallErrTimes : List Nat := []
  hallPending : Nat := 0
  hallSeen : Bool := false
  extEdge : Option Word := none
  lastEdge10 : Option Nat := none
  edgeDt : Option Nat := none
  hallSpdValid : Bool := false
  nValid : Nat := 0
  mHist0 : Word := 0
  mHist3 : List Word := []
  thPred : Word := 0
  haveTh : Bool := false
  obsW : Word := 0
  th : Word := 0
  votedPos : Word := 0
  votedPosOk : Bool := false
  votedSpd : Word := 0
  votedSpdOk : Bool := false
  othersPos : Option Word := none
  backRun : Nat := 0
  clearedS : Bool := false
  extrapFrom : Option Nat := none
  sharingOut : Bool := false
  aux1Run : Nat := 0
  aux2Run : Nat := 0
  ntcRun : Nat := 0
  aux1Ok : Nat := 0
  aux2Ok : Nat := 0
  ntcOk : Nat := 0
  aux1Held : BitVec 12 := 0
  aux2Held : BitVec 12 := 0
  obsPp : Nat := 1
  obsN : Nat := 1
  obsOfs : Word := 0
  deriving DecidableEq, Repr

/-- What the governing drive of 07 Table 7-1 rank 7 demands of the bridge. -/
inductive Bridge where
  | allOff | lowSides | pwm | sixStep | colt | precharge
  deriving DecidableEq, Repr

/-- REACTION of 07 Table 7-4. -/
inductive Reaction where
  | none | allOff | lowSideShort
  deriving DecidableEq, Repr

/-- The GATE engine (07). -/
structure GateEng where
  demand : Bridge := .allOff
  stoHigh : Bool := false
  forcedOff : Bool := false
  extest : Bool := false
  vgdUvlo : Bool := false
  bootUvlo : BitVec 3 := 0
  reaction : Reaction := .none
  fallback : Bool := false
  hsFail : BitVec 3 := 0
  uvloLatched : Bool := false
  prechargeFail : Bool := false
  scLegs : BitVec 3 := 0
  scGross : Bool := false
  scTwoLegs : Bool := false
  scInShort : Bool := false
  scFirst : Bool := false
  scCount : Byte := 0
  uvloCount : Byte := 0
  hsCount : Byte := 0
  scTime : Word := 0
  sampleLegs : BitVec 3 := 0
  uvloTimes : List Word := []
  pendSc : Option Byte := none
  pendUvlo : List (Byte × Nat) := []
  pendHs : Bool := false
  pendPre : Bool := false
  deriving DecidableEq, Repr

/-- STATE_X of 08 Table 8-8. -/
inductive LinkState where
  | off | listen | coldstart | integrating | sync | singleSync | notReceived
  deriving DecidableEq, Repr

/-- An entry of the claim table (08 R288, 11 R358). -/
structure ClaimEnt where
  slot : Nat
  node : Half
  holder : Bool
  lastClaim : Option Nat
  silent : Nat
  deriving DecidableEq, Repr

/-- A schedule entry (08 R273). -/
structure SchedEnt where
  node : Half := 0
  kind : BitVec 2 := 0
  sync : Bool := false
  safe : Bool := false
  deriving DecidableEq, Repr

/-- A subscription or a publication (08 R273). -/
structure SubEnt where
  sig : BitVec 20
  node : Half
  deriving DecidableEq, Repr
structure PubEnt where
  sig : BitVec 20
  slotA : BitVec 11
  slotB : BitVec 11
  deriving DecidableEq, Repr

/-- One channel of a lane's Welor engine (08). `counterMini`: the minislot at which the dynamic slot of now began (08 R275). -/
structure ChanEng where
  state : LinkState := .off
  rxLost : Bool := false
  txLost : Bool := false
  rxQuiet : Nat := 0
  txQuiet : Nat := 0
  rxThis : Bool := false
  txThis : Bool := false
  sent : Bool := false
  syncThis : Bool := false
  syncQuiet : Nat := 2
  frames : List Nat := []
  framesPrev : List Nat := []
  framesOld : List Nat := []
  claims : List ClaimEnt := []
  claiming : Option (Nat × Nat × Bool) := none
  held : Half := 0
  backoff : Option Nat := none
  cuts : Byte := 0
  bge : Bool := false
  bgeReleased : Bool := true
  bgeMiss : Nat := 0
  unsynced : Nat := 0
  announcedSlots : List Nat := []
  slotCounter : Nat := 0
  mini : Nat := 0
  dynFrameEnd : Option Nat := none
  counterMini : Nat := 0
  dynPending : List (List Byte) := []
  deriving DecidableEq, Repr

/-- A reassembly of remote fragments (08 R292). -/
structure Reasm where
  source : Half
  msgId : Byte
  count : Nat
  parts : List (Nat × List Byte)
  startCycle : Nat
  deriving DecidableEq, Repr

/-- The FLOCK engine (08). `start16`: the start of the cycle on the lane's fine clock, in 1/16 of 10 ns; `txEvents`: the event message that is
being sent: its remote entry, its records and the frames still to go (10 R332). -/
structure FlockEng where
  chA : ChanEng := {}
  chB : ChanEng := {}
  bellSelf : Bool := false
  giveUp : Bool := false
  cycle : BitVec 6 := 0
  cycleStart : Word := 0
  offset : Half := 0
  rate : Half := 0
  bellwether : Half := 0
  syncNodes : Byte := 0
  collisions : Byte := 0
  slotBoundary : Half := 0
  crcErr : Half := 0
  safeBad : Byte := 0
  reasmDrop : Byte := 0
  mismatch : Half := 0
  devs : List (Half × Channel × Int) := []
  measured : List Half := []
  measuredCycles : Nat := 0
  noSync : Nat := 0
  integStep : Nat := 0
  integGot : Bool := false
  integBad : Bool := false
  everSynced : Bool := false
  attempts : Nat := 0
  attemptCycle : Option Nat := none
  collisionWait : Bool := false
  rate16 : Int := 0
  start16 : Int := 0
  netLost : Bool := false
  seqs : Store Half := []
  reasm : List Reasm := []
  seenMsgs : List (Half × Byte × Nat) := []
  cycles : Nat := 0
  draws : Nat := 0
  txMsgId : Byte := 0
  txEvents : Option (Nat × Nat × Nat) := none
  deriving DecidableEq, Repr

/-- A configuration: items that differ from their default, graph, table memory and Welor tables (09 R317). -/
structure Conf where
  items : Store Word := []
  graph : Store NodeRec := []
  table : Store Word := []
  schedA : Store SchedEnt := []
  schedB : Store SchedEnt := []
  subs : List SubEnt := []
  pubs : List PubEnt := []
  deriving DecidableEq, Repr

/-- A Colt record (13 Table 13-1), with its CHECK. -/
structure ColtRec where
  action : BitVec 2 := 0
  dir : Bool := false
  t2 : Bool := false
  halls : Bool := false
  hallRot : BitVec 3 := 0
  hallFilt : Byte := 0
  duty : Half := 0
  pwmTop : Half := 0
  dead : Byte := 0
  gsrc : BitVec 4 := 0
  gsink : BitVec 4 := 0
  precharge : Byte := 0
  polePairs : Byte := 0
  speed : Half := 0
  gen : BitVec 24 := 0
  check : Word := 0
  deriving DecidableEq, Repr

/-- A configuration image in NVM (09 R320) with its own Colt record (13 R394). One whose words have arrived poisoned is not valid, and keeps
its Colt record. -/
structure Image where
  gen : BitVec 24
  conf : Conf
  colt : ColtRec
  valid : Bool := true
  deriving DecidableEq, Repr

/-- An open configuration transaction (09 R317): the items staged, and the graph and tables as they will stand. -/
structure Trans where
  owner : Sender
  staged : Store Word
  want : Conf
  structural : Bool
  loaded : Bool
  deriving DecidableEq, Repr

/-- A task (09 R311): an admitted command until its completion is released. -/
structure Task where
  tid : Nat
  flow : Nat
  rn : Option Nat
  origin : LaneId
  pkt : Packet
  priv : Priv
  isLocal : Bool
  waiting : Bool
  late : Bool
  part : Tri Bool
  results : Tri (Option LaneRes)
  slot : Option Nat
  fin : Option LaneRes
  done : Bool
  started : Bool := false
  counted : Bool := true
  deriving DecidableEq, Repr

/-- The previous transaction of the port (09 Table 9-2). -/
inductive Outcome4 where
  | done | notDone | repeated | reset
  deriving DecidableEq, Repr

/-- The HOST engine (09). -/
structure HostEng where
  lastSeq : Byte := 0
  seqSynced : Bool := false
  lastCmd : Option (Word × Byte) := none
  outcome : Outcome4 := .reset
  crcErr : Bool := false
  seqErr : Bool := false
  formatErr : Bool := false
  poison : Bool := false
  miso : List Word := []
  crcErrs : Half := 0
  seqErrs : Half := 0
  formatErrs : Half := 0
  hCrc : Bool := false
  hSilent : Bool := false
  crcTimes : List Nat := []
  transactions : Word := 0
  admitted : Half := 0
  refused : Half := 0
  win : Store Byte := []
  cqHead : Half := 0
  cqTail : Half := 0
  eqHead : Half := 0
  eqTail : Half := 0
  dbHeld : Bool := false
  eqOvf : Bool := false
  lossOwed : Bool := false
  asleep : Bool := false
  wait : BitVec 4 := 0
  resv : Byte := 0
  slotsUsed : List (Nat × Half) := []
  cqDiscard : Half := 0
  tasks : List Task := []
  nextTid : Nat := 0
  mirror : List Word := []
  mirrorPoison : List Nat := []
  mirrorCount : Word := 0
  trans : Option Trans := none
  run : Conf := {}
  committed : Conf := {}
  prepOpen : Option LaneId := none
  prepAns : Tri (Option PrepAns) := ⟨none, none, none⟩
  commitTid : Option Nat := none
  applyGen : Option Byte := none
  applyWant : Option Trans := none
  storing : Option Image := none
  storeTid : Option Nat := none
  learnCommit : Bool := false
  remoteOut : List (Nat × List Byte) := []
  lastRes : Option LaneRes := none
  deriving DecidableEq, Repr

/-- The latest arrival of a source (10 R328). -/
structure Arrival where
  cls : BitVec 3
  payload : BitVec 64
  time : Word
  unsync : Bool
  deriving DecidableEq, Repr

/-- A latch of group 9 (10 R334). -/
structure PinLatch where
  count : Byte
  first : Word
  unsync : Bool
  deriving DecidableEq, Repr

/-- The EVENT engine (10). `irqDue`: HIRQ_N is to be asserted when PD_HOST is On again (10 R337); `remoteLoss`: the remote entries whose queue
dropped a record, which their next record says (10 R332, R335). -/
structure EvEng where
  cnt : Store Byte := []
  latest : Store Arrival := []
  pending : List Nat := []
  eqDrops : Half := 0
  remoteDrops : Half := 0
  holdRunning : BitVec 16 := 0
  hirq : Bool := false
  irqDue : Bool := false
  wakeMask : Half := 0
  unmatched : Byte := 0
  remoteQ : Store (List (List Byte)) := []
  remoteLoss : List Nat := []
  latches : Store PinLatch := []
  deriving DecidableEq, Repr

/-- A latched fault record (12 Table 12-5). -/
structure FaultRec where
  source : Byte
  cls : BitVec 3
  lane : LaneId
  handled : Bool := false
  unsync : Bool
  escalated : Bool := false
  secSource : Byte := 0
  secClass : BitVec 3 := 0
  secOvf : Bool := false
  time : Word
  location : Word
  detailA : Word
  detailB : Word
  secLocation : Word := 0
  sample : Word
  count : Half := 1
  stamp : Nat
  deriving DecidableEq, Repr

/-- An entry of the merge buffer (12 R376): a memory, a 64-bit word index, the bytes written and the valid mask, and whether a byte arrived
poisoned (12 R375). -/
structure MergeEnt where
  mem : Nat
  word : Nat
  bytes : BitVec 64
  valid : BitVec 8
  bad : BitVec 8 := 0
  touched : Nat := 0
  deriving DecidableEq, Repr

/-- A transfer on the interconnect that will fail its parity (12 R375): the next write or read of a word, by its data parity, or by its
address or control parity. -/
structure ParityHit where
  mem : Nat
  word : Nat
  write : Bool
  control : Bool
  deriving DecidableEq, Repr

/-- The INTEGRITY engine (12). `flipped`: the words that hold wrong bits, with their syndrome; `parityHits`: the transfers that will fail
(12 R373, R375). -/
structure IntEng where
  sbe : Store Half := []
  ded : Store Half := []
  lastDed : Word := 0
  lastSbe : Word := 0
  parityData : Half := 0
  parityAddr : Half := 0
  mergeRmw : Half := 0
  mergePoison : Half := 0
  scrubPasses : Word := 0
  scrubLast : Half := 0
  scrubMax : Half := 0
  repairs : Half := 0
  poisonUsed : Half := 0
  ceCount : Byte := 0
  ucCount : Byte := 0
  faCount : Byte := 0
  checkerOk : Bool := false
  ce : Option FaultRec := none
  uc : Option FaultRec := none
  fa : Option FaultRec := none
  ovf : BitVec 3 := 0
  faSaved : Option FaultRec := none
  stamps : Nat := 0
  scrubMem : Nat := 2
  scrubWord : Nat := 0
  scrubSlots : Nat := 0
  aonWord : Nat := 0
  sbeTimes : List (Nat × Nat) := []
  merge : List MergeEnt := []
  poisoned : List (Nat × Nat) := []
  flipped : List ((Nat × Nat) × Byte) := []
  parityHits : List ParityHit := []
  parityOwed : List ParityHit := []
  repairQ : List (Nat × Nat) := []
  deriving DecidableEq, Repr

/-- The rungs of 13 Table 13-8. -/
inductive Rung where
  | on | onStopped | retention | off
  deriving DecidableEq, Repr

/-- A wake in progress (13 R421): the domains, the step (0 regulator, 1 oscillator, 2 memory, 3 logic) and the
command that asked for it. -/
structure Waking where
  domains : List Domain
  step : Nat
  tids : List Nat
  deriving DecidableEq, Repr

/-- A sleep handshake (13 R419): target, domains stopped by this lane's prepare phase, the answers the coordinator
holds, its command, and the first refusal. -/
structure Handshake where
  lanes : Tri Bool
  domains : List Domain
  target : Rung
  stopped : List Domain
  coordinator : LaneId
  answers : Tri (Option SleepAns)
  tid : Option Nat
  committed : Bool := false
  deriving DecidableEq, Repr

/-- An operating-point change in progress (13 R412). -/
structure OpChange where
  target : Nat
  raise : Bool
  cleared : Bool
  tid : Option Nat
  pmbus : Bool
  deriving DecidableEq, Repr

/-- The POWER engine (13). -/
structure PowEng where
  pd : Store Rung := []
  op : Nat := 2
  opRestore : Nat := 2
  vinWarn : Bool := false
  change : Option OpChange := none
  nextOp : List (Nat × Option Nat) := []
  corePmbus : Bool := false
  plannedSleep : Bool := false
  wakeFailed : Byte := 0
  failStep : BitVec 2 := 0
  failDomain : BitVec 3 := 0
  vinWarnCount : Byte := 0
  pmbusErr : Byte := 0
  vin : Half := 0
  vcore : Half := 0
  refuseDomain : BitVec 3 := 0
  refuseReason : BitVec 5 := 0
  refuseCount : Byte := 0
  waking : Option Waking := none
  wakePending : List Domain := []
  wakeTids : List Nat := []
  shake : Option Handshake := none
  save : Store Word := []
  pmbusOut : List (List Byte) := []
  deriving DecidableEq, Repr

/-- COLT_ACTION of 13 Table 13-4. -/
inductive ColtAct where
  | allOff | activeShort | holdEffort | none
  deriving DecidableEq, Repr

/-- An entry of the boot counter's ring in NVM (13 R404). -/
structure BootEntry where
  count : Byte
  seq : Word
  check : Word
  deriving DecidableEq, Repr

/-- A shutdown self-test result (13 Table 13-13). -/
structure TestResult where
  status : BitVec 2 := 3
  trigger : BitVec 2 := 0
  incomplete : BitVec 4 := 0
  tested : Byte := 0
  failed : Byte := 0
  ovd : Byte := 0
  time : Word := 0
  location : Word := 0
  duration : Half := 0
  domains : List (Byte × Byte × Half) := []
  deriving DecidableEq, Repr

/-- A self-test in progress (13 R429): the step of Table 13-12 and what it found so far. -/
structure BistRun where
  step : Nat
  res : TestResult
  tid : Option Nat
  keepPower : Bool
  abandon : Option (BitVec 4)
  deriving DecidableEq, Repr

/-- The START engine, the NVM and the Colt stage (13). `keyoffDue`: the key-off delay is over and the shutdown waits for motion to be disabled
(13 R427); `handoverDue`: the hand-over waits for a store that brings a member to the generation in use (13 R401). -/
structure StartEng where
  supplied : Bool := false
  vinGood : Bool := false
  coreReady : Bool := false
  inReset : Bool := true
  fa : Bool := false
  faSrc : Byte := 0
  testEn : Bool := false
  wakePin : Bool := false
  keyoff : Bool := false
  keyoffDue : Bool := false
  shutting : Option (BitVec 2) := none
  phase : Phase := .cold
  startKind : BitVec 3 := 0
  cold : Bool := false
  coltAction : ColtAct := .none
  coltFast : Bool := false
  coltNoHall : Bool := false
  coltBad : Bool := false
  coltPreFail : Bool := false
  stageFlags : BitVec 3 := 0
  coltRec : Option ColtRec := none
  coltOn : Bool := false
  coltReady : Bool := false
  coltPoison : Bool := false
  coltHall : Option (BitVec 3) := none
  coltPrev : Option (BitVec 3) := none
  coltAt10 : Nat := 0
  coltPwm10 : Nat := 0
  coltEdge : Option (Bool × Nat) := none
  coltDt : Option Nat := none
  elects : Bool := false
  coltTime : Word := 0
  fullTime : Word := 0
  startClock : Nat := 0
  coltEffort : Word := 0
  handoverDue : Bool := false
  minReason : Byte := 0
  failStep : Byte := 0
  imageFromLane : Bool := false
  fallback : Bool := false
  prevFa : Byte := 0
  overdue : Bool := false
  bootCount : Byte := 0
  bootFound : Byte := 0
  said : Bool := false
  bootRec : Byte := 0
  bootRing : Store BootEntry := []
  ovdRead : Byte := 0
  ovdCount : Byte := 0
  patchLevel : Half := 0
  imgA : Option Image := none
  imgB : Option Image := none
  imgInUse : Channel := .A
  testResult : TestResult := {}
  bist : Option BistRun := none
  bistLanes : Tri Bool := ⟨false, false, false⟩
  bistWait : Bool := false
  bistRn : Nat := 0
  bistTid : Option Nat := none
  startTests : List Byte := []
  tap : TapInstr := .idcode
  trstHigh : Bool := false
  tapReg : List Bool := []
  tdo : List Bool := []
  handover : Bool := false
  wakeCold : Bool := false
  bootStep : Nat := 0
  deriving DecidableEq, Repr

/-- A lane's times (00 R9) and the model's own fine clock, in 10 ns, and counter of free draws (log entries 1, 3). `toldUs`, `slewUs`: the
microseconds since the lane last sent its time message, and since it last slewed its own count. -/
structure TimeEng where
  localT : Word := 0
  flock : Word := 0
  synced : Bool := false
  clk10 : Nat := 0
  free : Nat := 0
  toldUs : Nat := 0
  slewUs : Nat := 1000
  deriving DecidableEq, Repr

/-- One lane. `herdTx`, `flockTx` and `txd` are what it has put on the herdline, on the Welor channels as frames, and as levels of TXD (08 R265). -/
structure LaneSt where
  time : TimeEng := {}
  eng : LaneEng := {}
  safe : SafeEng := {}
  ox : OxEng := {}
  trace : TraceEng := {}
  learn : LearnEng := {}
  mot : MotEng := {}
  sen : SenEng := {}
  gate : GateEng := {}
  flock : FlockEng := {}
  host : HostEng := {}
  ev : EvEng := {}
  int : IntEng := {}
  pow : PowEng := {}
  start : StartEng := {}
  herdTx : List HerdMsg := []
  flockTx : List (Channel × List Byte) := []
  txd : List (Channel × List Bool) := []
  deriving DecidableEq, Repr

/-- The device: three lanes, and the queue of waiting commands, first in first out. -/
structure State where
  lanes : Tri LaneSt
  pending : List Instr
  deriving DecidableEq, Repr

/-- The device before its first supply (13 R393): every lane unsupplied, with its gates off (07 R237), FLT_N low
(12 R389), PHASE cold start, the indices of its queues 0, OUTCOME RESET (09 R301, R305) and no image in NVM (log 5). -/
def State.reset : State := { lanes := ⟨{}, {}, {}⟩, pending := [] }

/-- Why a machine stops. No command of this block stops it: an error of the device is data (a fault record, an
event, a lane that is FA), and a read of an unmapped address gives 0 (01 R48). -/
inductive Fault where
  /-- Never raised by any meaning; safe. The manual names no condition that stops the device as a whole. -/
  | noFaultExists
  deriving DecidableEq, Repr

/-- Why a command has no meaning. -/
inductive Refusal where
  /-- Raised only by an arm of `exec` whose command is not modelled; safe. -/
  | notModelled (mnemonic : String)
  deriving DecidableEq, Repr

/-- What a command answers. -/
abbrev Out := Host.Outcome State Fault Refusal

end Sys2Proof.Machine
end

