-- ==== Sys2Proof/Machine/Store.lean ====
section
/-! DEFINITION. Sparse memories in one canonical form: keys strictly rising, no entry equal to the value `d` that an
unlisted key reads as.
Log entries: 6 (DEDUCED). -/

namespace Sys2Proof.Machine

/-- Read a key. -/
def Store.read {α : Type} (d : α) : Store α → Nat → α
  | [], _ => d
  | (a, v) :: r, k => if k = a then v else Store.read d r k

/-- The entry of a key, if it is listed. -/
def Store.find {α : Type} : Store α → Nat → Option α
  | [], _ => none
  | (a, v) :: r, k => if k = a then some v else Store.find r k

/-- Write a key with a value other than the default, keeping the keys rising. -/
def Store.put {α : Type} : Store α → Nat → α → Store α
  | [], k, x => [(k, x)]
  | (a, v) :: r, k, x =>
    if k < a then (k, x) :: (a, v) :: r
    else if k = a then (k, x) :: r
    else (a, v) :: Store.put r k x

/-- Remove a key. -/
def Store.erase {α : Type} : Store α → Nat → Store α
  | [], _ => []
  | (a, v) :: r, k => if k = a then r else (a, v) :: Store.erase r k

/-- Write a key: the default removes the entry. -/
def Store.write {α : Type} [DecidableEq α] (d : α) (m : Store α) (k : Nat) (x : α) : Store α :=
  if x = d then Store.erase m k else Store.put m k x

/-- Write consecutive keys from `k`. -/
def Store.writes {α : Type} [DecidableEq α] (d : α) (m : Store α) (k : Nat) : List α → Store α
  | [] => m
  | x :: r => Store.writes d (Store.write d m k x) (k + 1) r

/-- Read `n` consecutive keys from `k`. -/
def Store.reads {α : Type} (d : α) (m : Store α) (k n : Nat) : List α :=
  (List.range n).map fun i => Store.read d m (k + i)

/-- The canonical form: every key is at least `lo`, keys rise, no value is the default. -/
def Store.wfFrom {α : Type} [DecidableEq α] (d : α) : Nat → Store α → Bool
  | _, [] => true
  | lo, (a, v) :: r => decide (lo ≤ a) && decide (v ≠ d) && Store.wfFrom d (a + 1) r

/-- The canonical form of a sparse memory. -/
def Store.wf {α : Type} [DecidableEq α] (d : α) (m : Store α) : Bool := Store.wfFrom d 0 m

/-- The host window is memory in bytes (09 R304); an unlisted byte reads 0 (13 R417, log entry 6). -/
def Memory.wf (m : Store Byte) : Bool := Store.wf 0 m

end Sys2Proof.Machine
end

