-- ==== Sys2Proof/Machine/Items.lean ====
section
/-! DEFINITION. The configuration items: their numbers, ranges, defaults and application points (00 R11, R460, and the
"configuration items" table of each chapter).
Log entries: 6, 26, 32 (DEDUCED). -/

namespace Sys2Proof.Machine

/-- The Range column of an item, over its 32-bit value. A bound of a Q7.24 item is a fraction of numerator and
denominator, compared exactly. -/
inductive ItemRange where
  | any
  | nat (lo hi : Nat)
  | zeroOr (lo hi : Nat)
  | int (lo hi : Int)
  | q (ln : Int) (ld : Nat) (hn : Int) (hd : Nat)
  | codes (l : List Nat)
  | word (lo hi : Nat)
  deriving DecidableEq, Repr

/-- The Applies column (00 R11). -/
inductive Applies where
  | commit | start | colt
  deriving DecidableEq, Repr

/-- A row of an items table: the IDs it covers. -/
structure ItemDef where
  lo : Nat
  hi : Nat
  range : ItemRange
  default : Word
  applies : Applies
  deriving DecidableEq, Repr

/-- Does a value lie in a range (00 R13)? -/
def ItemRange.ok (r : ItemRange) (v : Word) : Bool :=
  match r with
  | .any => true
  | .nat lo hi => lo ≤ v.toNat && v.toNat ≤ hi
  | .zeroOr lo hi => v == 0 || (lo ≤ v.toNat && v.toNat ≤ hi)
  | .int lo hi => lo ≤ v.toInt && v.toInt ≤ hi
  | .q ln ld hn hd => ln * qUnit ≤ v.toInt * ld && v.toInt * hd ≤ hn * qUnit
  | .codes l => l.contains v.toNat
  | .word lo hi => v == 0 || (lo ≤ v.toNat && v.toNat ≤ hi && v.toNat % 4 == 0)

namespace Item

def topology : Nat := 0x0001
def tqWin : Nat := 0x0002
def tqCount : Nat := 0x0003
def missCount : Nat := 0x0004
def startWait : Nat := 0x0005
def replyWait : Nat := 0x0006
def privSpi0 : Nat := 0x0010
def privSpi1 : Nat := 0x0011
def privSpi2 : Nat := 0x0012
def remoteNode : Nat := 0x0020
def remotePriv : Nat := 0x0030
def keyLo : Nat := 0x0040
def keyHi : Nat := 0x0041
def claimTimeout : Nat := 0x0042
def muleTime : Nat := 0x0050
def muleTqCap : Nat := 0x0051
def muleRateScale : Nat := 0x0052
def netStaleTime : Nat := 0x0053
def netRequired : Nat := 0x0054
def ss1Decel : Nat := 0x0055
def ss1Margin : Nat := 0x0056
def ss1Standstill : Nat := 0x0057
def ss1Textra : Nat := 0x0058
def ss1End : Nat := 0x0059
def medDiv : Nat := 0x1001
def slowDiv : Nat := 0x1002
def slowFlockOfs : Nat := 0x1003
def baseCurrent : Nat := 0x1010
def baseVoltage : Nat := 0x1011
def baseSpeed : Nat := 0x1012
def basePosition : Nat := 0x1013
def basePressure : Nat := 0x1014
def fastRelease : Nat := 0x1020
def pwmTop : Nat := 0x2001
def updates : Nat := 0x2002
def tWin : Nat := 0x2003
def ampGain : Nat := 0x2004
def shunt : Nat := 0x2005
def ktPu : Nat := 0x2006
def iqMax : Nat := 0x2007
def shareRamp : Nat := 0x2008
def tqDevWin : Nat := 0x2009
def tqDevCount : Nat := 0x200A
def revSpeed : Nat := 0x200B
def ke : Nat := 0x200C
def hallRot : Nat := 0x200D
def disableState : Nat := 0x200E
def sixKp : Nat := 0x200F
def sixKit : Nat := 0x2010
def velBlend : Nat := 0x2011
def startEnabled : Nat := 0x2012
def scLanes : Nat := 0x3001
def scNominal : Nat := 0x3002
def ampWinLo : Nat := 0x3003
def ampWinHi : Nat := 0x3004
def sinOfs : Nat := 0x3005
def cosOfs : Nat := 0x3006
def cosGain : Nat := 0x3007
def cosPhase : Nat := 0x3008
def posWin : Nat := 0x3010
def posCount : Nat := 0x3011
def spdWin : Nat := 0x3012
def spdCount : Nat := 0x3013
def obsK1 : Nat := 0x3014
def obsK2 : Nat := 0x3015
def extrapMax : Nat := 0x3016
def hallMaxSpeed : Nat := 0x3017
def hallLanes : Nat := 0x3020
def hallFilt : Nat := 0x3021
def hallPhase : Nat := 0x3022
def alignTol : Nat := 0x3023
def vlnkRatio : Nat := 0x3030
def ntcRpu : Nat := 0x3031
def ntcR25 : Nat := 0x3032
def ntcBeta : Nat := 0x3033
def aux1Zero : Nat := 0x3034
def aux1Gain : Nat := 0x3035
def aux1Lo : Nat := 0x3036
def aux1Hi : Nat := 0x3037
def aux1Fault : Nat := 0x3038
def aux1Fval : Nat := 0x3039
def aux2Zero : Nat := 0x3044
def aux2Gain : Nat := 0x3045
def aux2Lo : Nat := 0x3046
def aux2Hi : Nat := 0x3047
def aux2Fault : Nat := 0x3048
def aux2Fval : Nat := 0x3049
def gateSrc : Nat := 0x4001
def gateSink : Nat := 0x4002
def gateDead : Nat := 0x4003
def scFast : Nat := 0x4004
def scBlank : Nat := 0x4005
def scPolicy : Nat := 0x4006
def uvloRecover : Nat := 0x4007
def bootPrecharge : Nat := 0x4008
def nodeId : Nat := 0x5001
def cycleLen : Nat := 0x5002
def precision : Nat := 0x5003
def apOffset : Nat := 0x5004
def slotLenA : Nat := 0x5005
def slotLenB : Nat := 0x5006
def staticCountA : Nat := 0x5007
def staticCountB : Nat := 0x5008
def staticPayloadA : Nat := 0x5009
def staticPayloadB : Nat := 0x500A
def minislotLen : Nat := 0x500B
def minislotAp : Nat := 0x500C
def minislotCountA : Nat := 0x500D
def minislotCountB : Nat := 0x500E
def dynPayload : Nat := 0x500F
def dynSlot : Nat := 0x5010
def symbolLen : Nat := 0x5011
def coldstartRank : Nat := 0x5012
def coldstartTries : Nat := 0x5013
def rateLimit : Nat := 0x5014
def delayComp : Nat := 0x5015
def flockClaim : Nat := 0x5016
def cfgTimeout : Nat := 0x6001
def crcLimit : Nat := 0x6002
def silentTime : Nat := 0x6003
def timedMax : Nat := 0x6004
def cqSlots : Nat := 0x6010
def eqRecords : Nat := 0x6014
def replySlots : Nat := 0x6018
def route : Nat := 0x7010
def holdoff : Nat := 0x7100
def remoteSrc : Nat := 0x7200
def fltCe : Nat := 0x8001
def sbeLimit : Nat := 0x8002
def pmbusAddr : Nat := 0x9001
def pmbusExp : Nat := 0x9002
def startOp : Nat := 0x9003
def keyoffDelay : Nat := 0x9004
def wakeSrc : Nat := 0x9005
def save : Nat := 0x9100
def coltAction : Nat := 0xA001
def coltDir : Nat := 0xA002
def coltDuty : Nat := 0xA003
def coltSpeed : Nat := 0xA004

end Item

/-- 01 Table 1-8, 02 Table 2-8. -/
def itemTableLane : List ItemDef := [
  ⟨0x0001, 0x0001, .nat 0 1, 0x0, .start⟩,
  ⟨0x0002, 0x0002, .q (1) 1000 (1) 2, 0xCCCCD, .commit⟩,
  ⟨0x0003, 0x0003, .nat 1 64, 0x4, .commit⟩,
  ⟨0x0004, 0x0004, .nat 1 8, 0x2, .commit⟩,
  ⟨0x0005, 0x0005, .nat 50 1000, 0x12C, .start⟩,
  ⟨0x0006, 0x0006, .nat 100 10000, 0x3E8, .commit⟩,
  ⟨0x0010, 0x0010, .nat 0 2, 0x0, .commit⟩,
  ⟨0x0011, 0x0011, .nat 0 2, 0x1, .commit⟩,
  ⟨0x0012, 0x0012, .nat 0 2, 0x2, .commit⟩,
  ⟨0x0020, 0x002F, .nat 0 65535, 0x0, .commit⟩,
  ⟨0x0030, 0x003F, .nat 0 3, 0x3, .commit⟩,
  ⟨0x0040, 0x0040, .any, 0x0, .commit⟩,
  ⟨0x0041, 0x0041, .any, 0x0, .commit⟩,
  ⟨0x0042, 0x0042, .nat 1 3600, 0x1E, .commit⟩,
  ⟨0x0050, 0x0050, .nat 10 600, 0x78, .commit⟩,
  ⟨0x0051, 0x0051, .q (1) 20 (1) 1, 0x800000, .commit⟩,
  ⟨0x0052, 0x0052, .q (1) 20 (1) 1, 0x800000, .commit⟩,
  ⟨0x0053, 0x0053, .nat 10 5000, 0xC8, .commit⟩,
  ⟨0x0054, 0x0054, .nat 0 1, 0x1, .commit⟩,
  ⟨0x0055, 0x0055, .q (1) 10 (100) 1, 0x5000000, .commit⟩,
  ⟨0x0056, 0x0056, .q (1) 100 (1) 2, 0xCCCCD, .commit⟩,
  ⟨0x0057, 0x0057, .q (1) 1000 (1) 10, 0x147AE, .commit⟩,
  ⟨0x0058, 0x0058, .nat 10 1000, 0x64, .commit⟩,
  ⟨0x0059, 0x0059, .nat 0 2, 0x0, .commit⟩]

/-- 03 Table 3-10, 04 Table 4-2. -/
def itemTableOx : List ItemDef := [
  ⟨0x1001, 0x1001, .nat 2 64, 0x4, .start⟩,
  ⟨0x1002, 0x1002, .zeroOr 2 256, 0x4, .start⟩,
  ⟨0x1003, 0x1003, .nat 0 15999, 0x0, .start⟩,
  ⟨0x1010, 0x1010, .nat 1 6000, 0x3E8, .start⟩,
  ⟨0x1011, 0x1011, .nat 1 1000, 0x1E0, .start⟩,
  ⟨0x1012, 0x1012, .nat 1 60000, 0x1770, .start⟩,
  ⟨0x1013, 0x1013, .nat 1 3600000, 0x15F90, .start⟩,
  ⟨0x1014, 0x1014, .nat 1 10000, 0x9C4, .start⟩,
  ⟨0x1020, 0x1020, .zeroOr 1 500, 0x0, .start⟩]

/-- 05 Table 5-4. -/
def itemTableMotion : List ItemDef := [
  ⟨0x2001, 0x2001, .nat 2000 12500, 0x1388, .start⟩,
  ⟨0x2002, 0x2002, .nat 1 2, 0x2, .start⟩,
  ⟨0x2003, 0x2003, .nat 50 300, 0x64, .start⟩,
  ⟨0x2004, 0x2004, .codes [10, 20, 40, 80], 0x14, .start⟩,
  ⟨0x2005, 0x2005, .nat 100 50000, 0x1F4, .start⟩,
  ⟨0x2006, 0x2006, .q (1) 20 (2) 1, 0x800000, .commit⟩,
  ⟨0x2007, 0x2007, .q (1) 10 (17) 10, 0x1000000, .commit⟩,
  ⟨0x2008, 0x2008, .nat 1 10000, 0x320, .commit⟩,
  ⟨0x2009, 0x2009, .q (1) 100 (1) 2, 0x19999A, .commit⟩,
  ⟨0x200A, 0x200A, .nat 1 64, 0x10, .commit⟩,
  ⟨0x200B, 0x200B, .nat 1 1000, 0x1E, .commit⟩,
  ⟨0x200C, 0x200C, .q (0) 1 (2) 1, 0x0, .commit⟩,
  ⟨0x200D, 0x200D, .nat 0 5, 0x0, .commit⟩,
  ⟨0x200E, 0x200E, .nat 0 1, 0x0, .commit⟩,
  ⟨0x200F, 0x200F, .q (0) 1 (8) 1, 0x800000, .commit⟩,
  ⟨0x2010, 0x2010, .q (0) 1 (1) 1, 0x51EB8, .commit⟩,
  ⟨0x2011, 0x2011, .nat 0 65535, 0x64, .commit⟩,
  ⟨0x2012, 0x2012, .nat 0 1, 0x1, .start⟩]

/-- 06 Table 6-4. -/
def itemTableSense : List ItemDef := [
  ⟨0x3001, 0x3001, .nat 0 7, 0x7, .start⟩,
  ⟨0x3002, 0x3002, .nat 1000 6000, 0xFA0, .commit⟩,
  ⟨0x3003, 0x3003, .q (1) 4 (9) 10, 0x800000, .commit⟩,
  ⟨0x3004, 0x3004, .q (11) 10 (8) 5, 0x159999A, .commit⟩,
  ⟨0x3005, 0x3005, .int (-1000) (1000), 0x0, .commit⟩,
  ⟨0x3006, 0x3006, .int (-1000) (1000), 0x0, .commit⟩,
  ⟨0x3007, 0x3007, .q (4) 5 (5) 4, 0x1000000, .commit⟩,
  ⟨0x3008, 0x3008, .int (-1000) (1000), 0x0, .commit⟩,
  ⟨0x3010, 0x3010, .nat 596523 59652324, 0x5B05B0, .commit⟩,
  ⟨0x3011, 0x3011, .nat 1 64, 0x8, .commit⟩,
  ⟨0x3012, 0x3012, .q (1) 200 (1) 2, 0x51EB8, .commit⟩,
  ⟨0x3013, 0x3013, .nat 1 64, 0x8, .commit⟩,
  ⟨0x3014, 0x3014, .q (1) 100 (1) 1, 0x400000, .commit⟩,
  ⟨0x3015, 0x3015, .q (1) 10000 (1) 2, 0x51EB8, .commit⟩,
  ⟨0x3016, 0x3016, .nat 100 1000, 0x3E8, .commit⟩,
  ⟨0x3017, 0x3017, .q (1) 100 (1) 1, 0x400000, .commit⟩,
  ⟨0x3020, 0x3020, .nat 0 7, 0x7, .start⟩,
  ⟨0x3021, 0x3021, .nat 0 100, 0x14, .commit⟩,
  ⟨0x3022, 0x3022, .any, 0x0, .commit⟩,
  ⟨0x3023, 0x3023, .nat 100 4500, 0x320, .commit⟩,
  ⟨0x3030, 0x3030, .nat 1000 50000, 0x4E20, .start⟩,
  ⟨0x3031, 0x3031, .nat 100 1000000, 0x2710, .commit⟩,
  ⟨0x3032, 0x3032, .nat 100 1000000, 0x2710, .commit⟩,
  ⟨0x3033, 0x3033, .nat 1000 6000, 0xD6B, .commit⟩,
  ⟨0x3034, 0x3034, .q (0) 1 (1) 1, 0x19999A, .commit⟩,
  ⟨0x3035, 0x3035, .q (-100) 1 (100) 1, 0x1400000, .commit⟩,
  ⟨0x3036, 0x3036, .q (0) 1 (1) 1, 0xCCCCD, .commit⟩,
  ⟨0x3037, 0x3037, .q (0) 1 (1) 1, 0xF33333, .commit⟩,
  ⟨0x3038, 0x3038, .nat 0 1, 0x0, .commit⟩,
  ⟨0x3039, 0x3039, .any, 0x0, .commit⟩,
  ⟨0x3044, 0x3044, .q (0) 1 (1) 1, 0x19999A, .commit⟩,
  ⟨0x3045, 0x3045, .q (-100) 1 (100) 1, 0x1400000, .commit⟩,
  ⟨0x3046, 0x3046, .q (0) 1 (1) 1, 0xCCCCD, .commit⟩,
  ⟨0x3047, 0x3047, .q (0) 1 (1) 1, 0xF33333, .commit⟩,
  ⟨0x3048, 0x3048, .nat 0 1, 0x0, .commit⟩,
  ⟨0x3049, 0x3049, .any, 0x0, .commit⟩]

/-- 07 Table 7-3. -/
def itemTableGate : List ItemDef := [
  ⟨0x4001, 0x4001, .nat 0 15, 0x6, .start⟩,
  ⟨0x4002, 0x4002, .nat 0 15, 0x6, .start⟩,
  ⟨0x4003, 0x4003, .nat 1 100, 0xA, .start⟩,
  ⟨0x4004, 0x4004, .nat 0 15, 0x3, .commit⟩,
  ⟨0x4005, 0x4005, .nat 5 40, 0xA, .commit⟩,
  ⟨0x4006, 0x4006, .nat 0 1, 0x0, .commit⟩,
  ⟨0x4007, 0x4007, .nat 1 100, 0xA, .commit⟩,
  ⟨0x4008, 0x4008, .nat 1 100, 0x14, .colt⟩]

/-- 08 Table 8-7. -/
def itemTableFlock : List ItemDef := [
  ⟨0x5001, 0x5001, .nat 0 65535, 0x0, .start⟩,
  ⟨0x5002, 0x5002, .nat 1000 16000, 0xFA0, .start⟩,
  ⟨0x5003, 0x5003, .nat 25 500, 0x64, .start⟩,
  ⟨0x5004, 0x5004, .nat 2 20, 0x2, .start⟩,
  ⟨0x5005, 0x5005, .nat 20 500, 0x40, .start⟩,
  ⟨0x5006, 0x5006, .nat 20 500, 0x40, .start⟩,
  ⟨0x5007, 0x5007, .nat 0 1023, 0x30, .start⟩,
  ⟨0x5008, 0x5008, .nat 0 1023, 0x30, .start⟩,
  ⟨0x5009, 0x5009, .nat 0 64, 0x30, .start⟩,
  ⟨0x500A, 0x500A, .nat 0 64, 0x30, .start⟩,
  ⟨0x500B, 0x500B, .nat 4 40, 0x6, .start⟩,
  ⟨0x500C, 0x500C, .nat 2 20, 0x2, .start⟩,
  ⟨0x500D, 0x500D, .nat 0 1024, 0x8C, .start⟩,
  ⟨0x500E, 0x500E, .nat 0 1024, 0x8C, .start⟩,
  ⟨0x500F, 0x500F, .nat 16 248, 0xF8, .start⟩,
  ⟨0x5010, 0x5010, .zeroOr 2 2047, 0x0, .start⟩,
  ⟨0x5011, 0x5011, .nat 0 100, 0x14, .start⟩,
  ⟨0x5012, 0x5012, .nat 0 4, 0x0, .start⟩,
  ⟨0x5013, 0x5013, .nat 1 16, 0x8, .start⟩,
  ⟨0x5014, 0x5014, .nat 50 1000, 0x12C, .start⟩,
  ⟨0x5015, 0x5015, .nat 0 200, 0x14, .start⟩,
  ⟨0x5016, 0x5016, .nat 0 3, 0x0, .start⟩]

/-- 09 Table 9-8. -/
def itemTableHost : List ItemDef := [
  ⟨0x6001, 0x6001, .nat 1 600, 0x1E, .commit⟩,
  ⟨0x6002, 0x6002, .nat 1 255, 0xA, .commit⟩,
  ⟨0x6003, 0x6003, .nat 0 60000, 0x0, .commit⟩,
  ⟨0x6004, 0x6004, .nat 1 60000, 0x2710, .commit⟩,
  ⟨0x6010, 0x6012, .codes [4, 8, 16, 32, 64], 0x10, .start⟩,
  ⟨0x6014, 0x6016, .codes [16, 32, 64, 128, 256, 512, 1024], 0x100, .start⟩,
  ⟨0x6018, 0x601A, .nat 4 64, 0x8, .start⟩]

/-- 10 Table 10-3. -/
def itemTableEvent : List ItemDef := [
  ⟨0x7010, 0x7093, .nat 0 17, 0x1, .commit⟩,
  ⟨0x7094, 0x7096, .nat 0 17, 0x0, .commit⟩,
  ⟨0x7097, 0x70BF, .nat 0 17, 0x1, .commit⟩,
  ⟨0x7100, 0x710F, .nat 0 65535, 0x0, .commit⟩,
  ⟨0x7200, 0x721F, .nat 0 16777215, 0x0, .commit⟩]

/-- 12 Table 12-8. -/
def itemTableInteg : List ItemDef := [
  ⟨0x8001, 0x8001, .nat 0 1, 0x0, .commit⟩,
  ⟨0x8002, 0x8002, .nat 1 65535, 0x3E8, .commit⟩]

/-- 13 Table 13-14. -/
def itemTablePower : List ItemDef := [
  ⟨0x9001, 0x9001, .nat 8 119, 0x20, .start⟩,
  ⟨0x9002, 0x9002, .int (-16) (-1), 0xFFFFFFF7, .start⟩,
  ⟨0x9003, 0x9003, .nat 0 1, 0x0, .start⟩,
  ⟨0x9004, 0x9004, .nat 0 60000, 0x7D0, .commit⟩,
  ⟨0x9005, 0x9005, .nat 0 15, 0xF, .commit⟩,
  ⟨0x9100, 0x913F, .word 4 0xBFFFFC, 0x0, .start⟩]

/-- 13 Table 13-14. -/
def itemTableStart : List ItemDef := [
  ⟨0xA001, 0xA001, .nat 0 2, 0x0, .colt⟩,
  ⟨0xA002, 0xA002, .nat 0 1, 0x0, .colt⟩,
  ⟨0xA003, 0xA003, .nat 0 1000, 0x0, .colt⟩,
  ⟨0xA004, 0xA004, .nat 1 1000, 0x1E, .colt⟩]

/-- Every item, in ascending ID. -/
def itemTable : List ItemDef :=
  itemTableLane ++ itemTableOx ++ itemTableMotion ++ itemTableSense ++ itemTableGate ++ itemTableFlock ++ itemTableHost ++ itemTableEvent ++ itemTableInteg ++ itemTablePower ++ itemTableStart

/-- The row of an item ID, if the ID is known. -/
def itemDef (id : Nat) : Option ItemDef := itemTable.find? fun d => d.lo ≤ id && id ≤ d.hi

/-- The default of an item. -/
def itemDefault (id : Nat) : Word := match itemDef id with | some d => d.default | none => 0

/-- Is the value in the item's Range column? -/
def itemOk (id : Nat) (v : Word) : Bool := match itemDef id with | some d => d.range.ok v | none => false

/-- Does the item take effect at the COMMIT boundary? -/
def itemIsCommit (id : Nat) : Bool := match itemDef id with | some d => d.applies == .commit | none => false

/-- All item IDs, ascending. -/
def itemIds : List Nat := (itemTable.map fun d => (List.range (d.hi + 1 - d.lo)).map (d.lo + ·)).flatten

/-- The value of an item in a configuration: items that stand at their default are not listed. -/
def Conf.item (c : Conf) (id : Nat) : Word := Store.read (itemDefault id) c.items id
def Conf.nat (c : Conf) (id : Nat) : Nat := (c.item id).toNat
def Conf.int (c : Conf) (id : Nat) : Int := (c.item id).toInt

/-- Set an item of a configuration. -/
def Conf.setItem (c : Conf) (id : Nat) (v : Word) : Conf := { c with items := Store.write (itemDefault id) c.items id v }

/-- Set several items. -/
def Conf.setItems (c : Conf) (vs : List (Nat × Word)) : Conf := vs.foldl (fun c p => c.setItem p.1 p.2) c

/-- T2 (00 R3)? -/
def Conf.t2 (c : Conf) : Bool := c.nat Item.topology == 1

/-- The lanes that have a winding (00 Table 0-1, 01 R38). -/
def Conf.hasWinding (c : Conf) (l : LaneId) : Bool := !c.t2 || l != .l2

/-- The lanes with a winding, in ascending number. -/
def Conf.windings (c : Conf) : List LaneId := LaneId.all.filter c.hasWinding

/-- The fast sample period in units of 2.5 ns (00 Table 0-6, 05 Table 5-4): the PWM period of MOTION_PWM_TOP × 5 ns
divided by MOTION_UPDATES. -/
def Conf.tf25 (c : Conf) : Nat := c.nat Item.pwmTop * (if c.nat Item.updates = 1 then 2 else 1)

/-- A remote entry is used when its node ID is not 0 (01 R57). -/
def Conf.remoteUsed (c : Conf) (n : Nat) : Bool := c.nat (Item.remoteNode + n) != 0

def privOfCode : Nat → Priv
  | 0 => .owner | 1 => .operator | 2 => .observer | _ => .none

/-- The privilege a sender holds by configuration (01 R51). -/
def Conf.priv (c : Conf) : Sender → Priv
  | .spi l => privOfCode (c.nat (Item.privSpi0 + l.num))
  | .remote n => if c.remoteUsed n.val then privOfCode (c.nat (Item.remotePriv + n.val)) else .none

end Sys2Proof.Machine
end

