-- ==== Sys2Proof/Machine/Regs.lean ====
section
/-! DEFINITION. The registers a host reads (01 R46–R50, Tables 1-6, 2-5, 4-8, 4-9, 5-5, 6-5, 7-4, 8-8, 9-3 to 9-5,
9-9, 10-4, 12-5, 12-9, 13-15, 13-16): each word of the address space as a function of the lane's state.
Log entries: 42 (DEDUCED); 3, 78 (DESIGN CHOICE). -/

namespace Sys2Proof.Machine

/-- A truth value as a bit. -/
def b2n (b : Bool) : Nat := b.toNat

def Role.code : Role → Nat
  | .lead => 0 | .standby => 1 | .watch => 2 | .none => 3

/-- A lane's number, 3 for none (01 Table 1-6). -/
def laneCode : Option LaneId → Nat
  | some l => l.num | none => 3

def Safe.code : Safe → Nat
  | .full => 0 | .degraded => 1 | .netHold => 2 | .mule => 3 | .ss1 => 4 | .stopped => 5 | .colt => 6

def EndState.code : EndState → Nat
  | .none => 0 | .sto => 1 | .activeShort => 2 | .colt => 3

def Phase.code : Phase → Nat
  | .cold => 0 | .colt => 1 | .fwStart => 2 | .announced => 3 | .full => 4 | .minimal => 5 | .shutdownTest => 6
  | .poweredDown => 7

def Rung.code : Rung → Nat
  | .on => 0 | .onStopped => 1 | .retention => 2 | .off => 3

def GraphState.code : GraphState → Nat
  | .none => 0 | .active => 1 | .stopped => 2 | .debug => 3

def ProbeState.code : ProbeState → Nat
  | .idle => 0 | .armed => 1 | .triggered => 2 | .done => 3 | .frozen => 4

def Drive.code : Drive → Nat
  | .off => 0 | .foc => 1 | .sixStep => 2 | .disable => 3

def Source.code : Source → Nat
  | .none => 0 | .own => 1 | .borrowed => 2 | .extrapolating => 3 | .hall => 4

def Reaction.code : Reaction → Nat
  | .none => 0 | .allOff => 1 | .lowSideShort => 2

def LinkState.code : LinkState → Nat
  | .off => 0 | .listen => 1 | .coldstart => 2 | .integrating => 3 | .sync => 4 | .singleSync => 5 | .notReceived => 7

def ColtAct.code : ColtAct → Nat
  | .allOff => 0 | .activeShort => 1 | .holdEffort => 2 | .none => 3

def FKind.code : FKind → Nat
  | .lane => 0 | .winding => 1 | .sensor => 2 | .channel => 3 | .link => 4 | .host => 5

/-- The rung of a power domain (13 R416). -/
def LaneSt.dom (L : LaneSt) (d : Domain) : Rung := Store.read .off L.pow.pd d.num

/-- The lane is powered, out of reset, not fatal and not under test: what its port needs to answer (01 R42, 09 R321, 11 R372). -/
def LaneSt.alive (L : LaneSt) : Bool :=
  L.start.supplied && L.start.coreReady && !L.start.inReset && !L.start.fa && !L.start.testEn && L.start.bist.isNone
  && L.start.phase != .shutdownTest && L.start.phase != .poweredDown

/-- The lane's firmware, interconnect and event controller run: PD_CPU is On (13 Table 13-7). -/
def LaneSt.running (L : LaneSt) : Bool := L.alive && L.dom .cpu == .on

/-- The time a lane stamps with, and whether it is local time (00 R9). -/
def LaneSt.now (L : LaneSt) : Word := if L.time.synced then L.time.flock else L.time.localT
def LaneSt.unsync (L : LaneSt) : Bool := !L.time.synced

/-- Is a sensor, gate or bridge fault part of a lane in service? An L fault stands on the lane (02 R59). -/
def SafeEng.laneFault (s : SafeEng) (l : LaneId) : Bool := s.faults.any fun f => f.kind == .lane && f.lane == l

/-- A fault counts unless it is of kind H or on a part already out of service (02 R59, Table 2-1). -/
def SafeEng.counts (s : SafeEng) (f : Standing) : Bool :=
  match f.kind with
  | .host => false
  | .winding => !s.laneFault f.lane
  | .sensor => !s.laneFault f.lane
  | .link => !(Link.ofNum f.part).ends.any s.laneFault
  | .channel => true
  | .lane => true

/-- The standing faults that count, one for each part out of service (02 R59). -/
def SafeEng.counted (s : SafeEng) : List (FKind × LaneId × Nat) :=
  ((s.faults.filter s.counts).map fun f => (f.kind, f.lane, f.part)).eraseDups

/-- LANE register 0x000 (01 Table 1-6). -/
def laneReg0 (me : LaneId) (L : LaneSt) : Word :=
  packWord [(0, me.num), (2, L.eng.role.code), (4, b2n L.eng.debug), (5, b2n (L.eng.excluded || L.eng.isolated)), (6, b2n L.safe.mule),
    (8, laneCode L.eng.lead), (10, laneCode L.eng.standby), (16, L.eng.healthy.mask), (19, b2n L.host.run.t2),
    (20, b2n L.eng.up01), (21, b2n L.eng.up12), (22, b2n L.eng.up20), (23, b2n L.eng.relay), (24, L.eng.gen.toNat)]

/-- Safe-state registers 0x010, 0x014, 0x018 (02 Table 2-5). -/
def safeReg0 (L : LaneSt) : Word :=
  packWord [(0, L.safe.state.code), (4, min 15 L.safe.counted.length), (8, L.safe.muleCause.toNat),
    (16, L.safe.muleRemain.toNat)]
def safeReg1 (me : LaneId) (L : LaneSt) : Word :=
  packWord [(0, L.safe.stopCause.toNat), (8, L.safe.endState.code), (10, (L.safe.stoLow.set me (!L.gate.stoHigh)).mask), (13, b2n L.safe.stateUnsync)]

/-- A register of the LANE engine, and whether it is OWNER only. -/
def laneRegs (me : LaneId) (L : LaneSt) : Nat → Option (Word × Bool)
  | 0x000 => some (laneReg0 me L, false)
  | 0x004 => some (packWord [(0, L.eng.switchCount.toNat), (16, L.eng.lastGap.toNat)], false)
  | 0x008 => some (L.eng.violCount, true)
  | 0x00C => some (packWord [(0, L.eng.violAddr.toNat), (24, b2n L.eng.violWrite), (25, b2n L.eng.violUnmapped)], true)
  | 0x010 => some (safeReg0 L, false)
  | 0x014 => some (safeReg1 me L, false)
  | 0x018 => some (L.safe.stateTime, false)
  | _ => none

/-- A trace descriptor (04 Table 4-9). -/
def Probe.bytes (p : Probe) : List Byte :=
  [BitVec.ofNat 8 (p.state.code + 8 * p.rate.toNat + 32 * b2n p.poisonSeen + 64 * b2n p.timeUnsync + 128 * b2n p.en),
    p.node, p.word.setWidth 8, p.prePct]
  ++ le16 (BitVec.ofNat 16 (p.depth - 1)) ++ le16 (BitVec.ofNat 16 p.trigIndex) ++ le32 p.trigTime ++ le32 p.trigOfs
  ++ le16 (BitVec.ofNat 16 p.preValid) ++ [BitVec.ofNat 8 (p.trigSrc.toNat + 8 * p.trigLane.toNat), 0]
  ++ le32 (satNat 32 p.samples) ++ le32 (BitVec.ofNat 32 p.base) ++ zeros 4

/-- The check events of the last 100 fast samples (04 R162): `events` holds their ages in samples. -/
def OxEng.eventsWin (o : OxEng) : Nat := (o.events.filter fun e => e < 100).length

/-- OX registers 0x000 and 0x008 (04 Table 4-8). -/
def oxReg0 (L : LaneSt) : Word :=
  packWord [(0, L.ox.graphState.code), (2, b2n L.ox.signature), (8, min 255 L.ox.eventsWin)]
def oxReg2 (L : LaneSt) : Word :=
  packWord [(0, L.ox.lastKind.toNat), (2, L.ox.lastPart.toNat), (4, L.ox.lastNode.toNat), (12, L.ox.lastSample.toNat)]

def oxRegs (L : LaneSt) (o : Nat) : Option (Word × Bool) :=
  if o = 0x000 then some (oxReg0 L, false)
  else if o = 0x004 then some (L.ox.eventsTotal, false)
  else if o = 0x008 then some (oxReg2 L, false)
  else if o = 0x00C then some (packWord [(0, L.ox.fastEnd.toNat), (16, L.ox.fastEndMax.toNat)], false)
  else if o = 0x010 then some (L.ox.release.setWidth 32, false)
  else if 0x100 ≤ o && o < 0x200 then
    some (rd32 ((L.trace.probes.getD ((o - 0x100) / 32) {}).bytes) (o % 32), false)
  else if 0x20000 ≤ o && o < 0x40000 then some (Store.read 0 L.trace.mem ((o - 0x20000) / 4), false)
  else none

/-- A weight × 32,768 (05 Table 5-5). -/
def w15 (w : Word) : Nat := w.toNat / 512

def motRegs (me : LaneId) (L : LaneSt) : Nat → Option (Word × Bool)
  | 0x000 => some (packWord [(0, b2n L.mot.enabled), (1, L.mot.drive.code), (3, b2n L.mot.depth), (4, b2n L.mot.dirHeld),
      (5, b2n (match L.mot.vel with
        | some v => v.blend.isNone
        | none => false)), (6, b2n (L.mot.ramp.toList.any fun r => match r with
        | some r => r.n < r.len
        | none => false)),
      (8, (L.mot.w.map fun w => w != 0).mask), (16, w15 L.ox.k)], false)
  | 0x004 => some (packWord [(0, w15 L.mot.w.a0), (16, w15 L.mot.w.a1)], false)
  | 0x008 => some (packWord [(0, w15 L.mot.w.a2)], false)
  | 0x00C => some (L.mot.iqRef, false)
  | 0x010 => some (L.mot.iqMeas, false)
  | 0x014 => some (packWord [(0, L.mot.offA.toNat), (16, L.mot.offB.toNat)], false)
  | 0x018 => some ((L.eng.devCnt.get me).setWidth 32, false)
  | _ => none

/-- SENSE registers 0x000 and 0x018 (06 Table 6-5). -/
def senReg0 (me : LaneId) (L : LaneSt) : Word :=
  packWord [(0, L.sen.source.code), (3, b2n L.sen.aligned), (4, b2n L.sen.scLost), (5, L.sen.lossCause.toNat),
    (8, b2n L.sen.speedValid), (9, b2n L.sen.hallValid), (10, b2n L.sen.hallFailed), (11, b2n L.sen.disagree),
    (12, b2n L.sen.aux1Fault), (13, b2n L.sen.aux2Fault), (14, b2n L.sen.ntcFault), (15, b2n L.sen.noPosition),
    (16, (L.eng.posCnt.get me).toNat), (24, (L.eng.spdCnt.get me).toNat)]
def senReg6 (L : LaneSt) : Word :=
  packWord [(0, L.sen.edgeIndex.toNat), (3, b2n L.sen.edgeDir), (8, L.sen.hallErr.toNat), (16, L.sen.hallGlitch.toNat)]

def senRegs (me : LaneId) (L : LaneSt) : Nat → Option (Word × Bool)
  | 0x000 => some (senReg0 me L, false)
  | 0x004 => some (L.sen.position, false)
  | 0x008 => some (L.sen.angle, false)
  | 0x00C => some (L.sen.speed, false)
  | 0x010 => some (packWord [(0, L.sen.amplitude.toNat), (16, L.sen.hallState.toNat), (24, L.sen.ampGlitch.toNat)], false)
  | 0x014 => some (L.sen.edgeAngle, false)
  | 0x018 => some (senReg6 L, false)
  | 0x01C => some (packWord [(0, L.sen.extrapLast.toNat), (16, L.sen.extrapCount.toNat)], false)
  | 0x020 => some (packWord [(0, L.sen.vlnkCode.toNat), (16, L.sen.ntcCode.toNat)], false)
  | 0x024 => some (packWord [(0, L.sen.aux1Code.toNat), (16, L.sen.aux2Code.toNat)], false)
  | _ => none

/-! ## Gates (05 R183–R188, 07 R242) -/

/-- High and low leg by Hall state, forward, at MOTION_HALL_ROT 0 (05 Table 5-2). -/
def sixRows : List (Leg × Leg) := [(.A, .B), (.A, .C), (.B, .C), (.B, .A), (.C, .A), (.C, .B)]

/-- The legs driven high and low in the `i`-th Hall state. -/
def legsOf (rot i : Nat) (reverse : Bool) : Leg × Leg :=
  let p := sixRows.getD ((i + rot) % 6) (.A, .B)
  if reverse then (p.2, p.1) else p

/-- The legs driven high and low; none with an impossible Hall state. -/
def sixLegs (rot : Nat) (h : BitVec 3) (reverse : Bool) : Option (Leg × Leg) := (hallIdx h).map fun i => legsOf rot i reverse

/-- T2 by the items in force; before an image is loaded, and on a lane that came up minimal, by the Colt record (07 R238, 13 R396). -/
def LaneSt.t2 (L : LaneSt) : Bool :=
  if L.start.phase.code < 3 || L.start.phase == .minimal || L.start.minReason != 0 then
    !L.start.coltBad && (match L.start.coltRec with
      | some r => r.t2
      | none => false)
  else L.host.run.t2

/-- The gate block of a lane works: supplied, and with a bridge (07 R238). -/
def LaneSt.gateLive (me : LaneId) (L : LaneSt) : Bool := L.start.supplied && L.start.coreReady && !(me == .l2 && L.t2)

/-- The high-side and the low-side gate of a leg. -/
def legHi (l : Leg) : BitVec 6 := l.bit.setWidth 6
def legLo (l : Leg) : BitVec 6 := legHi l <<< 3

/-- Six gates that switch: never both of a leg, and otherwise free at an instant of the PWM period (07 R261). -/
def switching (me : LaneId) (L : LaneSt) : BitVec 6 :=
  let lv := Config.gateLevels me L.time.clk10
  let hi : BitVec 3 := lv.setWidth 3
  let lo : BitVec 3 := (lv >>> 3).setWidth 3
  (lo &&& ~~~hi) ++ hi

/-- Six-step (05 R183): the driven-high leg switches, the low side of the driven-low leg is on, and the third leg floats. While DIR is held,
the low sides of both conducting phases are on (05 R188). -/
def sixGates (sw : BitVec 6) (held : Bool) : Option (Leg × Leg) → BitVec 6
  | none => 0
  | some (h, l) => if held then legLo h ||| legLo l else legLo l ||| (sw &&& (legHi h ||| legLo h))

/-- The conducting legs of the Hall step: those latched at the last update point; none from a Hall error on (05 R186). -/
def LaneSt.stepLegs (L : LaneSt) : Option (Leg × Leg) :=
  if L.sen.hallPending = 0 && (hallIdx L.sen.hallState).isSome then L.mot.legs else none

/-- The Hall state in use by the Colt six-step at a time (13 R396): a newly accepted one switches the legs at the next update point of the
Colt PWM, of which each period of 2 × PWM_TOP counts at 400 MHz has one (05 R186; log entry 78). -/
def LaneSt.coltInUse (L : LaneSt) (t10 : Nat) : Option (BitVec 3) :=
  let x := L.start
  let p := match x.coltRec with
    | some r => max 1 (r.pwmTop.toNat / 2)
    | none => 1
  if (t10 - x.coltPwm10) / p = (x.coltAt10 - x.coltPwm10) / p then x.coltPrev else x.coltHall

/-- The conducting legs of the Colt action (13 R396). -/
def LaneSt.coltLegs (L : LaneSt) : Option (Leg × Leg) :=
  match L.start.coltRec, L.coltInUse L.time.clk10 with
  | some r, some h => sixLegs r.hallRot.toNat h r.dir
  | _, _ => none

/-- The six gates of the Colt PWM: at DUTY 0 and 1,000 the driven leg does not switch; between them it is free inside the period (07 R261). -/
def coltGates (me : LaneId) (L : LaneSt) : BitVec 6 :=
  match L.start.coltRec with
  | some r => if r.duty = 0 then 0b111000 else if 1000 ≤ r.duty.toNat then 0b000111 else switching me L
  | none => 0b111000

/-- What the governing drive demands of the gates (07 Table 7-1 rank 7). -/
def demanded (me : LaneId) (L : LaneSt) : BitVec 6 :=
  let sw := switching me L
  match L.gate.demand with
  | .allOff => 0
  | .lowSides => 0b111000
  | .precharge => 0b111000
  | .pwm => sw
  | .sixStep => sixGates sw L.mot.dirHeld L.stepLegs
  | .colt => sixGates (coltGates me L) false L.coltLegs

/-- Both gates of the legs that failed the handshake (07 R240). -/
def GateEng.failed (g : GateEng) : BitVec 6 := g.hsFail ++ g.hsFail

/-- The gates commanded on (07 Table 7-1), GHA in bit 0 to GLC in bit 5 (07 R261). After STO_N has been low they stay off until the OWNER
enables motion (02 R80); a leg that failed the handshake stays off whatever commands it (07 R239, R240). -/
def gatesOn (me : LaneId) (L : LaneSt) : BitVec 6 :=
  let g := L.gate
  if !g.stoHigh || L.mot.stoHold || g.forcedOff || g.extest || !L.gateLive me || g.vgdUvlo || L.dom .gate != .on then 0
  else match g.reaction with
  | .allOff => 0
  | .lowSideShort => if g.fallback then 0 else 0b111000 &&& ~~~g.failed
  | .none => if L.mot.gatesOffSample then 0 else demanded me L &&& ~~~(g.bootUvlo.setWidth 6) &&& ~~~g.failed

/-- The gates seen above 2.0 V (07 R239): those commanded on, and of a leg that failed the handshake whatever its comparators show. -/
def gatesSensed (me : LaneId) (L : LaneSt) : BitVec 6 := gatesOn me L ||| (Config.senseLevels me L.time.clk10 &&& L.gate.failed)

/-- GATE registers 0x000, 0x004 (07 Table 7-4). -/
def gateReg0 (me : LaneId) (L : LaneSt) : Word :=
  packWord [(0, (gatesOn me L).toNat), (6, (gatesSensed me L).toNat), (12, b2n L.gate.vgdUvlo), (13, L.gate.bootUvlo.toNat),
    (16, L.gate.reaction.code), (18, b2n L.gate.fallback), (19, L.gate.hsFail.toNat), (22, b2n L.gate.uvloLatched),
    (23, b2n L.gate.prechargeFail)]
def gateReg1 (L : LaneSt) : Word :=
  packWord [(0, L.gate.scLegs.toNat), (3, b2n L.gate.scGross), (4, b2n L.gate.scTwoLegs), (5, b2n L.gate.scInShort),
    (8, L.gate.scCount.toNat), (16, L.gate.uvloCount.toNat), (24, L.gate.hsCount.toNat)]

def gateRegs (me : LaneId) (L : LaneSt) : Nat → Option (Word × Bool)
  | 0x000 => some (gateReg0 me L, false)
  | 0x004 => some (gateReg1 L, false)
  | 0x008 => some (L.gate.scTime, false)
  | _ => none

/-- FLOCK registers 0x000, 0x014 (08 Table 8-8). -/
def flockReg0 (L : LaneSt) : Word :=
  let f := L.flock
  packWord [(0, f.chA.state.code), (3, f.chB.state.code), (6, b2n f.bellSelf), (7, b2n f.giveUp),
    (8, b2n f.chA.bgeReleased), (9, b2n f.chB.bgeReleased), (10, b2n f.chA.rxLost), (11, b2n f.chB.rxLost),
    (12, b2n f.chA.txLost), (13, b2n f.chB.txLost), (14, b2n f.netLost), (16, f.cycle.toNat)]
def flockReg5 (L : LaneSt) : Word := packWord [(0, L.flock.chA.held.toNat), (16, L.flock.chB.held.toNat)]

def flockRegs (L : LaneSt) : Nat → Option (Word × Bool)
  | 0x000 => some (flockReg0 L, false)
  | 0x004 => some (L.flock.cycleStart, false)
  | 0x008 => some (packWord [(0, L.flock.offset.toNat), (16, L.flock.rate.toNat)], false)
  | 0x00C => some (packWord [(0, L.flock.bellwether.toNat), (16, L.flock.syncNodes.toNat), (24, L.flock.collisions.toNat)], false)
  | 0x010 => some (packWord [(0, L.flock.slotBoundary.toNat), (16, L.flock.crcErr.toNat)], false)
  | 0x014 => some (flockReg5 L, false)
  | 0x018 => some (packWord [(0, L.flock.chA.cuts.toNat), (8, L.flock.chB.cuts.toNat), (16, L.flock.safeBad.toNat),
      (24, L.flock.reasmDrop.toNat)], false)
  | 0x01C => some (L.flock.mismatch.setWidth 32, false)
  | _ => none

/-- Command slots, event records and reply slots of this lane's port, as in force (09 R304, R323). -/
def LaneSt.cqSlots (me : LaneId) (L : LaneSt) : Nat := L.host.run.nat (Item.cqSlots + me.num)
def LaneSt.eqRecords (me : LaneId) (L : LaneSt) : Nat := L.host.run.nat (Item.eqRecords + me.num)
def LaneSt.replySlots (me : LaneId) (L : LaneSt) : Nat := L.host.run.nat (Item.replySlots + me.num)

/-- Records held in the event queue, and slots held in the command queue (09 R305). -/
def HostEng.eqHeld (h : HostEng) : Nat := (h.eqTail - h.eqHead).toNat
def HostEng.cqHeld (h : HostEng) : Nat := (h.cqTail - h.cqHead).toNat

/-- Reply slots neither reserved by a task nor held by a completion record (09 R309, R313). -/
def replyFree (me : LaneId) (L : LaneSt) : Nat :=
  L.replySlots me - L.host.slotsUsed.length - (L.host.tasks.filter fun t => t.slot.isSome).length

/-- Tasks of flows 0–2 and of the remote pool (09 R311). -/
def tasksFree (L : LaneSt) : Nat :=
  let cnt (f : Nat → Bool) := (L.host.tasks.filter fun t => t.counted && f t.flow).length
  (16 - cnt (· == 0)) + (16 - cnt (· == 1)) + (16 - cnt (· == 2)) + (16 - cnt (2 < ·))

/-- HOST register 0x2_0004 (09 Table 9-9). -/
def hostReg1 (L : LaneSt) : Word :=
  packWord [(0, L.host.formatErrs.toNat), (16, L.host.lastSeq.toNat), (24, b2n L.host.seqSynced), (25, b2n L.host.hCrc),
    (26, b2n L.host.hSilent)]

/-- A word of the host window (09 Tables 9-3, 9-4, 9-5) or a port register (09 Table 9-9). -/
def hostRegs (me : LaneId) (L : LaneSt) (o : Nat) : Option (Word × Bool) :=
  let h := L.host
  let winWord := some (rd32 (Store.reads 0 h.win o 4) 0, false)
  match o with
  | 0x000 => some (packWord [(0, h.cqHead.toNat), (16, L.cqSlots me)], false)
  | 0x004 => some (h.cqTail.setWidth 32, false)
  | 0x008 => some (packWord [(0, h.eqTail.toNat), (16, L.eqRecords me)], false)
  | 0x00C => some (h.eqHead.setWidth 32, false)
  | 0x010 => some (packWord [(0, b2n h.dbHeld), (1, b2n h.eqOvf), (2, b2n h.asleep), (3, b2n h.trans.isSome),
      (4, h.wait.toNat), (8, h.resv.toNat), (16, L.replySlots me), (24, replyFree me L)], false)
  | 0x014 => some (h.cqDiscard.setWidth 32, false)
  | 0x20000 => some (packWord [(0, h.crcErrs.toNat), (16, h.seqErrs.toNat)], false)
  | 0x20004 => some (hostReg1 L, false)
  | 0x20008 => some (h.transactions, false)
  | 0x2000C => some (packWord [(0, h.admitted.toNat), (16, h.refused.toNat)], false)
  | 0x20010 => some (packWord [(0, tasksFree L), (8, (h.tasks.filter Task.waiting).length)], false)
  | _ =>
    if o < 0x100 then some (0, false)
    else if o < 0x1A0 then some (h.mirror.getD ((o - 0x100) / 4) 0, false)
    else if o < 0x200 then some (0, false)
    else if 0x1000 ≤ o && o < 0x1000 + 256 * L.cqSlots me then winWord
    else if 0x5000 ≤ o && o < 0x5000 + 16 * L.eqRecords me then winWord
    else if 0x9000 ≤ o && o < 0x9000 + 1024 * L.replySlots me then winWord
    else none

/-- EVENT registers (10 Table 10-4). -/
def evRegs (L : LaneSt) (o : Nat) : Option (Word × Bool) :=
  let e := L.ev
  if o = 0x000 then some (0, false)
  else if o = 0x004 then some (packWord [(0, e.eqDrops.toNat), (16, e.remoteDrops.toNat)], false)
  else if o = 0x008 then some (packWord [(0, e.holdRunning.toNat), (16, b2n e.hirq), (17, b2n L.host.asleep)], false)
  else if o = 0x00C then
    some (packWord [(0, e.wakeMask.toNat), (16, e.unmatched.toNat), (24, min 255 e.pending.length)], false)
  else if 0x100 ≤ o && o < 0x200 then some (rd32 (Store.reads 0 e.cnt (o - 0x100) 4) 0, false)
  else none

/-- A latched fault record (12 Table 12-5). -/
def FaultRec.bytes (r : FaultRec) : List Byte :=
  [r.source, BitVec.ofNat 8 (r.cls.toNat + 8 * r.lane.num + 32 * b2n r.handled + 64 * b2n r.unsync + 128 * b2n r.escalated),
    r.secSource, BitVec.ofNat 8 (r.secClass.toNat + 8 * b2n r.secOvf)]
  ++ le32 r.time ++ le32 r.location ++ le32 r.detailA ++ le32 r.detailB ++ le32 r.secLocation ++ le32 r.sample
  ++ le16 r.count ++ zeros 2

/-- The 32 bytes of a slot: zeros when no record is latched (11 R362). -/
def recBytes : Option FaultRec → List Byte
  | some r => r.bytes
  | none => zeros 32

/-- A record in handling (12 R386). -/
def inHandling : Option FaultRec → Bool
  | some r => !r.handled
  | none => false

/-- FLT_N driven low (12 R389): until the lane has announced itself since its supply started, in reset, FA, and for the records it holds. -/
def fltLow (L : LaneSt) : Bool :=
  !L.start.supplied || !L.start.said || L.start.inReset || L.start.fa || L.int.uc.isSome || L.int.fa.isSome
  || (L.int.ce.isSome && L.host.run.nat Item.fltCe == 1)

/-- INTEGRITY registers (12 Table 12-9). -/
def intRegs (L : LaneSt) (o : Nat) : Option (Word × Bool) :=
  let i := L.int
  let m := o / 4
  if o < 0x020 then some (packWord [(0, (Store.read 0 i.sbe m).toNat), (16, (Store.read 0 i.ded m).toNat)], false)
  else match o with
  | 0x020 => some (i.lastDed, false)
  | 0x024 => some (i.lastSbe, false)
  | 0x028 => some (packWord [(0, i.parityData.toNat), (16, i.parityAddr.toNat)], false)
  | 0x02C => some (packWord [(0, i.mergeRmw.toNat), (16, i.mergePoison.toNat)], false)
  | 0x030 => some (i.scrubPasses, false)
  | 0x034 => some (packWord [(0, i.scrubLast.toNat), (16, i.scrubMax.toNat)], false)
  | 0x038 => some (packWord [(0, i.repairs.toNat), (16, i.poisonUsed.toNat)], false)
  | 0x03C => some (packWord [(0, i.ceCount.toNat), (8, i.ucCount.toNat), (16, i.faCount.toNat), (24, b2n i.checkerOk)], false)
  | 0x160 => some (packWord [(0, i.ovf.toNat), (3, b2n (inHandling i.ce)), (4, b2n (inHandling i.uc)),
      (5, b2n (inHandling i.fa)), (6, b2n (fltLow L))], false)
  | _ =>
    if 0x100 ≤ o && o < 0x120 then some (rd32 (recBytes i.ce) (o - 0x100), false)
    else if 0x120 ≤ o && o < 0x140 then some (rd32 (recBytes i.uc) (o - 0x120), false)
    else if 0x140 ≤ o && o < 0x160 then some (rd32 (recBytes i.fa) (o - 0x140), false)
    else none

/-- POWER registers (13 Table 13-15). -/
def powReg0 (L : LaneSt) : Word :=
  packWord [(0, (L.dom .aon).code), (2, (L.dom .cpu).code), (4, (L.dom .ox).code), (6, (L.dom .mem).code),
    (8, (L.dom .ana).code), (10, (L.dom .gate).code), (12, (L.dom .flock).code), (14, (L.dom .host).code),
    (16, L.pow.op), (18, L.pow.opRestore), (20, b2n L.pow.vinWarn), (21, b2n L.pow.change.isSome),
    (22, b2n L.pow.corePmbus), (23, b2n L.pow.plannedSleep)]
def powReg1 (L : LaneSt) : Word :=
  packWord [(0, L.pow.wakeFailed.toNat), (8, L.pow.failStep.toNat), (10, L.pow.failDomain.toNat),
    (16, L.pow.vinWarnCount.toNat), (24, L.pow.pmbusErr.toNat)]

def powRegs (L : LaneSt) : Nat → Option (Word × Bool)
  | 0x000 => some (powReg0 L, false)
  | 0x004 => some (powReg1 L, false)
  | 0x008 => some (packWord [(0, L.pow.vin.toNat), (16, L.pow.vcore.toNat)], false)
  | 0x00C => some (packWord [(0, L.pow.refuseDomain.toNat), (3, L.pow.refuseReason.toNat), (8, L.pow.refuseCount.toNat)], false)
  | _ => none

/-- START registers (13 Table 13-16). -/
def startReg0 (L : LaneSt) : Word :=
  packWord [(0, L.start.phase.code), (3, L.start.coltAction.code), (5, b2n L.start.coltFast), (6, b2n L.start.coltNoHall),
    (7, b2n L.start.overdue), (8, L.start.bootCount.toNat), (16, L.start.ovdRead.toNat), (24, b2n L.start.bist.isSome)]

def startRegs (L : LaneSt) : Nat → Option (Word × Bool)
  | 0x000 => some (startReg0 L, false)
  | 0x004 => some (L.start.coltTime, false)
  | 0x008 => some (L.start.fullTime, false)
  | 0x00C => some (L.start.coltEffort, false)
  | _ => none

/-- A word of an engine's space at a byte offset (01 Table 1-5): its value and whether it is OWNER only; none where
nothing is mapped. -/
def engineWord (me : LaneId) (L : LaneSt) (eng o : Nat) : Option (Word × Bool) :=
  match eng with
  | 0 => laneRegs me L o
  | 1 => oxRegs L o
  | 2 => motRegs me L o
  | 3 => senRegs me L o
  | 4 => gateRegs me L o
  | 5 => flockRegs L o
  | 6 => hostRegs me L o
  | 7 => evRegs L o
  | 8 => intRegs L o
  | 9 => powRegs L o
  | 10 => startRegs L o
  | _ => none

/-- The fields of a host address (00 R10). -/
def adrLane (a : Nat) : Nat := a / 2 ^ 22 % 4
def adrEngine (a : Nat) : Nat := a / 2 ^ 18 % 16
def adrOffset (a : Nat) : Nat := a % 2 ^ 18

/-- The 64-bit array word behind an address, where it lies in an array a host reads: the host window (memory 5) and
the trace SRAM (memory 4) (12 Table 12-1). -/
def arrayWord (a : Nat) : Option (Nat × Nat) :=
  let o := adrOffset a
  match adrEngine a with
  | 1 => if 0x20000 ≤ o then some (4, (o - 0x20000) / 8) else none
  | 6 => if (0x100 ≤ o && o < 0x1A0) || (0x1000 ≤ o && o < 0x19000) then some (5, o / 8) else none
  | _ => none

/-- Is the word at an address delivered poisoned (09 R300)? -/
def poisonedAt (L : LaneSt) (a : Nat) : Bool :=
  match arrayWord a with
  | some k => L.int.poisoned.contains k
  | none => false

end Sys2Proof.Machine
end

