-- ==== Sys2Proof/Machine/Ops.lean ====
section
/-! DEFINITION. The operations the meanings share: the lane a command acts on, privileges and access violations
(01 R46–R55), event delivery (10 R325–R341), the fault collector (12 R384–R389) and standing faults (02 R59).
Log entries: 7, 13, 16, 42, 51, 54, 75 (DEDUCED); 8, 9, 10, 56, 76 (DESIGN CHOICE). -/

namespace Sys2Proof

/-- Does a privilege cover the one an opcode names (11 R353)? -/
def Priv.covers (have_ need : Priv) : Bool :=
  match need, have_ with
  | .none, _ => true
  | .observer, .none => false
  | .observer, _ => true
  | .operator, .owner => true
  | .operator, .operator => true
  | .operator, _ => false
  | .owner, .owner => true
  | .owner, _ => false

end Sys2Proof

namespace Sys2Proof.Machine

/-- A lane of the device. -/
def State.lane (s : State) (l : LaneId) : LaneSt := s.lanes.get l

/-- Replace a lane. -/
def State.setLane (s : State) (l : LaneId) (L : LaneSt) : State := { s with lanes := s.lanes.set l L }

/-- A command acts on one lane (01 R14). -/
def onLane (l : LaneId) (f : LaneSt → LaneSt) (s : State) : Out := .next (s.setLane l (f (s.lane l)))

/-- A command of a lane that must meet a condition to see it: otherwise nothing happens. -/
def onLaneIf (l : LaneId) (c : LaneSt → Bool) (f : LaneSt → LaneSt) (s : State) : Out :=
  onLane l (fun L => if c L then f L else L) s

/-! ## Privileges and violations -/

/-- The privilege a host holds now (01 R51, R54): a claim gives OWNER to its host, and the host that holds OWNER by
configuration then holds OPERATOR. -/
def LaneSt.priv (L : LaneSt) (h : Sender) : Priv :=
  match L.eng.claim with
  | some c => if c = h then .owner else
    match L.host.run.priv h with
    | .owner => .operator
    | p => p
  | none => L.host.run.priv h

/-- Count and record an access violation (01 R48). -/
def violate (addr : Nat) (write unmapped : Bool) (L : LaneSt) : LaneSt :=
  { L with eng := { L.eng with violCount := satInc L.eng.violCount, violAddr := BitVec.ofNat 24 addr,
                               violWrite := write, violUnmapped := unmapped } }

/-- What a read of one word gives (01 R47, R48, 09 R300): the word, whether it is poisoned, and whether it is a
violation, and of which kind (unmapped, or not privileged). -/
structure ReadRes where
  value : Word
  poison : Bool
  viol : Option Bool
  deriving DecidableEq, Repr

def readWord (me : LaneId) (L : LaneSt) (owner : Bool) (addr : Nat) : ReadRes :=
  if adrLane addr ≠ me.num then ⟨0, false, some true⟩
  else match engineWord me L (adrEngine addr) (adrOffset addr) with
  | none => ⟨0, false, some true⟩
  | some (v, ownerOnly) =>
    if ownerOnly && !owner then ⟨0, false, some false⟩
    else ⟨v, poisonedAt L addr, none⟩

/-- Read consecutive words; each violation is counted as it comes. -/
def readWords (me : LaneId) (owner : Bool) : Nat → Nat → LaneSt → List (Word × Bool) × LaneSt
  | 0, _, L => ([], L)
  | n + 1, addr, L =>
    let r := readWord me L owner addr
    let L' := match r.viol with
      | some u => violate addr false u L
      | none => L
    let (ws, L'') := readWords me owner n (addr + 4) L'
    ((r.value, r.poison) :: ws, L'')

/-! ## Herdline -/

/-- Send a message on the lane's links (01 R19). -/
def send (m : HerdMsg) (L : LaneSt) : LaneSt := { L with herdTx := L.herdTx ++ [m] }

/-! ## Event delivery -/

/-- The bytes of an event record (10 Table 10-2). -/
def recordBytes (me : LaneId) (src count : Byte) (cls : BitVec 3) (unsync loss replay : Bool) (t : Word)
    (payload : BitVec 64) : List Byte :=
  [src, count, BitVec.ofNat 8 (cls.toNat + 8 * me.num + 32 * b2n unsync + 64 * b2n loss + 128 * b2n replay), 0]
  ++ le32 t ++ le64 payload

/-- The group of a source (10 R325). -/
def groupOf (src : Byte) : Nat := src.toNat / 16

/-- Does a record of a group signal while the host sleeps (10 R339)? Groups 0, 1 and 2 always do. -/
def LaneSt.signals (L : LaneSt) (g : Nat) : Bool := !L.host.asleep || g ≤ 2 || L.ev.wakeMask.getLsbD g

/-- HIRQ_N is asserted (10 R337). While PD_HOST is not On, PD_AON holds the level, and the assertion waits for its wake. -/
def raiseIrq (L : LaneSt) : LaneSt :=
  if L.dom .host == .on then { L with ev := { L.ev with hirq := true } } else { L with ev := { L.ev with irqDue := true } }

/-- A record of group g was written (10 R337, R338): with no hold-off HIRQ_N is asserted, otherwise the group's timer
starts if it does not run. -/
def signal (g : Nat) (L : LaneSt) : LaneSt :=
  if L.ev.hirq || !L.signals g then L
  else if L.host.run.nat (Item.holdoff + g) = 0 then raiseIrq L
  else { L with ev := { L.ev with holdRunning := L.ev.holdRunning ||| (1#16 <<< g) } }

/-- Words of an array have been written whole: they decode clean (12 R373, Table 12-1). -/
def cleanWords (mem first n : Nat) (L : LaneSt) : LaneSt :=
  { L with int := { L.int with poisoned := L.int.poisoned.filter fun q => !(q.1 == mem && first ≤ q.2 && q.2 < first + n),
                               flipped := L.int.flipped.filter fun e => !(e.1.1 == mem && first ≤ e.1.2 && e.1.2 < first + n) } }

def cleanWord (mem word : Nat) (L : LaneSt) : LaneSt := cleanWords mem word 1 L

/-- Whole arrays have been initialised to zero with valid check bits (12 R380, 13 R417): nothing in them waits to be merged or repaired. -/
def initArrays (ms : List Nat) (L : LaneSt) : LaneSt :=
  { L with int := { L.int with poisoned := L.int.poisoned.filter fun q => !ms.contains q.1,
                               flipped := L.int.flipped.filter fun e => !ms.contains e.1.1,
                               merge := L.int.merge.filter fun e => !ms.contains e.mem,
                               repairQ := L.int.repairQ.filter fun q => !ms.contains q.1 } }

def addPair (p : Nat × Nat) (l : List (Nat × Nat)) : List (Nat × Nat) := if l.contains p then l else l ++ [p]

/-- A word is stored with the poison codeword (12 R374). -/
def poisonWord (mem word : Nat) (L : LaneSt) : LaneSt :=
  { L with int := { L.int with poisoned := addPair (mem, word) L.int.poisoned } }

/-! ## Parity on the interconnect (12 R375) -/

/-- Is a transfer of a word about to fail its parity, and by which? -/
def parityHit (mem word : Nat) (write : Bool) (L : LaneSt) : Option ParityHit :=
  L.int.parityHits.find? fun h => h.mem == mem && h.word == word && h.write == write

/-- A transfer has failed its parity: the hit is spent, and counted. -/
def spendHit (h : ParityHit) (L : LaneSt) : LaneSt :=
  let i := { L.int with parityHits := L.int.parityHits.erase h }
  { L with int := if h.control then { i with parityAddr := satInc i.parityAddr } else { i with parityData := satInc i.parityData } }

/-- A write of the device itself has failed its parity: one with an address or control error has its report owed, which is made as soon as
that write is over (log entry 76). -/
def oweHit (h : ParityHit) (L : LaneSt) : LaneSt :=
  let L := spendHit h L
  if h.control then { L with int := { L.int with parityOwed := L.int.parityOwed ++ [h] } } else L

/-- The hits on writes of the words of a place. -/
def LaneSt.writeHits (L : LaneSt) (p : Nat → Nat → Bool) : List ParityHit := L.int.parityHits.filter fun h => h.write && p h.mem h.word

/-- The device writes `n` whole words of the host window: a data parity error stores its word poisoned, and an address or control parity
error leaves it as it was. -/
def ownWrite (first n : Nat) (put : LaneSt → LaneSt) (L : LaneSt) : LaneSt :=
  (L.writeHits fun m w => m == 5 && first ≤ w && w < first + n).foldl (fun M h =>
    let M := oweHit h M
    let M := if h.control then
        { M with host := { M.host with win := Store.writes 0 M.host.win (8 * h.word) (Store.reads 0 L.host.win (8 * h.word) 8) } } else M
    if !h.control || L.int.poisoned.contains (5, h.word) then poisonWord 5 h.word M else M) (cleanWords 5 first n (put L))

/-- Write a record at EQ_TAIL (10 R330); it carries LOSS when a record was dropped since the last one (R335). -/
def putRecord (me : LaneId) (src count : Byte) (cls : BitVec 3) (unsync replay : Bool) (t : Word) (payload : BitVec 64)
    (L : LaneSt) : LaneSt :=
  let h := L.host
  let bytes := recordBytes me src count cls unsync h.lossOwed replay t payload
  let at_ := 0x5000 + 16 * (h.eqTail.toNat % L.eqRecords me)
  signal (groupOf src) <| ownWrite (at_ / 8) 2 (fun L =>
    { L with host := { h with win := Store.writes 0 h.win at_ bytes, eqTail := h.eqTail + 1, lossOwed := false, eqOvf := false } }) L

/-- Room for a record that is not reserved (10 R335, 09 R310). The window of a PD_HOST that is not On takes none (13 Table 13-7). -/
def LaneSt.room (me : LaneId) (L : LaneSt) : Bool := L.dom .host == .on && L.host.eqHeld + L.host.resv.toNat < L.eqRecords me

/-- Insert a source number in an ascending list without repeat. -/
def insertNat (x : Nat) : List Nat → List Nat
  | [] => [x]
  | a :: r => if x < a then x :: a :: r else if x = a then a :: r else a :: insertNat x r

/-- Sources that every healthy lane raises (10 Table 10-1): group 1. -/
def deviceWide (src : Byte) : Bool := groupOf src == 1

/-- The route of a source (10 R331): 0 NONE, 1 LOCAL, 2 + n REMOTE_n. -/
def LaneSt.route (L : LaneSt) (src : Byte) : Nat := L.host.run.nat (0x7000 + src.toNat)

/-- Write the record of a source from its count and latest arrival, and end its pending state (10 R328, R336). -/
def writeSource (me : LaneId) (src : Byte) (replay : Bool) (L : LaneSt) : LaneSt :=
  match Store.find L.ev.latest src.toNat with
  | none => L
  | some a =>
    let n := Store.read 0 L.ev.cnt src.toNat
    let L' := { L with ev := { L.ev with cnt := Store.write 0 L.ev.cnt src.toNat 0,
                                         pending := L.ev.pending.filter (· != src.toNat) } }
    let r := L.route src
    if r = 1 then putRecord me src n a.cls a.unsync replay a.time a.payload L'
    else if 2 ≤ r then
      let q := Store.read [] L'.ev.remoteQ (r - 2)
      let bytes := recordBytes me src n a.cls a.unsync (L'.ev.remoteLoss.contains (r - 2)) replay a.time a.payload
      { L' with ev := { L'.ev with remoteQ := Store.write [] L'.ev.remoteQ (r - 2) (q ++ [bytes]),
                                   remoteLoss := L'.ev.remoteLoss.filter (· != r - 2) } }
    else L

/-- Is there room where a source is routed (10 R332: 32 records, no reservation, for a remote queue)? -/
def LaneSt.roomFor (me : LaneId) (L : LaneSt) (src : Byte) : Bool :=
  let r := L.route src
  if r = 1 then L.room me
  else (Store.read [] L.ev.remoteQ (r - 2)).length < 32

/-- Does this lane write the record of a source (10 R332): for a device-wide source routed to a remote host, the lead
alone does. -/
def LaneSt.writes (me : LaneId) (L : LaneSt) (src : Byte) : Bool :=
  let r := L.route src
  r ≠ 0 && (r = 1 || !deviceWide src || L.eng.lead == some me)

/-- A record is dropped (10 R335). -/
def dropRecord (src : Byte) (L : LaneSt) : LaneSt :=
  if L.route src = 1 then
    { L with ev := { L.ev with pending := insertNat src.toNat L.ev.pending, eqDrops := satInc L.ev.eqDrops },
             host := { L.host with eqOvf := true, lossOwed := true } }
  else { L with ev := { L.ev with pending := insertNat src.toNat L.ev.pending, remoteDrops := satInc L.ev.remoteDrops,
                                  remoteLoss := insertNat (L.route src - 2) L.ev.remoteLoss } }

/-- An arrival at the doorbell (10 R325, R328), with its time and the number of edges it counts. -/
def arriveAt (me : LaneId) (src : Byte) (n : Nat) (cls : BitVec 3) (payload : BitVec 64) (t : Word) (unsync : Bool)
    (L : LaneSt) : LaneSt :=
  let e := L.ev
  let L' := { L with ev := { e with cnt := Store.write 0 e.cnt src.toNat (satAdd (Store.read 0 e.cnt src.toNat) n),
                                    latest := Store.put e.latest src.toNat ⟨cls, payload, t, unsync⟩ } }
  if !L'.writes me src then L'
  else if L'.roomFor me src then writeSource me src false L'
  else dropRecord src L'

/-- An arrival now. The event controller of a lane that is lost or not clocked takes none (10 R327, R334). -/
def arrive (me : LaneId) (src : Byte) (cls : BitVec 3) (payload : BitVec 64) (L : LaneSt) : LaneSt :=
  if L.running && !(deviceWide src && !L.eng.healthy.get me) then arriveAt me src 1 cls payload L.now L.unsync L else L

/-- Replays: one record for each free record, in ascending source number (10 R336). -/
def replayFrom (me : LaneId) : List Nat → LaneSt → LaneSt
  | [], L => L
  | s :: r, L =>
    let src := BitVec.ofNat 8 s
    replayFrom me r (if L.writes me src && L.roomFor me src then writeSource me src true L else L)

def replay (me : LaneId) (L : LaneSt) : LaneSt := replayFrom me L.ev.pending L

/-- Two words as a payload: bytes 0–3, then bytes 4–7. -/
def pay2 (a b : Word) : BitVec 64 := b ++ a

/-- Payload bytes, byte 0 first. -/
def payBytes (b : List Byte) : BitVec 64 := rd64 b 0

/-- The payloads that are registers (10 Table 10-1): groups 3, 4 and 6. -/
def senPayload (me : LaneId) (L : LaneSt) : BitVec 64 := pay2 (senReg0 me L) (senReg6 L)
def gatePayload (me : LaneId) (L : LaneSt) : BitVec 64 := pay2 (gateReg0 me L) (gateReg1 L)
def flockPayload (L : LaneSt) : BitVec 64 := pay2 (flockReg0 L) (flockReg5 L)

def clsInfo : BitVec 3 := 1
def clsCe : BitVec 3 := 2
def clsUc : BitVec 3 := 3
def clsFa : BitVec 3 := 4
def clsState : BitVec 3 := 5

def postSense (me : LaneId) (src : Byte) (cls : BitVec 3) (L : LaneSt) : LaneSt := arrive me src cls (senPayload me L) L
def postGate (me : LaneId) (src : Byte) (L : LaneSt) : LaneSt := arrive me src clsUc (gatePayload me L) L
def postFlock (me : LaneId) (src : Byte) (cls : BitVec 3) (L : LaneSt) : LaneSt := arrive me src cls (flockPayload L) L

/-- Events 0x12 (10 Table 10-1): the cause is 0 election, 1 switch-over, 2 LANE_ROLE_SET, 3 rejoin. -/
def postRole (me : LaneId) (cause : Byte) (L : LaneSt) : LaneSt :=
  arrive me 0x12 clsState (payBytes [BitVec.ofNat 8 (laneCode L.eng.lead), BitVec.ofNat 8 (laneCode L.eng.standby), cause,
    0, 0, 0, 0, 0]) L

/-- Event 0x13: the excluded lane and the kind code of 02 R59. -/
def postExcluded (me : LaneId) (j : LaneId) (k : FKind) (L : LaneSt) : LaneSt :=
  arrive me 0x13 clsState (payBytes [BitVec.ofNat 8 j.num, BitVec.ofNat 8 k.code, 0, 0, 0, 0, 0, 0]) L

/-- Event 0x11 (02 R73). -/
def postMule (me : LaneId) (L : LaneSt) : LaneSt :=
  arrive me 0x11 clsState (payBytes ([L.safe.muleCause, 0] ++ le16 L.safe.muleRemain ++ zeros 4)) L

/-! ## Trace triggers (04 R158, R159) -/

/-- The pre-trigger portion of a probe: floor(Depth × PRE_PCT / 100). -/
def Probe.pre (p : Probe) : Nat := p.depth * p.prePct.toNat / 100

/-- The samples a probe records from its trigger index on (04 R158). -/
def Probe.need (p : Probe) : Nat := p.depth - p.pre

/-- A probe that has all its samples is DONE. -/
def Probe.settle (p : Probe) : Probe := if p.state == .triggered && p.need ≤ p.post && !p.waitOfs then { p with state := .done } else p

/-- An ARMED probe takes a trigger at an instant of the lane's clock: samples taken since then are already in its ring;
with none, its first post-trigger sample is still to come. At 100 % it is DONE at the trigger. -/
def Probe.take (p : Probe) (src : BitVec 3) (lane : LaneId) (inst : Nat) (time : Word) (unsync : Bool) (sample : Nat) : Probe :=
  let late := (p.insts.takeWhile fun i => inst ≤ i).length
  let p := { p with state := .triggered, trigSrc := src, trigLane := BitVec.ofNat 2 lane.num, trigInst := inst, trigTime := time,
                    timeUnsync := unsync, trigSample := sample, preValid := min (min p.samples p.depth - late) p.pre, post := late,
                    trigIndex := (p.next + p.depth - late % max 1 p.depth) % max 1 p.depth,
                    trigOfs := if late = 0 then 0 else BitVec.ofNat 32 (p.insts.getD (late - 1) inst - inst),
                    waitOfs := late == 0 && p.need != 0 }
  p.settle

/-- Events 0x52 (triggered) and 0x53 (DONE) of probe `n`. -/
def postProbe (me : LaneId) (src : Byte) (n : Nat) (p : Probe) (L : LaneSt) : LaneSt :=
  arrive me src clsInfo (payBytes ([BitVec.ofNat 8 n, p.trigSrc.setWidth 8, 0, 0] ++ le32 p.trigTime)) L

/-- The events of the probes that changed state. -/
def postProbes (me : LaneId) (old new : List Probe) (L : LaneSt) : LaneSt :=
  (List.range new.length).foldl (fun L i =>
    let a := old.getD i {}
    let b := new.getD i {}
    let L := if a.state == .armed && (b.state == .triggered || b.state == .done) then postProbe me 0x52 i b L else L
    if a.state != .done && b.state == .done then postProbe me 0x53 i b L else L) L

/-- A trigger on this lane: source 0 node comparison, 1 fault, 2 host command, 3 flock cycle, 4 another lane. A trigger
of the same sample with a lower code gives TRIG_SRC (04 R158). It is sent to the other lanes with CROSS_LANE, and
always for a host command (04 R159, R160). -/
def traceTrigger (me : LaneId) (src : BitVec 3) (lane : LaneId) (inst : Nat) (L : LaneSt) : LaneSt :=
  if !L.trace.probes.any fun p => p.state == .armed then
    { L with trace := { L.trace with probes := L.trace.probes.map fun p =>
        if (p.state == .triggered || p.state == .done) && p.trigSample == L.ox.fastCount && src.toNat < p.trigSrc.toNat then
          { p with trigSrc := src, trigLane := BitVec.ofNat 2 lane.num }
        else p } }
  else
    let time := L.now - BitVec.ofNat 32 ((L.time.clk10 - inst) / 100)
    let new := L.trace.probes.map fun p =>
      if p.state == .armed then p.take src lane inst time L.unsync L.ox.fastCount else p
    let L := postProbes me L.trace.probes new { L with trace := { L.trace with probes := new } }
    let cross := match L.trace.setup with
      | some s => s.cross
      | none => false
    if src = 2 || (cross && src != 4) then send (.traceTrigger inst) L else L

/-- A fault trigger (04 R158): the collector latched or merged a record of a class in FAULT_MASK. -/
def faultTrigger (me : LaneId) (cls : BitVec 3) (L : LaneSt) : LaneSt :=
  match L.trace.setup with
  | some s => if s.kind = 2 && s.faultMask.getLsbD (cls.toNat - 2) then traceTrigger me 1 me L.time.clk10 L else L
  | none => L

/-- A flock-cycle trigger (04 R158): a cycle with the number CYCLE, or any for 0xFF, starts now. -/
def cycleTrigger (me : LaneId) (k : Nat) (L : LaneSt) : LaneSt :=
  match L.trace.setup with
  | some s => if s.kind = 3 && (s.cycle = 0xFF || s.cycle.toNat = k) then traceTrigger me 3 me L.time.clk10 L else L
  | none => L

/-! ## The fault collector -/

/-- The class of a source (12 Table 12-4): CE 2, UC 3, FA 4. -/
def faultClass (src : Byte) : BitVec 3 :=
  if src ∈ [0x01#8, 0x02#8, 0x30#8, 0x58#8, 0x59#8, 0x60#8] then 2
  else if src ∈ [0x10#8, 0x11#8, 0x20#8, 0x26#8, 0x27#8, 0x53#8, 0x61#8, 0x62#8, 0x63#8] then 4
  else 3

/-- The engine named in LOCATION (12 Table 12-5): the engine whose registers or part the source belongs to. -/
def faultEngine (src : Byte) : Nat :=
  let n := src.toNat
  if n < 0x08 then 8
  else if n = 0x0B then 0 else if n = 0x0C then 6 else if n = 0x0D then 5 else if n = 0x0E || n = 0x0F then 10
  else if n = 0x10 || n = 0x20 then 0
  else if n = 0x27 then 10
  else if n < 0x30 then 1
  else if n < 0x38 then 0
  else if n = 0x3B then 2
  else if n < 0x40 then 3
  else if n < 0x50 then 4
  else if n < 0x58 then 5
  else if n < 0x60 then 6
  else if n = 0x64 then 10
  else 9

/-- DETAIL_A and DETAIL_B (12 Table 12-6, 13 R436); memory sources bring their own. -/
def faultDetail (me : LaneId) (L : LaneSt) (src : Byte) : Word × Word :=
  let n := src.toNat
  if n < 0x20 then (L.int.lastDed, 0)
  else if n < 0x30 then (oxReg2 L, oxReg0 L)
  else if n < 0x38 then (laneReg0 me L, 0)
  else if n < 0x40 then (senReg0 me L, senReg6 L)
  else if n < 0x50 then (gateReg0 me L, gateReg1 L)
  else if n < 0x58 then (flockReg0 L, flockReg5 L)
  else if n < 0x60 then (hostReg1 L, 0)
  else if n = 0x64 then (startReg0 L, 0)
  else (powReg0 L, powReg1 L)

/-- The record slot of a class. -/
def IntEng.slot (i : IntEng) (cls : BitVec 3) : Option FaultRec :=
  if cls = 2 then i.ce else if cls = 3 then i.uc else i.fa

def IntEng.setSlot (i : IntEng) (cls : BitVec 3) (r : Option FaultRec) : IntEng :=
  if cls = 2 then { i with ce := r } else if cls = 3 then { i with uc := r } else { i with fa := r }

/-- The overflow bit of a class: 0 CE, 1 UC, 2 FA. -/
def ovfBit (cls : BitVec 3) : BitVec 3 := if cls = 2 then 1 else if cls = 3 then 2 else 4

/-- The record in handling that was latched most recently (12 R386). -/
def IntEng.handling (i : IntEng) : Option FaultRec :=
  [i.ce, i.uc, i.fa].foldl (fun best r =>
    match r with
    | some x => if x.handled then best else
      match best with
      | some b => if b.stamp < x.stamp then some x else best
      | none => some x
    | none => best) none

/-- The event of a latch or merge (12 R387): source 0x20, 0x21 or 0x22, bytes 0–7 of the record. -/
def postFault (me : LaneId) (r : FaultRec) (L : LaneSt) : LaneSt :=
  faultTrigger me r.cls (arrive me (0x1E + r.cls.setWidth 8) r.cls (payBytes r.bytes) L)

/-- Merge a report into a record in handling as its secondary cause (12 R386). -/
def FaultRec.merge (r : FaultRec) (src : Byte) (loc : Word) : FaultRec :=
  if r.secSource = 0 then
    { r with secSource := src, secClass := faultClass src, secLocation := loc, count := satInc r.count }
  else { r with secOvf := true, count := satInc r.count }

/-- A report of a class in its own slot (12 R385). A record of the class that is still in handling takes it as a
secondary cause. -/
def latchOwn (me : LaneId) (src : Byte) (loc a b : Word) (L : LaneSt) : LaneSt :=
  let cls := faultClass src
  match L.int.slot cls with
  | none =>
    let r : FaultRec := { source := src, cls := cls, lane := me, unsync := L.unsync, time := L.now, location := loc,
                          detailA := a, detailB := b, sample := BitVec.ofNat 32 L.ox.fastCount, stamp := L.int.stamps }
    let i := { L.int with stamps := L.int.stamps + 1, faCount := if cls = 4 then satInc L.int.faCount else L.int.faCount }
    postFault me r { L with int := i.setSlot cls (some r) }
  | some r =>
    if r.handled then
      { L with int := { L.int.setSlot cls (some { r with count := satInc r.count }) with ovf := L.int.ovf ||| ovfBit cls } }
    else
      let r' := r.merge src loc
      postFault me r' { L with int := L.int.setSlot cls (some r') }

/-- A report reaches the collector (12 R384–R387). -/
def reportAt (me : LaneId) (src : Byte) (loc a b : Word) (L : LaneSt) : LaneSt :=
  let cls := faultClass src
  let i := L.int
  let L := { L with int := { i with ceCount := if cls = 2 then satInc i.ceCount else i.ceCount,
                                    ucCount := if cls = 3 then satInc i.ucCount else i.ucCount } }
  match L.int.handling with
  | some r =>
    if cls.toNat ≤ r.cls.toNat then
      let r' := r.merge src loc
      postFault me r' { L with int := L.int.setSlot r.cls (some r') }
    else latchOwn me src loc a b { L with int := L.int.setSlot r.cls (some { r with escalated := true }) }
  | none => latchOwn me src loc a b L

/-- LOCATION from unit and cell (12 Table 12-5). -/
def location (src : Byte) (unit cell : Nat) : Word := packWord [(0, cell), (20, unit), (28, faultEngine src)]

/-- A report with the details of its source. -/
def report (me : LaneId) (src : Byte) (unit cell : Nat) (L : LaneSt) : LaneSt :=
  reportAt me src (location src unit cell) (faultDetail me L src).1 (faultDetail me L src).2 L

/-- A consumption of poison with a report (12 R381): POISON_USED counts it. -/
def reportPoison (me : LaneId) (src : Byte) (unit cell : Nat) (L : LaneSt) : LaneSt :=
  report me src unit cell { L with int := { L.int with poisonUsed := satInc L.int.poisonUsed } }

/-! ## The Welor engine at a start (08 R264, R276) -/

/-- The lane that transmits on a channel. -/
def txLane : Channel → LaneId
  | .A => .l0 | .B => .l1

/-- Does a lane receive a channel: its own, and lane 2 both? -/
def receives (me : LaneId) (ch : Channel) : Bool := me == .l2 || txLane ch == me

/-- BGE stays released while the lane is excluded, isolated lanes among them (01 R21), and after a kill order (08 R285). -/
def LaneSt.barsBge (L : LaneSt) : Bool := L.eng.excluded || L.eng.killed || L.eng.isolated

/-- The engine at a start: off with FLOCK_NODE_ID 0; a cold-start node listens after a full start (08 R276), any other lane
integrates. -/
def initFlock (me : LaneId) (full : Bool) (L : LaneSt) : LaneSt :=
  let c := L.host.run
  let st := if c.nat Item.nodeId = 0 then LinkState.off
    else if full && c.nat Item.coldstartRank ≠ 0 then .listen else .integrating
  let one := fun (ch : Channel) => { ({} : ChanEng) with state := if receives me ch then st else .notReceived, bgeReleased := L.barsBge }
  { L with time := { L.time with synced := false },
           flock := { ({} : FlockEng) with chA := one .A, chB := one .B, draws := L.flock.draws } }

/-! ## Standing faults -/

/-- A fault comes to stand (02 R59). -/
def addFault (f : Standing) (L : LaneSt) : LaneSt :=
  if L.safe.faults.contains f then L else { L with safe := { L.safe with faults := L.safe.faults ++ [f] } }

/-- The faults a condition names end. -/
def endFaults (p : Standing → Bool) (L : LaneSt) : LaneSt :=
  { L with safe := { L.safe with faults := L.safe.faults.filter (fun f => !p f) } }

/-- A W fault of this lane, by the source that raised it. -/
def addW (me : LaneId) (src : Byte) (L : LaneSt) : LaneSt := addFault { kind := .winding, lane := me, src := src } L

/-- Does a fault of a kind stand on a lane? -/
def LaneSt.hasFault (L : LaneSt) (k : FKind) (l : LaneId) : Bool := L.safe.faults.any fun f => f.kind == k && f.lane == l

/-! ## Safe state -/

/-- SAFE_STATE changes (02 Table 2-5): its time is taken and event 0x10 posted. -/
def setSafe (me : LaneId) (n : Safe) (L : LaneSt) : LaneSt :=
  if L.safe.state = n then L
  else
    let old := L.safe.state
    arrive me 0x10 clsState
      (payBytes [BitVec.ofNat 8 n.code, BitVec.ofNat 8 old.code, L.safe.stopCause, BitVec.ofNat 8 L.safe.endState.code, 0, 0, 0, 0])
      { L with safe := { L.safe with state := n, stateTime := L.now, stateUnsync := L.unsync } }

/-- The gates go off by rank 1 or by the demand of rank 7, and no current is carried (07 Table 7-1). A Colt action in force ends. -/
def gatesOff (L : LaneSt) : LaneSt :=
  { L with gate := { L.gate with demand := .allOff }, start := { L.start with coltOn := false },
           mot := { L.mot with energised := false, drive := .off, staged := none } }

/-- Freeze the trace (04 R161): ARMED and TRIGGERED probes become FROZEN. -/
def freezeTrace (L : LaneSt) : LaneSt :=
  { L with trace := { L.trace with armReq := false, probes := L.trace.probes.map fun p =>
      if p.state == .armed || p.state == .triggered then { p with state := .frozen } else p } }

/-- Lane 2 releases both BGE balls: on LANE_DOWN, in reset, excluded or after a kill order (08 R285). -/
def releaseBge (me : LaneId) (L : LaneSt) : LaneSt :=
  if me = .l2 then
    { L with flock := { L.flock with chA := { L.flock.chA with bge := false, bgeReleased := true },
                                     chB := { L.flock.chB with bge := false, bgeReleased := true } } }
  else L

/-- Gander closes the channel that a lane which is not healthy transmits on (08 R283). -/
def closeGander (me j : LaneId) (L : LaneSt) : LaneSt :=
  if me != .l2 then L
  else match j with
  | .l0 => { L with flock := { L.flock with chA := { L.flock.chA with bge := false } } }
  | .l1 => { L with flock := { L.flock with chB := { L.flock.chB with bge := false } } }
  | .l2 => L

/-- A lane is lost (02 R63): LANE_DOWN, and all its gates off in the same hardware action. HIRQ_N is released
(10 R337), and the lane drops its role. -/
def loseLane (me : LaneId) (L : LaneSt) : LaneSt :=
  let L := releaseBge me (gatesOff (send .laneDown L))
  { L with gate := { L.gate with forcedOff := true }, eng := { L.eng with role := .none, healthy := L.eng.healthy.set me false },
           mot := { L.mot with enabled := false }, ev := { L.ev with hirq := false, irqDue := false, holdRunning := 0 } }

/-- A FA report that loses the lane (12 R388): the record is copied into PD_AON before LANE_DOWN is sent, and the lost
lane writes no event record (10 R327). -/
def goFatalAt (me : LaneId) (src : Byte) (loc a b : Word) (L : LaneSt) : LaneSt :=
  let L := reportAt me src loc a b { L with start := { L.start with fa := true, faSrc := src } }
  loseLane me (freezeTrace { L with int := { L.int with faSaved := L.int.fa } })

def goFatal (me : LaneId) (src : Byte) (unit cell : Nat) (L : LaneSt) : LaneSt :=
  goFatalAt me src (location src unit cell) (faultDetail me L src).1 (faultDetail me L src).2 L

end Sys2Proof.Machine
end

