-- ==== Sys2Proof/Machine/Colt.lean ====
section
/-! DEFINITION. The Colt action of the always-on hardware (13 R395–R397): which action the record asks for, the fall-backs of
R396, and the hardware's own Hall input.
Log entries: 32, 33 (DEDUCED). -/

namespace Sys2Proof.Machine

/-! ## The record in NVM (Table 13-1) -/

/-- Bytes 0–27 of the record. -/
def ColtRec.body (r : ColtRec) : List Byte :=
  [BitVec.ofNat 8 (r.action.toNat + 4 * b2n r.dir + 8 * b2n r.t2 + 16 * b2n r.halls + 32 * r.hallRot.toNat), r.hallFilt]
  ++ le16 r.duty ++ le16 r.pwmTop ++ [r.dead, r.gsink ++ r.gsrc, r.precharge, r.polePairs] ++ le16 r.speed ++ le24 r.gen ++ zeros 13

/-- The record as it is stored: its 32 bytes. -/
def ColtRec.bytes (r : ColtRec) : List Byte := r.body ++ le32 r.check

/-- The record with its CHECK, as a store writes it. -/
def ColtRec.sealed (r : ColtRec) : ColtRec := { r with check := crc32c r.body }

/-- The CHECK of the record is valid. -/
def ColtRec.ok (r : ColtRec) : Bool := r.check == crc32c r.body

/-! ## The action -/

/-- The action the record asks for (R395): a bad record and the reserved code act as ALL_OFF; lane 2 of a T2 device applies
nothing (R396). -/
def coltWanted (me : LaneId) (L : LaneSt) : ColtAct :=
  match L.start.coltRec with
  | some r =>
    if L.start.coltBad then .allOff
    else if r.t2 && me == .l2 then .none
    else if r.action = 1 then .activeShort
    else if r.action = 2 then .holdEffort
    else .allOff
  | none => .allOff

/-- The action in force now, with the fall-backs of R396. STO_N low overrides every action, and its rise does not apply it again. -/
def coltNow (me : LaneId) (L : LaneSt) : ColtAct :=
  if L.mot.stoHold || !L.gate.stoHigh then .none
  else match coltWanted me L with
  | .holdEffort =>
    if L.start.coltNoHall || L.start.coltPreFail then .allOff
    else if L.start.coltFast then .activeShort
    else .holdEffort
  | a => a

/-- The Colt PWM starts, with the legs of the Hall state that holds. -/
def coltPwm (L : LaneSt) : LaneSt :=
  { L with start := { L.start with coltPwm10 := L.time.clk10, coltPrev := L.start.coltHall, coltAt10 := L.time.clk10 } }

/-- An action comes into force: the bridge, COLT_ACTION and COLT_TIME, which keep what the stage ended with (Table 13-4). -/
def coltSet (a : ColtAct) (d : Bridge) (L : LaneSt) : LaneSt :=
  let x := L.start
  let x := if x.phase == .full then x
    else { x with coltAction := a, coltTime := if x.coltTime = 0 then BitVec.ofNat 32 x.startClock else x.coltTime }
  { L with gate := { L.gate with demand := d }, start := x }

/-- Apply the action that holds now. HOLD_EFFORT waits, with the gates off, until CLK_PWM runs, and begins with the precharge of
07 R247. -/
def coltApply (me : LaneId) (L : LaneSt) : LaneSt :=
  if !L.start.coltOn then L
  else match coltNow me L with
  | .none => coltSet .none .allOff L
  | .allOff => if coltWanted me L == .holdEffort && !L.start.coltReady then L else coltSet .allOff .allOff L
  | .activeShort => if coltWanted me L == .holdEffort && !L.start.coltReady then L else coltSet .activeShort .lowSides L
  | .holdEffort =>
    if !L.start.coltReady || L.gate.demand == .colt || L.gate.demand == .precharge then L
    else { L with gate := { L.gate with demand := .precharge } }

/-- The precharge of the Colt action has ended (07 R247); one that failed also sends BRIDGE_DOWN (07 R256). -/
def coltCharged (me : LaneId) (charged : Bool) (L : LaneSt) : LaneSt :=
  if charged then coltSet .holdEffort .colt (coltPwm L)
  else
    coltApply me (send .bridgeDown { L with start := { L.start with coltPreFail := true },
                                            gate := { L.gate with demand := .allOff, prechargeFail := true } })

/-- Two edges `dt` × 10 ns apart show a motor faster than SPEED: dt < 10 / (POLE_PAIRS × SPEED) s (R396). -/
def coltFaster (r : ColtRec) (dt : Nat) : Bool := dt * (r.polePairs.toNat * r.speed.toNat) < 1000000000

/-- The Hall state of the always-on hardware is usable. -/
def coltHallOk (L : LaneSt) : Bool :=
  (match L.start.coltRec with
   | some r => r.halls
   | none => false) && (L.start.coltHall.bind hallIdx).isSome

/-- The conditions of R396 on the Halls and the speed, as they stand. -/
def coltJudge (L : LaneSt) : LaneSt :=
  let fast := match L.start.coltRec, L.start.coltDt with
    | some r, some dt => r.halls && coltFaster r dt
    | _, _ => false
  { L with start := { L.start with coltFast := L.start.coltFast || fast, coltNoHall := L.start.coltNoHall || !coltHallOk L } }

/-- The last edge, as its direction and time, and the interval of the last two in the same direction. -/
def coltEdges (prev next : Option Nat) (t10 : Nat) (x : StartEng) : StartEng :=
  let edge := fun (rev : Bool) =>
    { x with coltEdge := some (rev, t10), coltDt := match x.coltEdge with
      | some (d, t) => if d == rev then some (t10 - t) else none
      | none => none }
  match prev, next with
  | some i, some j => if j = (i + 1) % 6 then edge false else if i = (j + 1) % 6 then edge true else x
  | _, _ => x

/-- A Hall state accepted by the always-on hardware (R396): an impossible one turns the gates off. -/
def coltHallState (me : LaneId) (h : BitVec 3) (t10 : Nat) (L : LaneSt) : LaneSt :=
  let x := coltEdges (L.start.coltHall.bind hallIdx) (hallIdx h) t10 L.start
  let L := { L with start := { x with coltHall := some h, coltPrev := L.coltInUse t10, coltAt10 := t10 } }
  if L.start.coltOn && L.start.coltReady && coltWanted me L == .holdEffort then coltApply me (coltJudge L) else L

/-- The stage begins, or begins again (R395, R408): the flags of R396 start clear. On a lane in full function, where the action is an end
state, COLT_TIME and COLT_ACTION keep what the stage ended with. -/
def coltBegin (me : LaneId) (L : LaneSt) : LaneSt :=
  let x := L.start
  let x := if x.phase == .full then x else { x with coltTime := 0, coltAction := .allOff }
  let L := { L with start := { x with coltOn := true, coltFast := false, coltNoHall := false, coltPreFail := false },
                    mot := { L.mot with stoHold := L.mot.stoHold || !L.gate.stoHigh } }
  coltApply me (if coltWanted me L == .holdEffort && L.start.coltReady then coltJudge L else L)

/-- CLK_PWM runs: a HOLD_EFFORT that waited for it is applied (Table 13-2). -/
def coltClocked (me : LaneId) (L : LaneSt) : LaneSt :=
  let L := { L with start := { L.start with coltReady := true } }
  if L.start.coltOn then coltApply me (if coltWanted me L == .holdEffort then coltJudge L else L) else L

/-- The gates go off and the stage is over on this lane (R397). -/
def coltEnd (L : LaneSt) : LaneSt :=
  if L.start.coltOn then
    { L with start := { L.start with coltOn := false }, gate := { L.gate with demand := .allOff } }
  else L

/-- The action of the COLT end state (02 R78, R397), by the record held in PD_AON. A bridge whose high sides were in use needs no
precharge. -/
def coltEndState (me : LaneId) (driven : Bool) (L : LaneSt) : LaneSt :=
  let L := coltBegin me { L with start := { L.start with coltReady := true } }
  if driven && L.gate.demand == .precharge then coltCharged me true L else L

end Sys2Proof.Machine
end

