-- ==== Sys2Proof/Machine/Tasks.lean ====
section
/-! DEFINITION. Commands as tasks: the opcode index (11 Tables 11-4, 11-5), flows and their order (09 R311, R312),
results and completions (01 R41, 09 R313, 11 R349, R350), replication (01 R40) and the frame every opcode's meaning
runs in (11 R344–R351).
Log entries: 64, 72, 79 (DEDUCED); 24 (DESIGN CHOICE). -/

namespace Sys2Proof.Machine

/-! ## Status codes (11 Table 11-3) -/

def stOk : Byte := 0x00
def stBadCrc : Byte := 0x01
def stBadParam : Byte := 0x02
def stNotPermitted : Byte := 0x03
def stTooLarge : Byte := 0x04
def stBusy : Byte := 0x05
def stRefusedSpeed : Byte := 0x06
def stRefusedSleep : Byte := 0x07
def stAborted : Byte := 0x08
def stCausePresent : Byte := 0x09
def stNotInState : Byte := 0x0A
def stLaneExcluded : Byte := 0x0B
def stTimeout : Byte := 0x0C

/-- A row of the opcode index: code, privilege, local, may be timed, refused in minimal mode (11 R351), returns a
reply, and the part size of a per-lane reply (11 R349). -/
structure OpInfo where
  code : Half
  priv : Priv
  isLocal : Bool
  timed : Bool
  notMinimal : Bool
  reply : Bool
  part : Nat
  deriving DecidableEq, Repr

/-- 11 Table 11-4. -/
def opTable1 : List OpInfo := [
  ⟨0x0101, .observer, true, false, false, true, 0⟩,
  ⟨0x0102, .observer, false, false, false, true, 0⟩,
  ⟨0x0103, .observer, false, false, false, true, 28⟩,
  ⟨0x0104, .owner, false, false, true, false, 0⟩,
  ⟨0x0105, .none, false, false, false, false, 0⟩,
  ⟨0x0106, .owner, false, false, false, false, 0⟩,
  ⟨0x0110, .operator, false, true, true, false, 0⟩,
  ⟨0x0111, .operator, false, true, false, false, 0⟩,
  ⟨0x0201, .owner, false, false, false, false, 0⟩,
  ⟨0x0202, .owner, false, false, false, false, 0⟩,
  ⟨0x0203, .owner, false, false, false, false, 0⟩,
  ⟨0x0204, .observer, false, false, false, true, 16⟩,
  ⟨0x0210, .operator, false, true, true, false, 0⟩,
  ⟨0x0212, .owner, false, false, true, false, 0⟩,
  ⟨0x0213, .owner, false, false, true, false, 0⟩,
  ⟨0x0220, .owner, false, false, true, false, 0⟩,
  ⟨0x0221, .owner, false, false, true, false, 0⟩,
  ⟨0x0222, .owner, false, false, true, false, 0⟩,
  ⟨0x0223, .owner, false, false, false, false, 0⟩,
  ⟨0x0230, .observer, true, false, false, true, 0⟩,
  ⟨0x0240, .owner, false, false, true, false, 0⟩,
  ⟨0x0241, .owner, true, false, true, false, 0⟩,
  ⟨0x0242, .owner, true, false, true, false, 0⟩,
  ⟨0x0243, .owner, true, false, true, false, 0⟩,
  ⟨0x0250, .operator, false, false, false, false, 0⟩,
  ⟨0x0251, .operator, false, true, true, false, 0⟩,
  ⟨0x0252, .operator, false, true, true, false, 0⟩,
  ⟨0x0253, .operator, false, false, false, false, 0⟩,
  ⟨0x0254, .observer, false, false, false, true, 0⟩,
  ⟨0x0301, .owner, false, false, true, false, 0⟩,
  ⟨0x0302, .operator, false, true, true, false, 0⟩]

/-- The rest of 11 Table 11-4, and Table 11-5. -/
def opTable2 : List OpInfo := [
  ⟨0x0310, .owner, false, false, true, false, 0⟩,
  ⟨0x0311, .owner, false, true, true, false, 0⟩,
  ⟨0x0312, .owner, false, false, true, false, 0⟩,
  ⟨0x0401, .owner, false, false, true, false, 0⟩,
  ⟨0x0410, .observer, false, false, false, true, 20⟩,
  ⟨0x0501, .observer, false, false, false, true, 12⟩,
  ⟨0x0601, .owner, false, false, false, false, 0⟩,
  ⟨0x0602, .owner, false, false, false, false, 0⟩,
  ⟨0x0603, .owner, false, false, false, false, 0⟩,
  ⟨0x0610, .observer, false, false, false, true, 32⟩,
  ⟨0x0611, .observer, true, false, false, true, 0⟩,
  ⟨0x0620, .owner, false, false, true, false, 0⟩,
  ⟨0x0701, .owner, false, false, false, false, 0⟩,
  ⟨0x0702, .owner, false, false, false, false, 0⟩,
  ⟨0x0703, .owner, false, false, false, false, 0⟩,
  ⟨0x0704, .owner, false, false, false, false, 0⟩,
  ⟨0x0705, .observer, true, false, false, true, 0⟩,
  ⟨0x0706, .owner, false, false, false, false, 0⟩,
  ⟨0x0710, .observer, true, false, false, false, 0⟩,
  ⟨0x0801, .observer, true, false, false, true, 0⟩,
  ⟨0x0901, .observer, true, false, false, true, 0⟩,
  ⟨0x0902, .owner, false, false, false, false, 0⟩,
  ⟨0x0903, .observer, true, false, false, true, 0⟩,
  ⟨0x0A01, .owner, false, false, false, false, 0⟩,
  ⟨0x0A02, .owner, false, false, false, false, 0⟩,
  ⟨0x0A03, .owner, false, false, false, false, 0⟩,
  ⟨0x0A10, .observer, false, false, false, true, 16⟩,
  ⟨0x0B01, .owner, false, false, false, false, 0⟩,
  ⟨0x0B02, .owner, false, false, false, false, 0⟩,
  ⟨0x0B03, .owner, false, false, true, false, 0⟩,
  ⟨0x0B10, .observer, true, false, false, true, 0⟩]


/-- Every opcode of the device. -/
def opTable : List OpInfo := opTable1 ++ opTable2

def opInfo (code : Half) : Option OpInfo := opTable.find? fun o => o.code == code

/-- The engine of a command: the high byte of its opcode, less 1 (09 R312). -/
def opEngine (code : Half) : Nat := code.toNat / 256 - 1

/-- The barrier opcodes (09 R312). -/
def isBarrier (code : Half) : Bool :=
  code == 0x0701 || code == 0x0703 || code == 0x0704 || code == 0x0706 || opEngine code == 0 || opEngine code == 10

/-- HOST_SLEEP behaves as if FENCE were set (10 R339). -/
def isFenced (p : Packet) : Bool := isBarrier p.opcode || p.fence || p.opcode == 0x0710

/-- A replicated command reaches a lane that is not healthy only where the manual says so: a clear of fault records
(11 R363), and a wake (13 R423). -/
def reachesUnhealthy (code : Half) : Bool := code == 0x0902 || code == 0x0A02

/-! ## Results -/

def statusRes (st : Byte) (w : Word) : LaneRes := { status := st, result := w, reply := [] }
def okRes : LaneRes := statusRes stOk 0
def failRes (st : Byte) : LaneRes := statusRes st 0
def resultRes (w : Word) : LaneRes := statusRes stOk w
def replyRes (b : List Byte) : LaneRes := { status := stOk, result := 0, reply := b }

/-- The first check that fails decides the status (11 R348). -/
def firstFail : List (Bool × Byte) → Option Byte
  | [] => none
  | (ok, st) :: r => if ok then firstFail r else some st

/-- Run the checks of a command; with none failing, its effect. -/
def checked (cs : List (Bool × Byte)) (L : LaneSt) (eff : LaneSt × Option LaneRes) : LaneSt × Option LaneRes :=
  match firstFail cs with
  | some st => (L, some (failRes st))
  | none => eff

/-- Opcodes whose RESULT field is the failing lane's own, not the union of the lanes' masks (11 R350, 09 R319). -/
def resultOfFailing (code : Half) : Bool := code == 0x0703 || code == 0x0222 || code == 0x0A01 || code == 0x0A02

/-- The reply from the lanes' parts (11 R349): per-lane parts in lane order, zeros for a lane that gave none; the
replies of the other opcodes come from one lane. -/
def assembleReply (code : Half) (rs : Tri (Option LaneRes)) : List Byte :=
  let part := match opInfo code with
    | some o => o.part
    | none => 0
  (rs.toList.map fun r =>
    match r with
    | some x => if part = 0 then x.reply else fitBytes part x.reply
    | none => zeros part).flatten

/-- The result of a command from the lanes' results (01 R41): OK when every participating lane succeeded, the status
of the lowest-numbered failing lane otherwise, TIMEOUT when a lane did not report and none failed. LATE shows a lane
that ran the command at once (09 R315). -/
def joinResults (code : Half) (part : Tri Bool) (rs : Tri (Option LaneRes)) : LaneRes :=
  let got := (LaneId.all.filter part.get).filterMap fun l => rs.get l
  let union := got.foldl (fun w r => w ||| r.result) 0
  let late := got.any (·.late)
  match got.find? fun r => r.status != stOk with
  | some r =>
    { status := r.status, result := if resultOfFailing code then r.result else union, reply := assembleReply code rs, late := late }
  | none =>
    let all := (LaneId.all.filter part.get).all fun l => (rs.get l).isSome
    { status := if all then stOk else stTimeout, result := union, reply := assembleReply code rs, late := late }

/-- The lanes that succeeded (09 Table 9-7). -/
def okMask (t : Task) : Tri Bool :=
  Tri.tab fun l => t.part.get l && (match t.results.get l with
    | some r => r.status == stOk
    | none => false)

/-! ## Flows -/

/-- The flow of a sender (09 R311): the ports, then the used remote entries whose privilege is not NONE, in order. -/
def flowOf (c : Conf) : Sender → Option Nat
  | .spi l => some l.num
  | .remote n =>
    let live := fun i => c.remoteUsed i && c.nat (Item.remotePriv + i) != 3
    if live n.val then some (3 + ((List.range n.val).filter live).length) else none

/-- The mark of a task outside any flow: a claim from an entry whose privilege is NONE (09 R311). -/
def noFlow : Nat := 16

/-- Is a flow one of those that share the remote pool (09 R311)? -/
def remoteFlow (flow : Nat) : Bool := 3 ≤ flow && flow < noFlow

/-- Does a task hold one of the 64 that the lane has, in the remote pool? -/
def Task.pooled (t : Task) : Bool := t.counted && remoteFlow t.flow

/-- A replicated remote packet that waits for the remote pool. -/
def Task.waitsPool (t : Task) : Bool := !t.counted && !t.done && remoteFlow t.flow

/-- The remote pool of a lane has room (09 R311). -/
def poolFree (ts : List Task) : Bool := (ts.filter Task.pooled).length < 16

/-- The first task that waits for the remote pool takes the room that a task has left. -/
def fillPool (ts : List Task) : List Task :=
  match poolFree ts, ts.find? Task.waitsPool with
  | true, some w => ts.map fun t => if t.tid = w.tid then { t with counted := true } else t
  | _, _ => ts

/-- Some lane is DEBUG_ACTIVE, as this lane knows (09 Table 9-2, 9-7). -/
def LaneSt.debugAny (L : LaneSt) : Bool :=
  L.eng.debug || L.eng.debugReq == some true || L.eng.debugNamed.isSome || L.eng.recs.toList.any fun r => match r with
    | some h => h.r.debug
    | none => false

/-- Is a link up, as this lane knows? -/
def LaneEng.up (e : LaneEng) : Link → Bool
  | .k01 => e.up01 | .k12 => e.up12 | .k20 => e.up20

/-- Change the task of a number. -/
def updTask (tid : Nat) (f : Task → Task) (L : LaneSt) : LaneSt :=
  { L with host := { L.host with tasks := L.host.tasks.map fun t => if t.tid = tid then f t else t } }

def LaneSt.task (L : LaneSt) (tid : Nat) : Option Task := L.host.tasks.find? fun t => t.tid == tid

/-- A task is given back; a packet that waited for the remote pool takes its place. -/
def dropTask (tid : Nat) (L : LaneSt) : LaneSt :=
  { L with host := { L.host with tasks := fillPool (L.host.tasks.filter fun t => t.tid != tid) } }

/-- The privilege of a command: that of its admission (01 R58), or the sender's own for one outside any task. -/
def LaneSt.privOf (L : LaneSt) (tid : Nat) (h : Sender) : Priv :=
  match L.task tid with
  | some t => t.priv
  | none => L.priv h

/-- The payload of a completion (09 Table 9-7). -/
def completionPayload (L : LaneSt) (t : Task) (r : LaneRes) (reply : Option (Nat × Nat)) : BitVec 64 :=
  let b3 := t.part.mask + 8 * (okMask t).mask + 64 * b2n L.debugAny + 128 * b2n (t.late || r.late)
  let tail := match reply with
    | some (slot, len) => [BitVec.ofNat 8 slot, 0] ++ le16 (BitVec.ofNat 16 len)
    | none => le32 r.result
  payBytes (le16 t.pkt.tag ++ [r.status, BitVec.ofNat 8 b3] ++ tail)

/-- Give back the reserved completion record (09 R313). -/
def unreserve (L : LaneSt) : LaneSt := { L with host := { L.host with resv := L.host.resv - 1 } }

/-- An admitted packet of an opcode that returns a reply. -/
def Task.replies (t : Task) : Bool :=
  t.part.mask != 0 && (match opInfo t.pkt.opcode with
    | some o => o.reply
    | none => false)

/-- NO_COMPLETION is ignored for an opcode with a reply; a HOST_SLEEP that took effect writes no completion (10 R339). -/
def noRecord (t : Task) (r : LaneRes) : Bool :=
  r.status == stOk && ((t.pkt.noCompletion && !t.replies) || t.pkt.opcode == 0x0710)

/-- Release a completion (09 R313, R314): the reply to its slot first, then the record, in place of its reservation;
for a remote host, the record and the reply as a transport message. -/
def releaseOne (me : LaneId) (t : Task) (r : LaneRes) (L : LaneSt) : LaneSt :=
  let L := dropTask t.tid L
  match t.pkt.sender with
  | .remote n =>
    if noRecord t r then L
    else
      let rec_ := recordBytes me (BitVec.ofNat 8 t.flow) 1 0 L.unsync false false L.now
        (completionPayload L t r (if t.replies then some (0, r.reply.length) else none))
      { L with host := { L.host with remoteOut := L.host.remoteOut ++ [(n.val, rec_ ++ r.reply)] } }
  | .spi _ =>
    let L := unreserve L
    if noRecord t r then replay me L
    else
      let idx := L.host.eqTail
      let L := match t.slot with
        | some s => ownWrite (0x1200 + 128 * s) ((r.reply.take 1024).length / 8) (fun L =>
            { L with host := { L.host with win := Store.writes 0 L.host.win (0x9000 + 1024 * s) (r.reply.take 1024),
                                           slotsUsed := L.host.slotsUsed ++ [(s, idx)] } }) L
        | none => L
      putRecord me (BitVec.ofNat 8 t.flow) 1 0 L.unsync false L.now
        (completionPayload L t r (t.slot.map fun s => (s, r.reply.length))) L

/-- Release the finished tasks at the head of a flow, in submission order (09 R312). -/
def releaseFlow (me : LaneId) (flow : Nat) : Nat → LaneSt → LaneSt
  | 0, L => L
  | n + 1, L =>
    match L.host.tasks.find? fun t => t.origin == me && t.flow == flow && !t.pkt.timed with
    | some t =>
      if t.done then releaseFlow me flow n (releaseOne me t (t.fin.getD okRes) L) else L
    | none => L

/-- A finished task is released: a timed one, or one outside any flow, at once, any other in its flow's order. -/
def releaseTask (me : LaneId) (tid : Nat) (L : LaneSt) : LaneSt :=
  match L.task tid with
  | some t =>
    if t.done then
      if t.pkt.timed || t.flow == noFlow then releaseOne me t (t.fin.getD okRes) L
      else releaseFlow me t.flow (L.host.tasks.length) L
    else L
  | none => L

/-- Minimal mode (11 R351). -/
def LaneSt.minimal (L : LaneSt) : Bool := L.start.phase == .minimal

/-- The lanes that a lane replicates with: the healthy ones, and for a minimal lane outside them the minimal lanes, itself among
them (13 R406). -/
def LaneSt.partners (me : LaneId) (L : LaneSt) : Tri Bool :=
  if L.minimal && !L.eng.healthy.get me then Tri.tab fun l => l == me || (L.eng.announced.get l).any (·.minimal)
  else L.eng.healthy

/-- Is a lane waited for no longer (01 R41): it has reported, or it has left the healthy set. A clear of fault records and a wake reach
lanes that are not healthy; a lane that tests itself has left it on purpose, and reports after its test, unless it is lost. -/
def LaneSt.settled (me : LaneId) (L : LaneSt) (t : Task) (l : LaneId) : Bool :=
  (t.results.get l).isSome
  || (!(L.partners me).get l && !reachesUnhealthy t.pkt.opcode
      && (t.pkt.opcode != 0x0B03 || L.safe.faults.any fun f => f.kind == .lane && f.lane == l))

/-- Has every lane that is waited for reported? -/
def LaneSt.allIn (me : LaneId) (L : LaneSt) (t : Task) : Bool := (LaneId.all.filter t.part.get).all (L.settled me t)

/-- A SENSE_ALIGN_SET on which no lane has aligned is refused with NOT_IN_STATE: no healthy lane's own sensor was valid (06 R234). Each lane
knows its own sensor, and so the refusal is found where the results meet (DEDUCED, log entry 79). -/
def agreed (code : Half) (part : Tri Bool) (rs : Tri (Option LaneRes)) : Tri (Option LaneRes) :=
  if code == 0x0401 && (LaneId.all.filter part.get).all fun l => match rs.get l with
      | some r => r.status == stOk && r.result == 0
      | none => false then rs.map fun r => r.map fun _ => failRes stNotInState
  else rs

/-- Close a task with what has been reported, and release it (01 R41). -/
def closeTask (me : LaneId) (tid : Nat) (L : LaneSt) : LaneSt :=
  releaseTask me tid
    (updTask tid (fun t =>
      let rs := agreed t.pkt.opcode t.part t.results
      { t with results := rs, fin := some (joinResults t.pkt.opcode t.part rs), done := true, waiting := false }) L)

/-- A lane's result for a task of this lane: the completion is written once every lane has reported. The result of another lane leaves this
lane's own part as it is: it may still wait or be about to start (09 R312, R315). -/
def noteResult (me : LaneId) (tid : Nat) (from_ : LaneId) (r : LaneRes) (L : LaneSt) : LaneSt :=
  let own := from_ == me
  let L := updTask tid (fun t => { t with results := t.results.set from_ (some r), started := t.started || own, waiting := t.waiting && !own }) L
  match L.task tid with
  | some t => if L.allIn me t && !t.done then closeTask me tid L else L
  | none => L

/-- A lane has left the healthy set: the completions that waited for it alone are written (01 R41). -/
def closeSettled (me : LaneId) (L : LaneSt) : LaneSt :=
  (L.host.tasks.filter fun t => t.origin == me && !t.isLocal && !t.done && t.rn.isSome && L.allIn me t).foldl (fun L t => closeTask me t.tid L) L

/-- This lane's own result of a task: kept where the packet was received here, reported over the herdline and the
task given up otherwise (01 R41). A result outside any task is only noted. -/
def finishTask (me : LaneId) (tid : Nat) (r : LaneRes) (L : LaneSt) : LaneSt :=
  let L := { L with host := { L.host with lastRes := some r } }
  match L.task tid with
  | some t =>
    let r := { r with late := t.late }
    if t.origin = me then noteResult me tid me r L
    else dropTask tid (send (.result t.origin (t.rn.getD 0) r) L)
  | none => L

/-- Finish a task that some operation holds, if any. -/
def finishOpt (me : LaneId) (tid : Option Nat) (r : LaneRes) (L : LaneSt) : LaneSt :=
  match tid with
  | some t => finishTask me t r L
  | none => L

/-- A queued command of the MOTION engine: numbered and not started (05 R195). DESIGN CHOICE (log entry 24): a packet without a number is not
queued yet. -/
def Task.queuedMotion (t : Task) : Bool := !t.started && !t.done && t.rn.isSome && opEngine t.pkt.opcode == 2

/-- Abort the waiting tasks that a condition names, and the queued ones of the MOTION engine, with ABORTED_DISABLED at the moment of the abort
(05 R195, 09 R316); `own` is the command that asks for it. -/
def abortWaiting (me : LaneId) (own : Option Nat) (p : Packet → Bool) (L : LaneSt) : LaneSt :=
  (L.host.tasks.filter fun t => p t.pkt && (t.waiting || t.queuedMotion) && own != some t.tid).foldl
    (fun L t => finishTask me t.tid (failRes stAborted) L) L

/-- A timed command that waits takes part in no order (09 R315). -/
def Task.delayed (t : Task) : Bool := t.pkt.timed && t.waiting

/-- Is a command before another of its flow? Replicated ones stand in the order of their numbers, which is also theirs where two
lanes received them; `listed` says that the first stands earlier in the lane's list, the order of admission. -/
def Task.precedes (e t : Task) (listed : Bool) : Bool :=
  e.flow == t.flow && t.flow != noFlow && (match e.rn, t.rn with
    | some a, some b => a < b
    | _, _ => listed)

/-- May a task start (09 R311, R312)? `earlier` are the tasks before it in the list. -/
def startable (earlier : List Task) (t : Task) (all : List Task) : Bool :=
  let mine := all.filter fun e => e.tid != t.tid && e.precedes t (earlier.any fun x => x.tid == e.tid) && !e.delayed && !e.done
  !t.waitsPool
  && (mine.all fun e => opEngine e.pkt.opcode != opEngine t.pkt.opcode)
  && (mine.all fun e => !isFenced e.pkt)
  && (!isFenced t.pkt || mine.isEmpty)
  && (t.isLocal || (match t.rn with
      | some n => all.all fun e => e.tid == t.tid || e.started || e.delayed || opEngine e.pkt.opcode != opEngine t.pkt.opcode
          || (match e.rn with
              | some k => n ≤ k
              | none => true)
      | none => false))

/-- A timed command that has left the delay list, or never stood on it, starts once it has its number and its task (09 R311, R315). -/
def Task.timedReady (t : Task) : Bool := t.pkt.timed && t.rn.isSome && !t.waitsPool

/-- The tasks before a number. -/
def before (tid : Nat) : List Task → List Task
  | [] => []
  | t :: r => if t.tid = tid then [] else t :: before tid r

/-- Can the lane execute the command now: its firmware runs, the command is local or the lane takes part in
replicated commands, and the task, where there is one, is this command and may start. -/
def canRun (code : Half) (c : Ctx) (blk : List Byte) (L : LaneSt) : Bool :=
  let loc := match opInfo code with
    | some o => o.isLocal
    | none => false
  L.running
  && (loc || reachesUnhealthy code || ((L.partners c.lane).get c.lane && !L.eng.excluded && !L.eng.debug))
  && (match L.task c.tid with
      | some t => t.pkt.opcode == code && t.pkt.sender == c.sender && t.pkt.block == blk && !t.started && !t.waiting && !t.done
          && (t.timedReady || startable (before c.tid L.host.tasks) t L.host.tasks)
      | none => true)

/-- Not in minimal mode, where the opcode asks for it: a check of the device's state (11 R348, R351). -/
def minimalOk (code : Half) (L : LaneSt) : Bool :=
  !(L.minimal && (match opInfo code with
    | some o => o.notMinimal
    | none => false))

/-- Take up what an opcode's meaning gives: a result now, or a task that goes on. -/
def settle (me : LaneId) (tid : Nat) (r : LaneSt × Option LaneRes) : LaneSt :=
  match r with
  | (L, some x) => finishTask me tid x L
  | (L, none) => updTask tid (fun t => { t with started := true, waiting := false }) L

/-- Run an opcode's meaning in the frame of R344–R351. -/
def runOp (code : Half) (c : Ctx) (blk : List Byte) (op : LaneSt → LaneSt × Option LaneRes) (s : State) : Out :=
  onLaneIf c.lane (canRun code c blk) (fun L => settle c.lane c.tid (op L)) s

/-! ## Admission and replication -/

/-- A task for a packet. -/
def newTask (L : LaneSt) (origin : LaneId) (p : Packet) (priv : Priv) (isLocal : Bool) (part : Tri Bool) (slot : Option Nat)
    (rn : Option Nat) : Task :=
  let atOnce := p.timed && !timeAfter p.execAt L.now
  { tid := L.host.nextTid, flow := (flowOf L.host.run p.sender).getD noFlow, rn := rn, origin := origin, pkt := p, priv := priv, isLocal := isLocal,
    waiting := p.timed && !atOnce, late := atOnce, part := part, results := ⟨none, none, none⟩, slot := slot, fin := none,
    done := false }

def pushTask (t : Task) (L : LaneSt) : LaneSt :=
  { L with host := { L.host with tasks := L.host.tasks ++ [t], nextTid := L.host.nextTid + 1 } }

/-- Both links of a lane are down, as this lane knows: it is isolated. -/
def LaneSt.cutOff (L : LaneSt) (l : LaneId) : Bool :=
  [Link.k01, .k12, .k20].all fun k => (k.peer l).isNone || !L.eng.up k

/-- The lanes that take part in a replicated packet: the healthy ones, and the lanes that a clear of fault records or
a wake names although they are not healthy, unless they are isolated (01 R40, 11 R363, 13 R423). -/
def partOf (me : LaneId) (L : LaneSt) (p : Packet) : Tri Bool :=
  if L.eng.isolated then Tri.tab (· == me)
  else Tri.tab fun l => (L.partners me).get l || l == me
    || (reachesUnhealthy p.opcode && (byteAt p.block 0).getLsbD l.num && !L.cutOff l)

/-- The lane that numbers replicated packets (01 R40), as this lane knows: the lead, the standby that is about to take the lead from one
that is lost, or the lowest of the lanes that replicate where no lead is in reach, so that a packet still executes. -/
def LaneSt.numberer (me : LaneId) (L : LaneSt) : LaneId :=
  let reach := fun (l : LaneId) => l == me || L.eng.healthy.get l
  if L.eng.isolated then me
  else if L.eng.lead.any reach then L.eng.lead.getD me
  else if L.eng.standby.any reach then L.eng.standby.getD me
  else (LaneId.all.find? (L.partners me).get).getD me

def LaneSt.numbers (me : LaneId) (L : LaneSt) : Bool := L.numberer me == me

/-- Give the next replication number to a task of this lane, and announce it. An isolated lane executes its packet on itself alone (11 R363). -/
def numberOwn (me : LaneId) (t : Task) (L : LaneSt) : LaneSt :=
  let n := L.eng.nextRn
  let L := updTask t.tid (fun t => { t with rn := some n }) { L with eng := { L.eng with nextRn := n + 1 } }
  if L.eng.isolated then L else send (.packet ⟨me, t.tid, some n, t.priv, L.minimal, t.pkt⟩) L

/-- Send a packet for its number: the lane that numbers gives it at once; any other lane sends it for the lead to number. -/
def askNumber (me : LaneId) (t : Task) (L : LaneSt) : LaneSt :=
  if L.numbers me then numberOwn me t L else send (.packet ⟨me, t.tid, none, t.priv, L.minimal, t.pkt⟩) L

/-- Replicate an admitted packet (01 R40). -/
def replicate (me : LaneId) (t : Task) (L : LaneSt) : LaneSt := askNumber me t (pushTask t L)

/-- The lead has changed, and may have gone before it numbered what this lane sent it: the lane sends its packets without a number
again (01 R40). -/
def renumber (me : LaneId) (L : LaneSt) : LaneSt :=
  (L.host.tasks.filter fun t => t.origin == me && !t.isLocal && !t.done && t.rn.isNone).foldl (fun L t => askNumber me t L) L

/-- Admit a packet (09 R309): its task, its reply slot, and its replication unless it is local. -/
def admitPacket (me : LaneId) (p : Packet) (slot : Option Nat) (L : LaneSt) : LaneSt :=
  let loc := match opInfo p.opcode with
    | some o => o.isLocal
    | none => false
  if loc then pushTask (newTask L me p (L.priv p.sender) true (Tri.tab (· == me)) slot none) L
  else replicate me (newTask L me p (L.priv p.sender) false (partOf me L p) slot none) L

/-- Free tasks for a flow (09 R311). -/
def taskFree (L : LaneSt) (flow : Nat) : Bool :=
  if flow < 3 then (L.host.tasks.filter fun t => t.counted && t.flow == flow).length < 16
  else flow = noFlow || poolFree L.host.tasks

/-- The lowest free reply slot. -/
def freeSlot (me : LaneId) (L : LaneSt) : Option Nat :=
  (List.range (L.replySlots me)).find? fun s =>
    !(L.host.slotsUsed.any fun u => u.1 == s) && !(L.host.tasks.any fun t => t.slot == some s)

/-- A refused packet keeps its place in its flow's release order, with both lane masks 0 (09 R309, R312). -/
def refusedTask (me : LaneId) (p : Packet) (st : Byte) (L : LaneSt) : LaneSt :=
  let t := newTask L me { p with timed := false } (L.priv p.sender) true ⟨false, false, false⟩ none none
  let L := pushTask { t with fin := some (failRes st), done := true, late := false, counted := false } L
  releaseTask me t.tid { L with host := { L.host with refused := satInc L.host.refused } }

end Sys2Proof.Machine
end

