-- ==== Sys2Proof/Machine/SafeState.lean ====
section
/-! DEFINITION. Standing faults into a safe state (02 R59–R82): taking a lane out of service, Mule mode, SS1 and the
end states, and the aborts that a stop brings (05 R195, 11 R368).
Log entries: 15, 17, 20, 44, 66 (DEDUCED); 70 (DESIGN CHOICE). -/

namespace Sys2Proof.Machine

/-- The other healthy lanes as a lane sees them. -/
def LaneSt.healthyOthers (me : LaneId) (L : LaneSt) : List LaneId := me.others.filter L.eng.healthy.get

/-- The accept mask of the kill-order decoder (02 R65), set while the lane is itself healthy: both other lanes with
three lanes healthy; with two, the lead, or the other lane where this lane is the lead. -/
def setAcceptMask (me : LaneId) (L : LaneSt) : LaneSt :=
  if !L.eng.healthy.get me then L
  else
    let os := L.healthyOthers me
    let m : Tri Bool := match os with
      | [o] => if L.eng.lead == some me then Tri.tab (· == o) else Tri.tab fun l => l != me && L.eng.lead == some l
      | _ => Tri.tab fun l => os.contains l
    { L with eng := { L.eng with acceptMask := m } }

/-- A lane leaves the healthy set as this lane sees it: completions wait for it no longer (01 R41), and a lane that numbers packets from now
on numbers its own (01 R40). -/
def dropHealthy (me j : LaneId) (L : LaneSt) : LaneSt :=
  let e := { L.eng with
    healthy := L.eng.healthy.set j false, left := L.eng.left.set j false,
    standby := if L.eng.standby = some j then none else L.eng.standby,
    debugNamed := if L.eng.debugNamed = some j then none else L.eng.debugNamed,
    rejoin := if j = me then none else L.eng.rejoin }
  let K := closeSettled me (setAcceptMask me (closeGander me j { L with eng := e }))
  if K.numbers me && !L.numbers me then renumber me K else K

/-- The counts of a lane start again. -/
def LaneEng.zeroCounts (e : LaneEng) (j : LaneId) : LaneEng :=
  { e with tqCnt := e.tqCnt.set j 0, posCnt := e.posCnt.set j 0, spdCnt := e.spdCnt.set j 0, devCnt := e.devCnt.set j 0,
           miss := e.miss.set j 0 }

/-- A lane joins the healthy set, and its L fault ends (02 R59). -/
def joinHealthy (me j : LaneId) (L : LaneSt) : LaneSt :=
  let L := endFaults (fun f => f.kind == .lane && f.lane == j) L
  setAcceptMask me { L with eng := { L.eng.zeroCounts j with
    disregard := L.eng.disregard.set j (L.eng.disregard.get j && L.hasFault .sensor j),
    healthy := L.eng.healthy.set j true, silent := L.eng.silent.set j false, down := L.eng.down.set j false,
    numbered := L.eng.numbered.set j 0, exclAt := L.eng.exclAt.set j none, sleeping := L.eng.sleeping.set j false, left := L.eng.left.set j true } }

/-- A lane is declared lost by this lane: an L fault, out of the healthy set, event 0x13 (02 Table 2-1, 10 Table 10-1). -/
def declareLost (me j : LaneId) (L : LaneSt) : LaneSt :=
  if !L.eng.healthy.get j then addFault { kind := .lane, lane := j } L
  else
    let L' := postExcluded me j .lane (dropHealthy me j (addFault { kind := .lane, lane := j } L))
    if L.eng.standby == some j then postRole me 1 L' else L'

/-- Exclude a lane: EXCLUDE is sent, and the 2.9 ms to the kill check run from now (02 R64, R65). -/
def exclude (me j : LaneId) (L : LaneSt) : LaneSt :=
  if !L.eng.healthy.get j then L
  else
    let L := send (.exclude j) (declareLost me j L)
    { L with eng := { L.eng with exclAt := L.eng.exclAt.set j (some L.time.clk10) } }

/-- The lane itself is excluded (02 R64): current command zero, role dropped, ENERGISED clear, all gates off. -/
def beExcluded (me : LaneId) (L : LaneSt) : LaneSt :=
  let L := releaseBge me (gatesOff { L with eng := { L.eng with excluded := true, role := .none, rejoin := none } })
  let L := { L with eng := { L.eng with healthy := L.eng.healthy.set me false } }
  closeSettled me (postExcluded me me .lane (addFault { kind := .lane, lane := me } L))

/-! ## The tests of R67 -/

def allLinks : List Link := [.k01, .k12, .k20]

/-- The links of a lane, and the link between the two others. -/
def ownLinks (me : LaneId) : List Link := allLinks.filter fun k => (k.peer me).isSome
def farLink (me : LaneId) : Link := match me with
  | .l0 => .k12 | .l1 => .k20 | .l2 => .k01

/-- Does a lane report STO_ACTIVE, as this lane knows (02 R80)? -/
def LaneSt.stoOf (me : LaneId) (L : LaneSt) (l : LaneId) : Bool :=
  if l = me then !L.gate.stoHigh else L.safe.stoLow.get l

/-- An energisable winding (02 R67). -/
def LaneSt.energisable (me : LaneId) (L : LaneSt) (l : LaneId) : Bool :=
  L.eng.healthy.get l && L.host.run.hasWinding l && !L.hasFault .winding l && !L.stoOf me l

/-- A healthy lane with its own sin/cos valid: a lane without sin/cos has none (06 R202), one that is not yet aligned counts
(06, Aligning the period count), one whose loss was cleared does not until it has returned to its own sensor (R71). Of
another lane, this lane knows what its records have shown. -/
def LaneSt.ownSensor (me : LaneId) (L : LaneSt) (l : LaneId) : Bool :=
  L.eng.healthy.get l && (L.host.run.item Item.scLanes).getLsbD l.num
    && (if l = me then !L.sen.scLost && !L.sen.clearedS else !L.eng.ownLost.get l)

/-- M2 (02 R67): one energisable winding. Once Mule mode has been entered on it, it holds until a second winding carries a share again
(R71). -/
def LaneSt.oneWinding (me : LaneId) (L : LaneSt) : Bool :=
  let carry := (LaneId.all.filter fun l => L.eng.healthy.get l && L.mot.w.get l != 0).length
  !L.host.run.t2 && ((LaneId.all.filter (L.energisable me)).length == 1
    || (L.safe.state == .mule && L.safe.m2 && carry < 2))

/-- The conditions M1–M6 (02 R67), as a mask with bit n − 1 for Mn. -/
def muleConds (me : LaneId) (L : LaneSt) : Nat :=
  let t2 := L.host.run.t2
  let n := (LaneId.all.filter L.eng.healthy.get).length
  let s := (LaneId.all.filter (L.ownSensor me)).length
  let c := (L.safe.counted.filter fun f => f.1 == .lane || f.1 == .winding || f.1 == .sensor).length
  b2n (n == 1) + 2 * b2n (L.oneWinding me) + 4 * b2n (!t2 && s < 2) + 8 * b2n L.safe.unresolved
    + 16 * b2n (t2 && 2 ≤ c) + 32 * b2n L.safe.netStale

/-- The cause code of the first condition that holds (02 Table 2-6, R73). -/
def firstCond (m : Nat) : Byte :=
  if m.testBit 0 then 1 else if m.testBit 1 then 2 else if m.testBit 2 then 3 else if m.testBit 3 then 4
  else if m.testBit 4 then 5 else 6

/-- The Stop test (02 R67): no healthy lane has an energisable winding, or every remaining lane is isolated. A lane that is isolated knows
the latter when one other lane remained, or when the link between the two others was down before. -/
def stopTest (me : LaneId) (L : LaneSt) : Bool :=
  (LaneId.all.all fun l => !L.energisable me l)
    || (L.eng.isolated && ((me.others.filter L.eng.healthy.get).length ≤ 1 || !L.eng.up (farLink me)))

/-- Every lane with a winding has STO_ACTIVE (02 R81). DESIGN CHOICE (log entry 70): a lane that is lost is not counted. -/
def allSto (me : LaneId) (L : LaneSt) : Bool :=
  let ws := LaneId.all.filter fun l => L.eng.healthy.get l && L.host.run.hasWinding l
  !ws.isEmpty && ws.all (L.stoOf me)

/-! ## Aborts -/

/-- Commands of the MOTION engine and timed setpoints (05 R195). -/
def motionWaiting (p : Packet) : Bool := opEngine p.opcode == 2 || p.opcode == 0x0210

/-- As above with a timed LANE_SS1 (11 R367, R368). -/
def stopWaiting (p : Packet) : Bool := motionWaiting p || p.opcode == 0x0110

/-- A MOTION_ENABLE under way is abandoned, and its command completes with ABORTED_DISABLED. -/
def abortEnable (me : LaneId) (L : LaneSt) : LaneSt :=
  let ts := L.mot.enableTids
  ts.foldl (fun L t => finishTask me t (failRes stAborted) L)
    { L with mot := { L.mot with enable := .idle, enableTids := [] } }

/-- A learning pass is aborted, and its sums and any proposal are discarded (03 R129); event 0x51 with outcome 3 (R128). -/
def abortLearn (me : LaneId) (L : LaneSt) : LaneSt :=
  match L.learn.pass with
  | some p => arrive me 0x51 clsInfo (payBytes ([BitVec.ofNat 8 p.node, 3] ++ zeros 6)) { L with learn := {} }
  | none => { L with learn := {} }

/-! ## End states and SS1 -/

/-- The bridge in an end state (02 R78): all gates off, all low sides on, or the Colt record's action. An excluded lane's gates stay off
(02 R64). -/
def bridgeTo (me : LaneId) (e : EndState) (L : LaneSt) : LaneSt :=
  let driven := L.mot.energised
  let L := gatesOff L
  if L.eng.excluded then L
  else match e with
  | .activeShort => { L with gate := { L.gate with demand := .lowSides }, mot := { L.mot with drive := .disable } }
  | .colt => coltEndState me driven { L with mot := { L.mot with drive := .disable } }
  | _ => L

/-- Disable motion: the effects common to MOTION_DISABLE, LANE_STO and the end states. -/
def disableMotion (me : LaneId) (L : LaneSt) : LaneSt :=
  let L := abortLearn me (freezeTrace (abortEnable me L))
  { L with mot := { L.mot with enabled := false, offsetsDue := false, flyDue := false, vel := none, velReq := [], disableReq := none } }

/-- Enter STOPPED with a cause and an end state (02 R77, R78). -/
def stopNow (me : LaneId) (cause : Byte) (e : EndState) (L : LaneSt) : LaneSt :=
  let L := bridgeTo me e (disableMotion me (abortWaiting me none motionWaiting L))
  setSafe me .stopped { L with safe := { L.safe with ss1 := none, ss1Req := false, stopCause := cause, endState := e } }

/-- The configured end state (02 R78). -/
def cfgEnd (L : LaneSt) : EndState :=
  match L.host.run.nat Item.ss1End with
  | 0 => .sto | 1 => .activeShort | _ => .colt

/-- The first node of a type and, for SRC and SINK, a kind in ATTR[7:0] (03 R104, R105). -/
def Conf.nodeOf (c : Conf) (typ kind : Byte) : Option (Nat × NodeRec) :=
  c.graph.find? fun p => p.2.typ == typ && (!(typ == 0x01 || typ == 0x03) || p.2.attr.setWidth 8 == kind)

/-- The SS1_REF node of the graph (03 Table 3-4). -/
def Conf.ss1Ref (c : Conf) : Option (Nat × NodeRec) := c.nodeOf 0x01 0x02

/-- A new SS1 run, with the items as they stand. -/
def newSs1 (L : LaneSt) : Ss1Run :=
  let c := L.host.run
  { decel := c.item Item.ss1Decel, margin := c.item Item.ss1Margin, stand := c.item Item.ss1Standstill,
    textra := c.nat Item.ss1Textra, endState := cfgEnd L, cap := c.item Item.muleTqCap, scale := c.item Item.muleRateScale }

/-- SS1 starts with a cause (02 R76), and a learning pass is aborted (03 R129). A graph without an SS1 speed reference gets the end state
at once (R77). -/
def startSs1 (me : LaneId) (cause : Byte) (L : LaneSt) : LaneSt :=
  if L.safe.ss1.isSome || L.safe.state == .stopped || L.safe.state == .colt then L
  else if L.host.run.ss1Ref.isNone then stopNow me 0x27 (cfgEnd L) L
  else
    let L := abortLearn me L
    setSafe me .ss1
    { L with safe := { L.safe with ss1 := some (newSs1 L), ss1Req := false, stopCause := cause },
             mot := { L.mot with vel := none, velReq := [] } }

/-- STO of the device by the firmware path (11 R368, 13 R427). -/
def stoNow (me : LaneId) (cause : Byte) (L : LaneSt) : LaneSt :=
  stopNow me cause .sto (abortWaiting me none stopWaiting L)

/-! ## The decision -/

/-- Enter Mule mode (02 R69, R73): a learning pass is aborted (03 R129). START_ONE_LANE is the cause when an election with one lane makes
the entry. -/
def enterMule (me : LaneId) (m : Nat) (L : LaneSt) : LaneSt :=
  let cause := if L.safe.startOne then 0x07 else firstCond m
  let L := abortLearn me L
  postMule me (setSafe me .mule
    { L with safe := { L.safe with mule := true, muleCause := cause, startOne := false } })

/-- The state without Mule mode: NET_HOLD, DEGRADED or FULL (02 Table 2-5). DESIGN CHOICE (log entry 70): an H fault, which no rule
counts, leaves FULL. -/
def restState (L : LaneSt) : Safe :=
  if L.safe.netHold then .netHold else if L.safe.counted.isEmpty then .full else .degraded

/-- Can the remaining lanes still control torque and position (02 R72)? -/
def canControl (me : LaneId) (L : LaneSt) : Bool := (LaneId.all.any (L.energisable me)) && L.sen.votedPosOk

/-- A counted fault in Mule mode (02 R72): new since the last decision, and of kind L, W or S, or one that changes
M1–M6. -/
def newFault (m : Nat) (L : LaneSt) : Bool :=
  (L.safe.counted.filter fun f => !L.safe.prevCounted.contains f).any fun f =>
    match f.1 with
    | .lane => true
    | .winding => true
    | .sensor => true
    | _ => m != L.safe.prevCond

/-- The decision has been taken: what stands now is new no longer. -/
def keepConds (me : LaneId) (L : LaneSt) : LaneSt :=
  let m := muleConds me L
  { L with safe := { L.safe with prevCounted := L.safe.counted, prevCond := m, m2 := m.testBit 1 } }

/-- The tests of R67 and R81 that stop the device, before any other. -/
def stopCheck (me : LaneId) (L : LaneSt) : Option Byte :=
  if allSto me L then some 0x28 else if stopTest me L then some 0x26 else none

/-- The device's state after a change of the standing faults (02 R67, R72, R75, R81). A lane that is itself excluded decides nothing: its
gates are off, and the device's state is that of the other lanes. -/
def decideState (me : LaneId) (L : LaneSt) : LaneSt :=
  let m := muleConds me L
  let fresh := newFault m L
  let keep := keepConds me
  match L.safe.state with
  | .stopped => keep L
  | .colt => keep L
  | st =>
    if L.eng.excluded then keep L
    else if let some cause := stopCheck me L then keep (stopNow me cause .sto L)
    else if st == .ss1 then keep L
    else if L.safe.mule then
      if fresh then
        if canControl me L then keep (startSs1 me 0x21 L) else keep (stopNow me 0x21 (cfgEnd L) L)
      else keep L
    else if m ≠ 0 then keep (enterMule me m L)
    else keep (setSafe me (restState L) L)

/-- The Colt state ends (13 R402, 01 R36) in the state that the tests of R67 give, in their order. START_ONE_LANE can be the cause of this
entry alone (R73). -/
def leaveColt (me : LaneId) (L : LaneSt) : LaneSt :=
  let m := muleConds me L
  let L := match stopCheck me L with
    | some cause => stopNow me cause .sto L
    | none => if m ≠ 0 then enterMule me m L else setSafe me (restState L) L
  keepConds me { L with safe := { L.safe with startOne := false } }

/-- Mule mode is the device's: a lane that sees no condition itself (an unresolved vote of two others, an entry before it rejoined)
enters with the lead, whose record begins to show MULE (01 Table 1-2), and with its cause. -/
def followMule (me : LaneId) (lead : HerdRec) (cause : Byte) (L : LaneSt) : LaneSt :=
  let on := lead.health.getLsbD 10 && L.eng.healthy.get me
  let enter := on && !L.safe.leadMule && !L.safe.mule
    && (L.safe.state == .full || L.safe.state == .degraded || L.safe.state == .netHold)
  let L := { L with safe := { L.safe with leadMule := on } }
  if enter then
    let L := abortLearn me L
    keepConds me (postMule me (setSafe me .mule { L with safe := { L.safe with mule := true, muleCause := cause, startOne := false } }))
  else L

end Sys2Proof.Machine
end

