-- ==== Sys2Proof/Machine/Memory.lean ====
section
/-! DEFINITION. Memory integrity (12 R373–R382): array reads and their decoding, the merge buffer, the scrubbers, repair,
and the handling of fault records. The merge buffer stands in front of the host window; the device's own writes are
whole words (log entry 7).
Log entries: 7, 55 (DEDUCED); 76 (DESIGN CHOICE). -/

namespace Sys2Proof.Machine

/-- The domain that holds a memory (12 Table 12-1, 13 Table 13-7). -/
def memDomain : Nat → Domain
  | 1 => .mem | 3 => .mem | 4 => .mem | 5 => .host | 6 => .flock | 7 => .aon | _ => .cpu

/-- LAST_DED and LAST_SBE (12 Table 12-9). -/
def lastWord (mem word : Nat) : Word := packWord [(0, word % 2 ^ 18), (18, mem), (21, 1)]

/-- DETAIL_A of the memory sources (12 Table 12-6). -/
def memDetail (word : Nat) (syn : Byte) : Word := packWord [(0, 8 * word % 2 ^ 24), (24, syn.toNat)]

/-- Raise a 16-bit counter of a memory, saturating. -/
def bumpStore (m : Store Half) (k : Nat) : Store Half := Store.write 0 m k (satInc (Store.read 0 m k))

/-- The corrected words of a memory in the last second, 100,000,000 units of 10 ns. -/
def LaneSt.sbeIn1s (L : LaneSt) (mem : Nat) : Nat :=
  (L.int.sbeTimes.filter fun p => p.1 == mem && L.time.clk10 < p.2 + 100000000).length

/-- A corrected word (12 R373, R378, R382): counted, recorded and reported under `src`; the storm is reported when the
number in 1 s passes its limit. -/
def noteSbe (me : LaneId) (src : Byte) (mem word : Nat) (syn : Byte) (L : LaneSt) : LaneSt :=
  let before := L.sbeIn1s mem
  let i := L.int
  let kept := i.sbeTimes.filter fun p => L.time.clk10 < p.2 + 100000000
  let L := { L with int := { i with sbe := bumpStore i.sbe mem, lastSbe := lastWord mem word,
                                    sbeTimes := kept ++ [(mem, L.time.clk10)] } }
  let L := reportAt me src (location src mem word) (memDetail word syn) L.int.lastSbe L
  let lim := L.host.run.nat Item.sbeLimit
  if before = lim then
    reportAt me 0x06 (location 0x06 mem word) (memDetail word syn) L.int.lastSbe L
  else L

/-- An uncorrectable word was read (12 R373): counted, recorded, and a repair requested for memories 3 to 6. -/
def noteDed (mem word : Nat) (L : LaneSt) : LaneSt :=
  let i := L.int
  { L with int := { i with ded := bumpStore i.ded mem, lastDed := lastWord mem word, poisoned := addPair (mem, word) i.poisoned,
                           repairQ := if 3 ≤ mem && mem ≤ 6 then addPair (mem, word) i.repairQ else i.repairQ } }

/-- The cells of a word have flipped: it decodes so until it is rewritten (12 R373). -/
def flipCells (mem word : Nat) (found : EccOutcome) (L : LaneSt) : LaneSt :=
  match found with
  | .clean => L
  | .single syn => { L with int := { L.int with flipped := (L.int.flipped.filter fun e => e.1 != (mem, word)) ++ [((mem, word), syn)] } }
  | .double syn =>
    poisonWord mem word { L with int := { L.int with flipped := (L.int.flipped.filter fun e => e.1 != (mem, word)) ++ [((mem, word), syn)] } }

/-- Does a read deliver the word poisoned: it is uncorrectable already, or is found so now. -/
def foundBad (L : LaneSt) (mem word : Nat) (found : EccOutcome) : Bool :=
  L.int.poisoned.contains (mem, word) || (match found with
    | .double _ => true
    | _ => false)

/-- The syndrome of an uncorrectable word: that of its flipped cells, and of the poison codeword that of the two inverted check bits (12 R374). -/
def badSyndrome (mem word : Nat) (L : LaneSt) : Byte :=
  match L.int.flipped.find? fun e => e.1 == (mem, word) with
  | some e => e.2
  | none => 0x03

/-- How a read decodes a word: what is found now, and what its cells held before. -/
def decodes (L : LaneSt) (mem word : Nat) (found : EccOutcome) : EccOutcome :=
  match found with
  | .double s => .double s
  | f =>
    if L.int.poisoned.contains (mem, word) then .double (badSyndrome mem word L)
    else match f, L.int.flipped.find? fun e => e.1 == (mem, word) with
    | .clean, some e => .single e.2
    | f, _ => f

/-- An uncorrectable word keeps the syndrome it was first found with. -/
def noteBad (mem word : Nat) (syn : Byte) (L : LaneSt) : LaneSt :=
  noteDed mem word (if L.int.poisoned.contains (mem, word) then L else flipCells mem word (.double syn) L)

/-- A read of an array word (12 R373): a single-bit error stays in the array until the scrubber or a write rewrites it. -/
def readArray (me : LaneId) (mem word : Nat) (found : EccOutcome) (L : LaneSt) : LaneSt :=
  match decodes L mem word found with
  | .double syn => noteBad mem word syn L
  | .single syn => noteSbe me 0x01 mem word syn (flipCells mem word (.single syn) L)
  | .clean => L

/-- A read of an array word while the collector is not clocked: it is counted, and not reported. -/
def countArray (mem word : Nat) (found : EccOutcome) (L : LaneSt) : LaneSt :=
  match decodes L mem word found with
  | .double syn => noteBad mem word syn L
  | .single _ => { L with int := { L.int with sbe := bumpStore L.int.sbe mem, lastSbe := lastWord mem word } }
  | .clean => L

/-! ## Parity on the interconnect (12 R375) -/

/-- The report of an address or control parity error. -/
def reportHit (me : LaneId) (L : LaneSt) (h : ParityHit) : LaneSt :=
  reportAt me 0x04 (location 0x04 h.mem h.word) (memDetail h.word 0) L.int.lastDed L

/-- A transfer failed its parity: a data parity error is counted, an address or control parity error counted and reported at once. -/
def parityFailed (me : LaneId) (h : ParityHit) (L : LaneSt) : LaneSt :=
  if h.control then reportHit me (spendHit h L) h else spendHit h L

/-- The reports that the device's own writes owe. -/
def payReports (me : LaneId) (L : LaneSt) : LaneSt :=
  if L.int.parityOwed.isEmpty then L else L.int.parityOwed.foldl (reportHit me) { L with int := { L.int with parityOwed := [] } }

/-- Read an array word over the interconnect: is the beat delivered poisoned? A dropped read does not reach the array. -/
def readBeat (me : LaneId) (mem word : Nat) (found : EccOutcome) (L : LaneSt) : LaneSt × Bool :=
  match parityHit mem word false L with
  | some h => (parityFailed me h (if h.control then L else readArray me mem word found L), true)
  | none => (readArray me mem word found L, foundBad L mem word found)

/-- The words of a place in which a read finds something: uncorrectable ones, flipped ones, and those whose transfer will fail. -/
def LaneSt.upset (L : LaneSt) (p : Nat → Nat → Bool) : List (Nat × Nat) :=
  ((L.int.poisoned ++ L.int.flipped.map (·.1) ++ (L.int.parityHits.filter fun h => !h.write).map fun h => (h.mem, h.word)).eraseDups).filter
    fun q => p q.1 q.2

/-- Read the words of a place; is any delivered poisoned? -/
def readPlace (me : LaneId) (p : Nat → Nat → Bool) (L : LaneSt) : LaneSt × Bool :=
  (L.upset p).foldl (fun a q =>
    let r := readBeat me q.1 q.2 .clean a.1
    (r.1, a.2 || r.2)) (L, false)

/-- The device has written the words of a place whole: they decode clean, but for one whose transfer failed its data parity. One whose address
or control parity failed stays as it was. -/
def wrotePlace (p : Nat → Nat → Bool) (L : LaneSt) : LaneSt :=
  let kept := fun (m w : Nat) => !p m w || (L.writeHits p).any fun h => h.control && h.mem == m && h.word == w
  let K := { L with int := { L.int with poisoned := L.int.poisoned.filter fun q => kept q.1 q.2,
                                        flipped := L.int.flipped.filter fun e => kept e.1.1 e.1.2 } }
  (L.writeHits p).foldl (fun K h => if h.control then oweHit h K else poisonWord h.mem h.word (oweHit h K)) K

/-- Read several words; is any delivered poisoned? -/
def readBeats (me : LaneId) (mem : Nat) (ws : List (Nat × EccOutcome)) (L : LaneSt) : LaneSt × Bool :=
  ws.foldl (fun a w =>
    let r := readBeat me mem w.1 w.2 a.1
    (r.1, a.2 || r.2)) (L, false)

/-- The lane's CPU consumes a word: a poisoned one makes the lane FA (12 Table 12-2). -/
def cpuLoad (me : LaneId) (mem word : Nat) (L : LaneSt) : LaneSt :=
  let r := readBeat me mem word .clean L
  if r.2 && !r.1.start.fa then
    goFatal me 0x10 0 0 { r.1 with int := { r.1.int with poisonUsed := satInc r.1.int.poisonUsed } }
  else r.1

/-- What befalls the memories (12 R373, R375). A hit on a transfer waits for that transfer. -/
def memEvent (me : LaneId) (L : LaneSt) (e : MemEvent) : LaneSt :=
  match e with
  | .cells m w f => flipCells m.val w f L
  | .parity m w wr c => { L with int := { L.int with parityHits := L.int.parityHits ++ [⟨m.val, w, wr, c⟩] } }
  | .cpuRead m w => if L.start.fa then L else cpuLoad me m.val w L

/-! ## The merge buffer (12 R376, R377) -/

/-- The bytes an entry holds, with their offsets in the word. -/
def MergeEnt.parts (e : MergeEnt) : List (Nat × Byte) :=
  (List.range 8).filterMap fun i => if e.valid.getLsbD i then some (i, (e.bytes >>> (8 * i)).setWidth 8) else none

/-- Write the valid bytes of an entry to the host window. -/
def putParts (e : MergeEnt) (L : LaneSt) : LaneSt :=
  { L with host := { L.host with win := e.parts.foldl (fun w p => Store.write 0 w (8 * e.word + p.1) p.2) L.host.win } }

def removeEnt (mem word : Nat) (L : LaneSt) : LaneSt :=
  { L with int := { L.int with merge := L.int.merge.filter fun e => !(e.mem == mem && e.word == word) } }

/-- The write of a drained entry over the interconnect (12 R375). -/
def drainPut (me : LaneId) (e : MergeEnt) (L : LaneSt) : LaneSt :=
  match parityHit e.mem e.word true L with
  | some h => if h.control then parityFailed me h L else poisonWord e.mem e.word (cleanWord e.mem e.word (putParts e (parityFailed me h L)))
  | none => cleanWord e.mem e.word (putParts e L)

/-- Drain an entry. `found` is how the array word decodes in the read; `parityBad` that an entry byte fails its parity. -/
def drainEnt (me : LaneId) (e : MergeEnt) (found : EccOutcome) (parityBad : Bool) (L : LaneSt) : LaneSt :=
  let L := removeEnt e.mem e.word L
  let parityBad := parityBad || e.bad != 0
  if e.valid = 0xFF then
    let L := drainPut me e L
    if parityBad then
      reportAt me 0x05 (location 0x05 e.mem e.word) (memDetail e.word 0) L.int.lastDed
        (poisonWord e.mem e.word { L with int := { L.int with mergePoison := satInc L.int.mergePoison } })
    else L
  else
    let syn := match decodes L e.mem e.word found with
      | .double s => s
      | _ => 0
    let (L, bad) := readBeat me e.mem e.word found { L with int := { L.int with mergeRmw := satInc L.int.mergeRmw } }
    let L := drainPut me e L
    if bad || parityBad then
      reportAt me 0x05 (location 0x05 e.mem e.word) (memDetail e.word syn) L.int.lastDed
        (poisonWord e.mem e.word { L with int := { L.int with mergePoison := satInc L.int.mergePoison } })
    else L

/-- Drain the entry of a word, if there is one: a read of the word waits for it. -/
def drainWord (me : LaneId) (mem word : Nat) (L : LaneSt) : LaneSt :=
  match L.int.merge.find? fun e => e.mem == mem && e.word == word with
  | some e => drainEnt me e .clean false L
  | none => L

/-- Drain every entry: a barrier, or a sleep handshake of the array's domain. -/
def drainAll (me : LaneId) (L : LaneSt) : LaneSt := L.int.merge.foldl (fun L e => drainEnt me e .clean false L) L

/-- The mask and the value of the bytes `b` placed at byte `o` of a word. -/
def placeBytes (o : Nat) : List Byte → BitVec 64 × BitVec 8 × BitVec 64
  | [] => (0, 0, 0)
  | x :: r =>
    let (v, m, f) := placeBytes (o + 1) r
    (v ||| (x.setWidth 64 <<< (8 * o)), m ||| (1#8 <<< o), f ||| (0xFF#64 <<< (8 * o)))

/-- The number of the next write into the buffer: each entry keeps that of its last one. -/
def nextTouch (L : LaneSt) : Nat := 1 + L.int.merge.foldl (fun n e => max n e.touched) 0

/-- The entry that has gone longest without a write. -/
def idleEnt : List MergeEnt → Option MergeEnt
  | [] => none
  | e :: r => some (r.foldl (fun m x => if x.touched < m.touched then x else m) e)

/-- A write of fewer than 8 bytes at byte `o` of a word enters the buffer. `bad` says that its data parity has failed; a later byte replaces an
earlier one, with its parity. -/
def mergePut (me : LaneId) (mem word o : Nat) (b : List Byte) (bad : Bool) (L : LaneSt) : LaneSt :=
  let (v, m, f) := placeBytes o b
  match L.int.merge.find? fun e => e.mem == mem && e.word == word with
  | some e =>
    let e' := { e with bytes := (e.bytes &&& ~~~f) ||| v, valid := e.valid ||| m, bad := (e.bad &&& ~~~m) ||| (if bad then m else 0), touched := nextTouch L }
    let L := { L with int := { L.int with merge := L.int.merge.map fun x => if x.mem == mem && x.word == word then e' else x } }
    if e'.valid = 0xFF then drainEnt me e' .clean false L else L
  | none =>
    let L := match L.int.merge with
      | e :: _ => if L.int.merge.length < 8 then L else drainEnt me e .clean false L
      | [] => L
    { L with int := { L.int with merge := L.int.merge ++ [{ mem := mem, word := word, bytes := v, valid := m, bad := if bad then m else 0, touched := nextTouch L }] } }

/-- A write of fewer than 8 bytes: a data parity error poisons what it brings, and an address or control parity error drops it (12 R375). -/
def mergeWrite (me : LaneId) (mem word o : Nat) (b : List Byte) (L : LaneSt) : LaneSt :=
  match parityHit mem word true L with
  | some h => if h.control then parityFailed me h L else mergePut me mem word o b true (parityFailed me h L)
  | none => mergePut me mem word o b false L

/-- A full 64-bit write: an entry of the word is discarded. -/
def fullPut (mem word : Nat) (b : List Byte) (L : LaneSt) : LaneSt :=
  let L := cleanWord mem word (removeEnt mem word L)
  { L with host := { L.host with win := Store.writes 0 L.host.win (8 * word) b } }

/-- A full write over the interconnect: a beat with a data parity error is stored poisoned, and an address or control parity error drops it. -/
def fullWrite (me : LaneId) (mem word : Nat) (b : List Byte) (L : LaneSt) : LaneSt :=
  match parityHit mem word true L with
  | some h => if h.control then parityFailed me h L else poisonWord mem word (fullPut mem word b (parityFailed me h L))
  | none => fullPut mem word b L

/-- MERGE_IDLE_DRAIN: the entry that has gone longest without a write has been idle for 16 cycles. -/
def execMergeIdleDrain (l : LaneId) (found : EccOutcome) (parityBad : Bool) (s : State) : Out :=
  onLaneIf l LaneSt.running (fun L =>
    match idleEnt L.int.merge with
    | some e => drainEnt l e found parityBad L
    | none => L) s

/-! ## Scrubbing (12 R378, R380) -/

/-- The 64-bit words of a memory (12 Table 12-1). -/
def memWords : Nat → Nat
  | 0 => 262144 | 1 => 65536 | 2 => 65536 | 7 => 1024 | _ => 16384

/-- Move the scrubber on: to the next word of its memory, else to the next memory that is On, and a pass ends after
memory 6. -/
def nextMem (L : LaneSt) : Nat → Nat → Option Nat
  | 0, _ => none
  | k + 1, m => if 6 < m then none else if L.dom (memDomain m) == .on || L.dom (memDomain m) == .onStopped then some m else nextMem L k (m + 1)

def advanceScrub (L : LaneSt) : LaneSt :=
  let i := L.int
  if i.scrubWord + 1 < memWords i.scrubMem then { L with int := { i with scrubWord := i.scrubWord + 1 } }
  else match nextMem L 6 (i.scrubMem + 1) with
    | some m => { L with int := { i with scrubMem := m, scrubWord := 0 } }
    | none =>
      let d := satNat 16 (i.scrubSlots * 64 / 1000)
      { L with int := { i with scrubMem := (nextMem L 6 2).getD 2, scrubWord := 0, scrubSlots := 0, scrubLast := d,
                               scrubMax := if i.scrubMax.toNat < d.toNat then d else i.scrubMax, scrubPasses := satInc i.scrubPasses } }

/-- One word of a scrubber: a single-bit error is corrected, an uncorrectable word is reported. -/
def scrubRead (me : LaneId) (mem word : Nat) (found : EccOutcome) (L : LaneSt) : LaneSt :=
  match decodes L mem word found with
  | .double syn =>
    let L := noteBad mem word syn L
    reportAt me 0x03 (location 0x03 mem word) (memDetail word syn) L.int.lastDed L
  | .single syn => noteSbe me 0x02 mem word syn (cleanWord mem word L)
  | .clean => L

/-- SCRUB_SLOT: a memory whose domain is in Retention or Off is not scrubbed. -/
def scrubSlotLane (me : LaneId) (found : EccOutcome) (L : LaneSt) : LaneSt :=
  let L := { L with int := { L.int with scrubSlots := L.int.scrubSlots + 1 } }
  let d := L.dom (memDomain L.int.scrubMem)
  if d == .on || d == .onStopped then advanceScrub (scrubRead me L.int.scrubMem L.int.scrubWord found L)
  else match nextMem L 6 (L.int.scrubMem + 1) with
    | some m => { L with int := { L.int with scrubMem := m, scrubWord := 0 } }
    | none => { L with int := { L.int with scrubMem := (nextMem L 6 2).getD 2, scrubWord := 0 } }

def execScrubSlot (l : LaneId) (found : EccOutcome) (s : State) : Out := onLaneIf l LaneSt.running (scrubSlotLane l found) s

/-- AON_SCRUB_SLOT: memory 7, one word every 64 µs; a report needs the fault collector of PD_CPU. -/
def aonScrubLane (me : LaneId) (found : EccOutcome) (L : LaneSt) : LaneSt :=
  let w := L.int.aonWord
  let L := if L.running then scrubRead me 7 w found L
    else match decodes L 7 w found with
      | .single _ => cleanWord 7 w (countArray 7 w found L)
      | _ => countArray 7 w found L
  { L with int := { L.int with aonWord := (w + 1) % 1024 } }

def execAonScrubSlot (l : LaneId) (found : EccOutcome) (s : State) : Out :=
  onLaneIf l (fun L => L.start.supplied && L.start.vinGood) (aonScrubLane l found) s

/-! ## Repair (12 R379) -/

/-- Is the word rewritten by firmware: a node record or table entry of memory 3 below the learning workspace, or a
schedule or subscription copy of memory 6, whose place the manual does not give. -/
def repairable (mem word : Nat) : Bool := (mem == 3 && word < 14336) || (mem == 6 && Config.scheduleCopy word)

/-- REPAIR_DONE: the oldest request. The word is rewritten from the copy in CPU SRAM, and where that is uncorrectable too, from the lead's
over the herdline, which a lane out of its reach, or the lead itself, cannot do. An uncorrectable word of the learning workspace aborts the
learning pass. -/
def repairLane (me : LaneId) (L : LaneSt) : LaneSt :=
  match L.int.repairQ with
  | [] => L
  | (mem, word) :: r =>
    let L := { L with int := { L.int with repairQ := r } }
    if repairable mem word then
      let (L, bad) := readBeat me 2 (Config.sramCopy mem word) .clean L
      let lead := L.eng.lead.any fun j => j != me && L.eng.healthy.get j && !L.eng.isolated
      if bad && !lead then L
      else
        let L := cleanWord mem word L
        { L with int := { L.int with repairs := satInc L.int.repairs } }
    else if mem = 3 then abortLearn me L
    else L

def execRepairDone (l : LaneId) (s : State) : Out := onLaneIf l LaneSt.running (repairLane l) s

/-! ## Handling of records (12 R386) -/

/-- Set HANDLED in the record of a class. -/
def setHandled (cls : BitVec 3) (L : LaneSt) : LaneSt :=
  if !(2 ≤ cls.toNat && cls.toNat ≤ 4) then L
  else match L.int.slot cls with
  | some r => { L with int := L.int.setSlot cls (some { r with handled := true }) }
  | none => L

/-- FAULT_HANDLING_DONE: firmware has posted the event and completed the reaction. -/
def execFaultHandlingDone (l : LaneId) (cls : BitVec 3) (s : State) : Out := onLaneIf l LaneSt.running (setHandled cls) s

/-- FAULT_HANDLED_TIMEOUT: 100 µs after the latch, by the collector itself. -/
def execFaultHandledTimeout (l : LaneId) (cls : BitVec 3) (s : State) : Out := onLaneIf l LaneSt.alive (setHandled cls) s

end Sys2Proof.Machine
end

