-- ==== Sys2Proof/Machine/HostPort.lean ====
section
/-! DEFINITION. The host port: SPI transactions, their checks and their effects (09 R297–R306, R308, 10 R337, R340, 01
R47–R50), and the reports of a port (09 R303).
Log entries: 13, 52, 53 (DEDUCED); 76 (DESIGN CHOICE). -/

namespace Sys2Proof.Machine

/-- The port answers (09 R321, 13 R423). -/
def LaneSt.answers (L : LaneSt) : Bool := L.running && L.dom .host == .on

def Outcome4.code : Outcome4 → Nat
  | .done => 0 | .notDone => 1 | .repeated => 2 | .reset => 3

/-- The status word (09 Table 9-2). -/
def statusWord (me : LaneId) (L : LaneSt) : Word :=
  let h := L.host
  packWord [(0, h.outcome.code), (4, b2n h.crcErr), (5, b2n h.seqErr), (6, b2n h.formatErr), (7, b2n h.poison),
    (8, b2n L.ev.hirq), (9, b2n h.dbHeld), (10, L.eng.role.code), (12, me.num), (14, b2n L.debugAny), (15, b2n L.minimal),
    (16, h.lastSeq.toNat), (24, 0x5A)]

/-- The fields of a command word (09 R298). -/
def cmdKind (w : Word) : Nat := fieldOf w 28 4
def cmdLen (w : Word) : Nat := fieldOf w 24 4
def cmdAddr (w : Word) : Nat := fieldOf w 0 24

/-- The MOSI words of a kind (09 Table 9-1). -/
def wordCount (kind len : Nat) : Option Nat :=
  match kind with
  | 0 => some 2 | 1 => some (len + 4) | 2 => some (len + 3) | 3 => some 3 | _ => none

/-! ## H reports (09 R303, 02 Table 2-1) -/

/-- An H report of the port: part 0 is H_CRC, part 1 is H_SILENT. -/
def hReport (me : LaneId) (part : Nat) (L : LaneSt) : LaneSt :=
  let L := { L with host := if part = 0 then { L.host with hCrc := true } else { L.host with hSilent := true } }
  let L := addFault { kind := .host, lane := me, part := part, src := 0x5A } L
  arrive me 0x70 clsUc (pay2 (hostReg1 L) 0) (report me 0x5A 0 0 L)

def hEnd (me : LaneId) (part : Nat) (L : LaneSt) : LaneSt :=
  endFaults (fun f => f.kind == .host && f.lane == me && f.part == part)
    { L with host := if part = 0 then { L.host with hCrc := false } else { L.host with hSilent := false } }

/-- A CRC-8 failure (09 R299, R303): HOST_CRC_LIMIT of them within 1 s raise H_CRC. -/
def crcFailure (me : LaneId) (L : LaneSt) : LaneSt :=
  let ts := (L.host.crcTimes.filter fun t => L.time.clk10 < t + 100000000) ++ [L.time.clk10]
  let L := report me 0x58 0 0 { L with host := { L.host with crcErrs := satInc L.host.crcErrs, crcTimes := ts } }
  if L.host.run.nat Item.crcLimit ≤ ts.length && !L.host.hCrc then hReport me 0 L else L

/-! ## Writes -/

/-- The command slot of a window offset is free for the host (09 R304): it does not lie between CQ_HEAD and CQ_TAIL. -/
def slotFree (me : LaneId) (L : LaneSt) (o : Nat) : Bool :=
  let n := L.cqSlots me
  0x1000 ≤ o && o < 0x1000 + 256 * n &&
    (let p := (o - 0x1000) / 256
     L.host.cqHeld ≤ (p + n - L.host.cqHead.toNat % n) % n)

/-- A write of EQ_HEAD (09 R305, R313, 10 R336, R337): records and reply slots are freed, HIRQ_N is released when the queue
becomes empty, and the records of pending sources follow. -/
def writeEqHead (me : LaneId) (addr : Nat) (v : Word) (L : LaneSt) : LaneSt :=
  let h : Half := v.setWidth 16
  let left := (L.host.eqTail - h).toNat
  if L.eqRecords me < left then violate addr true false L
  else
    let L := { L with host := { L.host with eqHead := h, slotsUsed := L.host.slotsUsed.filter fun u => (u.2 - h).toNat < left } }
    let L := if left = 0 then { L with ev := { L.ev with hirq := false, irqDue := false, holdRunning := 0 } } else L
    replay me L

/-- A write of one word (01 R47, R48, R50, 09 R304). -/
def hostWrite (me : LaneId) (owner : Bool) (addr : Nat) (v : Word) (L : LaneSt) : LaneSt :=
  let o := adrOffset addr
  if adrLane addr ≠ me.num then violate addr true true L
  else match engineWord me L (adrEngine addr) o with
  | none => violate addr true true L
  | some _ =>
    if adrEngine addr = 0 && o = 0x008 && owner then
      { L with eng := { L.eng with violCount := 0, violAddr := 0, violWrite := false, violUnmapped := false } }
    else if adrEngine addr = 6 && o = 0x00C then writeEqHead me addr v L
    else if adrEngine addr = 6 && slotFree me L o then mergeWrite me 5 (o / 8) (o % 8) (le32 v) L
    else violate addr true false L

/-- The data words of a WRITE, applied together (09 R299): two words that fill an array word arrive as one (12 R376). -/
def hostWrites (me : LaneId) (owner : Bool) : Nat → List Word → LaneSt → LaneSt
  | _, [], L => L
  | addr, [v], L => hostWrite me owner addr v L
  | addr, v :: w :: r, L =>
    let o := adrOffset addr
    if adrLane addr = me.num && adrEngine addr = 6 && o % 8 = 0 && slotFree me L o then
      hostWrites me owner (addr + 8) r (fullWrite me 5 (o / 8) (le32 v ++ le32 w) L)
    else hostWrites me owner (addr + 4) (w :: r) (hostWrite me owner addr v L)

/-! ## Reads -/

/-- The array words that a READ touches, with the decoding found for each. -/
def touched (addr n : Nat) (ecc : List (Nat × EccOutcome)) : List ((Nat × Nat) × EccOutcome) :=
  (List.range n).foldl (fun acc i =>
    match arrayWord (addr + 4 * i) with
    | some k =>
      if acc.any fun x => x.1 == k then acc
      else acc ++ [(k, match ecc.find? fun e => e.1 == i with
        | some e => e.2
        | none => .clean)]
    | none => acc) []

/-- Read consecutive words through the arrays (12 R373, R376). -/
def hostReads (me : LaneId) (owner : Bool) (addr n : Nat) (ecc : List (Nat × EccOutcome)) (L : LaneSt) :
    List (Word × Bool) × LaneSt :=
  let (L, bad) := if adrLane addr ≠ me.num then (L, [])
    else (touched addr n ecc).foldl (fun a x =>
      let r := readBeat me x.1.1 x.1.2 x.2 (drainWord me x.1.1 x.1.2 a.1)
      (r.1, if r.2 then x.1 :: a.2 else a.2)) (L, [])
  let (ws, L) := readWords me owner n addr L
  (ws.zipIdx.map fun w => (w.1.1, w.1.2 || (arrayWord (addr + 4 * w.2)).any fun k => bad.contains k), L)

/-- The response word of a READ (09 R300). -/
def responseWord (data : List Word) (rejected : Bool) (mask : Nat) : Word :=
  let hi := packWord [(8, b2n rejected), (16, mask)]
  let crc := crc8 ((data.map be32).flatten ++ (be32 hi).take 3)
  hi ||| crc.setWidth 32

/-- POISON_MASK from the words read. -/
def poisonMask (ws : List (Word × Bool)) : Nat :=
  ws.foldr (fun w m => b2n w.2 + 2 * m) 0

/-! ## The transaction -/

/-- What a transaction ends with: the outcome, the error flags, and the words read. -/
structure TxEnd where
  outcome : Outcome4
  crc : Bool := false
  seq : Bool := false
  fmt : Bool := false
  data : Option (List (Word × Bool)) := none
  deriving DecidableEq, Repr

/-- The tests of a DOORBELL that are format errors (09 R298, R304, R308). A DOORBELL that names another lane passes them. -/
def doorbellOk (me : LaneId) (L : LaneSt) (cmd data : Word) : Bool :=
  let a := cmdAddr cmd
  let t : Half := data.setWidth 16
  let ahead := (t - L.host.cqHead).toNat
  cmdLen cmd = 0 &&
    (adrLane a ≠ me.num || (adrEngine a = 6 && adrOffset a = 0x004 && ahead ≤ L.cqSlots me && (t - L.host.cqTail).toNat ≤ ahead))

/-- Mark a transaction as executed. -/
def executed (cmd : Word) (crc seq : Byte) (L : LaneSt) : LaneSt :=
  { L with host := { L.host with lastSeq := seq, lastCmd := some (cmd, crc) } }

/-- A transaction whose CRC and format are good (09 R301). A READ out of sequence is executed, but its response is REJECTED with every data
word 0 (09 R300). -/
def runTx (me : LaneId) (ecc : List (Nat × EccOutcome)) (cmd : Word) (crc seq : Byte) (data : List Word) (L : LaneSt) :
    LaneSt × TxEnd :=
  let h := L.host
  let owner := (L.priv (.spi me)).covers .owner
  let inSeq := seq == h.lastSeq + 1
  match cmdKind cmd with
  | 0 => ({ executed cmd crc seq L with host := { (executed cmd crc seq L).host with seqSynced := true } }, { outcome := .done })
  | 1 =>
    let (ws, L) := hostReads me owner (cmdAddr cmd) (cmdLen cmd + 1) ecc L
    (executed cmd crc seq L, { outcome := .done, seq := !inSeq, data := if inSeq then some ws else none })
  | k =>
    if h.seqSynced && inSeq then
      let L := executed cmd crc seq L
      if k = 2 then (hostWrites me owner (cmdAddr cmd) data L, { outcome := .done })
      else if adrLane (cmdAddr cmd) ≠ me.num then (violate (cmdAddr cmd) true true L, { outcome := .done })
      else
        let t : Half := (data.headD 0).setWidth 16
        ({ L with host := { L.host with cqTail := t, dbHeld := t != L.host.cqHead } }, { outcome := .done })
    else if seq == h.lastSeq && h.lastCmd == some (cmd, crc) then (L, { outcome := .repeated })
    else (L, { outcome := .notDone, seq := true })

/-- Host sleep ends at a transaction with a good CRC (10 R340). -/
def endSleep (L : LaneSt) : LaneSt :=
  if L.host.asleep then
    { L with host := { L.host with asleep := false },
             ev := { L.ev with wakeMask := 0, hirq := L.ev.hirq || L.host.eqHeld != 0 } }
  else L

/-- The checks of a transaction in their order: the words of its kind, the CRC, then the format (09 R298, R299). -/
def checkTx (me : LaneId) (ecc : List (Nat × EccOutcome)) (mosi : List Word) (L : LaneSt) : LaneSt × TxEnd :=
  let cmd := mosi.headD 0
  let kind := cmdKind cmd
  if mosi.isEmpty || wordCount kind (cmdLen cmd) != some mosi.length then (L, { outcome := .notDone, fmt := true })
  else
    let cw := if kind = 1 then mosi.getD 1 0 else mosi.getLastD 0
    let data := if kind = 0 || kind = 1 then [] else (mosi.drop 1).dropLast
    let crc : Byte := cw.setWidth 8
    let seq : Byte := (cw >>> 8).setWidth 8
    if crc8 (((cmd :: data).map be32).flatten ++ [seq]) ≠ crc then (crcFailure me L, { outcome := .notDone, crc := true })
    else
      let L := endSleep L
      if cmdAddr cmd % 4 ≠ 0 || (kind = 3 && !doorbellOk me L cmd (data.headD 0)) then
        (L, { outcome := .notDone, fmt := true })
      else runTx me ecc cmd crc seq data L

/-- The MISO words (09 Table 9-1): the status word, and for a READ its data and response. -/
def misoWords (status : Word) (mosi : List Word) (e : TxEnd) : List Word :=
  let cmd := mosi.headD 0
  if mosi.isEmpty then []
  else if cmdKind cmd = 1 && mosi.length = cmdLen cmd + 4 then
    let n := cmdLen cmd + 1
    let ws := e.data.getD (List.replicate n (0, false))
    let data := ws.map (·.1)
    [status, 0] ++ data ++ [responseWord data e.data.isNone (poisonMask ws)]
  else status :: List.replicate (mosi.length - 1) 0

/-- HCS_N falls: an arrival of source 0x94 (10 R334); the transaction is counted, and H_SILENT ends. -/
def openTx (me : LaneId) (L : LaneSt) : LaneSt :=
  let L := arrive me 0x94 clsInfo (pay2 L.now 0) L
  let L := { L with host := { L.host with transactions := satInc L.host.transactions } }
  if L.host.hSilent then hEnd me 1 L else L

/-- HCS_N rises: the outcome and the flags of the next status word, and what the lane drove on HMISO. -/
def closeTx (status : Word) (mosi : List Word) (r : LaneSt × TxEnd) : LaneSt :=
  let L := r.1
  let e := r.2
  let h := L.host
  { L with host := { h with outcome := e.outcome, crcErr := e.crc, seqErr := e.seq, formatErr := e.fmt,
                            poison := (e.data.getD []).any (·.2), miso := misoWords status mosi e,
                            seqErrs := if e.seq then satInc h.seqErrs else h.seqErrs,
                            formatErrs := if e.fmt then satInc h.formatErrs else h.formatErrs } }

/-- A transaction on a port. A port that does not answer drives nothing (09 R321). -/
def transact (me : LaneId) (ecc : List (Nat × EccOutcome)) (mosi : List Word) (L : LaneSt) : LaneSt :=
  if !L.answers then { L with host := { L.host with miso := [] } }
  else
    let L := openTx me L
    closeTx (statusWord me L) mosi (checkTx me ecc mosi L)

/-- A row of a transaction carries the command words of its own kind, or words that are a format error in any row: a
reserved KIND or no word at all. -/
def rowKind (kind : Nat) (mosi : List Word) : Bool :=
  mosi.isEmpty || 4 ≤ cmdKind (mosi.headD 0) || cmdKind (mosi.headD 0) = kind

def transactRow (kind : Nat) (me : LaneId) (ecc : List (Nat × EccOutcome)) (mosi : List Word) (s : State) : Out :=
  onLaneIf me (fun _ => rowKind kind mosi) (transact me ecc mosi) s

/-- SPI_NOP. -/
def execSpiNop (l : LaneId) (mosi : List Word) (s : State) : Out := transactRow 0 l [] mosi s

/-- SPI_READ: `ecc` is how the array words read decode, by the index of the data word. -/
def execSpiRead (l : LaneId) (mosi : List Word) (ecc : List (Nat × EccOutcome)) (s : State) : Out := transactRow 1 l ecc mosi s

/-- SPI_WRITE. -/
def execSpiWrite (l : LaneId) (mosi : List Word) (s : State) : Out := transactRow 2 l [] mosi s

/-- DOORBELL. -/
def execDoorbell (l : LaneId) (mosi : List Word) (s : State) : Out := transactRow 3 l [] mosi s

/-- EQ_HEAD_WRITE: a WRITE whose words include EQ_HEAD. -/
def execEqHeadWrite (l : LaneId) (mosi : List Word) (s : State) : Out := transactRow 2 l [] mosi s

/-- LANE_VIOL_CLEAR: a WRITE whose words include LANE engine offset 0x008. -/
def execLaneViolClear (l : LaneId) (mosi : List Word) (s : State) : Out := transactRow 2 l [] mosi s

/-- HOST_SILENT_TIMEOUT: not while the host sleeps (10 R339), and not with HOST_SILENT_TIME off. -/
def execHostSilentTimeout (l : LaneId) (s : State) : Out :=
  onLaneIf l (fun L => L.answers && !L.host.asleep && !L.host.hSilent && L.host.run.nat Item.silentTime != 0) (hReport l 1) s

/-- HOST_CRC_SECOND: a whole second has passed without a CRC error. -/
def execHostCrcSecond (l : LaneId) (s : State) : Out :=
  onLaneIf l (fun L => L.running && L.host.hCrc)
    (fun L => hEnd l 0 { L with host := { L.host with crcTimes := [] } }) s

end Sys2Proof.Machine
end

