-- ==== Sys2Proof/Machine/Admission.lean ====
section
/-! DEFINITION. Command packets: admission (09 R307, R309–R311, R316), replication and results (01 R40–R42), and the
timers of transactions and claims (09 R319, 01 R54, R55).
Log entries: 23, 64, 72 (DEDUCED); 67 (DESIGN CHOICE). -/

namespace Sys2Proof.Machine

/-! ## Segments -/

/-- The 256 bytes of a command slot (09 R305). -/
def slotBytes (me : LaneId) (L : LaneSt) (i : Nat) : List Byte :=
  Store.reads 0 L.host.win (0x1000 + 256 * (i % L.cqSlots me)) 256

def segIndex (b : List Byte) : Nat := (byteAt b 6).toNat % 16
def segCount (b : List Byte) : Nat := (byteAt b 6).toNat / 16
def totalLen (b : List Byte) : Nat := (rd16 b 4).toNat

/-- The segments of the packet at CQ_HEAD, `n` of them. -/
def segments (me : LaneId) (L : LaneSt) (n : Nat) : List (List Byte) :=
  (List.range n).map fun i => slotBytes me L (L.host.cqHead.toNat + i)

/-- The bytes of segment `i` of a packet of `len` bytes: at least its header, at most a slot. -/
def segLen (len i : Nat) : Nat := max 16 (min 256 (len - 256 * i))

/-- The CRC-32C of a segment, its CRC field taken as 0 (09 Table 9-6). -/
def segCrcOk (len i : Nat) (b : List Byte) : Bool :=
  let body := b.take (segLen len i)
  crc32c (body.take 12 ++ zeros 4 ++ body.drop 16) == rd32 b 12

/-- Do the segments agree, and fit the packet's length (09 R307)? -/
def segsAgree (hd : List Byte) (segs : List (List Byte)) : Bool :=
  let n := segCount hd
  let len := totalLen hd
  16 ≤ len && n == (len + 255) / 256
  && (List.range segs.length).all fun i =>
      let b := segs.getD i []
      segIndex b == i && b.take 6 == hd.take 6 && (byteAt b 6) >>> 4 == (byteAt hd 6) >>> 4 && byteAt b 7 == byteAt hd 7
      && rd32 b 8 == rd32 hd 8

/-- The packet that segments make. -/
def joinSegs (sender : Sender) (hd : List Byte) (segs : List (List Byte)) : Packet :=
  let fl := byteAt hd 7
  { sender := sender, opcode := rd16 hd 0, tag := rd16 hd 2, timed := fl.getLsbD 0,
    noCompletion := fl.getLsbD 1, fence := fl.getLsbD 2, execAt := rd32 hd 8,
    block := ((List.range segs.length).map fun i => ((segs.getD i []).take (segLen (totalLen hd) i)).drop 16).flatten }

/-- Entries of the merge buffer in the first `n` slots at CQ_HEAD are drained before these are read (12 R376). -/
def drainSlots (me : LaneId) (n : Nat) (L : LaneSt) : LaneSt :=
  (L.int.merge.filter fun e => e.mem == 5 && (List.range n).any fun i =>
      let w := (0x1000 + 256 * ((L.host.cqHead.toNat + i) % L.cqSlots me)) / 8
      w ≤ e.word && e.word < w + 32).foldl (fun L e => drainEnt me e .clean false L) L

/-- Read the slots of the packet (12 R373): does any word arrive poisoned (12 Table 12-2)? -/
def readSlots (me : LaneId) (n : Nat) (L : LaneSt) : LaneSt × Bool :=
  readBeats me 5 ((List.range n).map fun i =>
    let w := (0x1000 + 256 * ((L.host.cqHead.toNat + i) % L.cqSlots me)) / 8
    (List.range 32).map fun j => (w + j, EccOutcome.clean)).flatten L

/-! ## Checks -/

/-- The tests of step 5 of 09 R309 that do not look at segments, with the tests of a timed command (09 R316). -/
def packetFault (L : LaneSt) (flags : Byte) (p : Packet) : Option Byte :=
  match opInfo p.opcode with
  | none => some stBadParam
  | some o =>
    if 8 ≤ flags.toNat || (p.timed && !o.timed) || (!p.timed && p.execAt != 0) then some stBadParam
    else if !p.timed then none
    else if L.host.run.nat Item.nodeId ≠ 0 && !L.time.synced then some stNotInState
    else if timeAfter p.execAt (L.now + BitVec.ofNat 32 (1000 * L.host.run.nat Item.timedMax)) then some stBadParam
    else none

/-- Privilege and reach (09 R309 steps 6 and 7, 01 R42, 09 R322). A clear of fault records runs on an isolated lane alone. -/
def packetDenied (L : LaneSt) (p : Packet) : Option Byte :=
  match opInfo p.opcode with
  | none => some stBadParam
  | some o =>
    if !(L.priv p.sender).covers o.priv then some stNotPermitted
    else if o.isLocal then none
    else if L.eng.excluded || L.eng.debug || (L.eng.isolated && p.opcode != 0x0902) then some stLaneExcluded
    else none

/-- Is a completion record free for reservation (09 R310)? -/
def recordFree (me : LaneId) (L : LaneSt) : Bool := L.room me

def reserve (L : LaneSt) : LaneSt := { L with host := { L.host with resv := L.host.resv + 1 } }
def setWait (b : BitVec 4) (L : LaneSt) : LaneSt := { L with host := { L.host with wait := b } }

/-- CQ_HEAD advances; the doorbell is consumed when it reaches CQ_TAIL (09 R308). -/
def advanceCq (n : Nat) (L : LaneSt) : LaneSt :=
  let h := L.host.cqHead + BitVec.ofNat 16 n
  { L with host := { L.host with cqHead := h, dbHeld := L.host.cqTail != h, wait := 0 } }

/-- Refuse the packet at CQ_HEAD (09 R309): a completion with the status and both masks 0. It waits for a completion
record when none is free. -/
def refuseAt (me : LaneId) (p : Packet) (st : Byte) (n : Nat) (L : LaneSt) : LaneSt :=
  if recordFree me L then refusedTask me p st (reserve (advanceCq n L)) else setWait 2 L

/-- Step 8: what the packet waits for, if anything. -/
def waitFor (me : LaneId) (p : Packet) (L : LaneSt) : BitVec 4 :=
  let reply := match opInfo p.opcode with
    | some o => o.reply
    | none => false
  (if recordFree me L then 0 else 2) ||| (if reply && (freeSlot me L).isNone then 4 else 0)
    ||| (if taskFree L me.num then 0 else 8)

/-- Admit the packet at CQ_HEAD (09 R309 step 8). -/
def admitAt (me : LaneId) (p : Packet) (n : Nat) (L : LaneSt) : LaneSt :=
  let w := waitFor me p L
  if w ≠ 0 then setWait w L
  else
    let reply := match opInfo p.opcode with
      | some o => o.reply
      | none => false
    let slot := if reply then freeSlot me L else none
    let L := reserve (advanceCq n L)
    admitPacket me p slot { L with host := { L.host with admitted := satInc L.host.admitted } }

/-- The packet whose segment 0 lies at CQ_HEAD, in the order of 09 R309. -/
def admission (me : LaneId) (L : LaneSt) : LaneSt :=
  let L := drainSlots me 1 L
  let hd := slotBytes me L L.host.cqHead.toNat
  let n := segCount hd
  let L := if n ≤ 4 then drainSlots me n L else L
  let len := totalLen hd
  let adv := max 1 n
  let p1 := joinSegs (.spi me) hd [hd]
  if segIndex hd ≠ 0 then
    advanceCq 1 { L with host := { L.host with cqDiscard := satInc L.host.cqDiscard } }
  else if 4 < n || 1024 < len || L.cqSlots me < n then refuseAt me { p1 with block := [] } stTooLarge 1 L
  else if L.host.cqHeld < adv then setWait 1 L
  else
    let segs := segments me L adv
    let p := joinSegs (.spi me) hd segs
    let (L, poisoned) := readSlots me adv L
    if poisoned then
      if recordFree me L then refuseAt me p stBadCrc adv (reportPoison me 0x0C 0 0 L) else setWait 2 L
    else if !((List.range adv).all fun i => segCrcOk len i (segs.getD i [])) then
      if recordFree me L then refuseAt me p stBadCrc adv (report me 0x59 0 0 L) else setWait 2 L
    else if !segsAgree hd segs then refuseAt me p stBadParam adv L
    else match packetFault L (byteAt hd 7) p with
    | some st => refuseAt me p st adv L
    | none => match packetDenied L p with
      | some st => refuseAt me p st adv L
      | none => admitAt me p adv L

/-- PACKET_ADMISSION. -/
def execPacketAdmission (l : LaneId) (s : State) : Out :=
  onLaneIf l (fun L => L.answers && L.host.cqHeld != 0) (admission l) s

/-! ## Replication (01 R40) -/

/-- Does the lane take part in a packet that another lane replicates? A clear or a wake reaches a named lane that is not healthy, but
not an isolated one (11 R363). Minimal lanes replicate among themselves, and START_FULL runs on every minimal lane it reaches
(13 R406). -/
def takesPart (me : LaneId) (L : LaneSt) (m : ReplMsg) : Bool :=
  (reachesUnhealthy m.pkt.opcode && (byteAt m.pkt.block 0).getLsbD me.num && !L.eng.isolated)
  || ((L.partners me).get me && !L.eng.excluded && !L.eng.debug
      && (m.minimal == L.minimal || (L.minimal && m.pkt.opcode == 0x0B01)))

/-- A numbered packet: the receiving lane numbers its task, another lane takes it as a task of its own, once. One from a remote host
that finds the remote pool full waits for room there (09 R311). -/
def takeNumbered (me : LaneId) (m : ReplMsg) (n : Nat) (L : LaneSt) : LaneSt :=
  let L := { L with eng := { L.eng with nextRn := max L.eng.nextRn (n + 1) } }
  if m.origin = me then updTask m.oseq (fun t => { t with rn := t.rn.orElse fun _ => some n }) L
  else if m.oseq < L.eng.numbered.get m.origin then L
  else
    let L := { L with eng := { L.eng with numbered := L.eng.numbered.set m.origin (m.oseq + 1) } }
    if takesPart me L m then
      let t := newTask L m.origin m.pkt m.priv false (Tri.tab (· == me)) none (some n)
      pushTask { t with counted := !remoteFlow t.flow || poolFree L.host.tasks } L
    else L

/-- REPLICATED_PACKET: an unnumbered packet is numbered by the lane that numbers, which announces the number; any other lane waits for
that announcement. -/
def replicated (me : LaneId) (m : ReplMsg) (L : LaneSt) : LaneSt :=
  match m.rn with
  | some n => takeNumbered me m n L
  | none =>
    if L.numbers me && L.eng.numbered.get m.origin ≤ m.oseq then
      let n := L.eng.nextRn
      takeNumbered me m n (send (.packet { m with rn := some n }) L)
    else L

/-! ## Results (01 R41) -/

/-- The open task of a replication number that this lane received. -/
def LaneSt.taskOf (me : LaneId) (L : LaneSt) (rn : Nat) : Option Task :=
  L.host.tasks.find? fun t => t.origin == me && t.rn == some rn && !t.done

/-- LANE_RESULT_REPORT. -/
def resultReport (me from_ : LaneId) (rn : Nat) (r : LaneRes) (L : LaneSt) : LaneSt :=
  match L.taskOf me rn with
  | some t => if t.part.get from_ then noteResult me t.tid from_ r L else L
  | none => L

def execLaneResultReport (l : LaneId) (from_ : LaneId) (rn : Nat) (r : LaneRes) (s : State) : Out :=
  onLaneIf l (fun L => L.running || L.start.bist.isSome) (resultReport l from_ rn r) s

/-- Does a command's completion wait for something that its rule lets take longer than LANE_REPLY_WAIT: a store (09 R320), or the
self-tests of START_BIST (11 R370)? -/
def waitsForStore (L : LaneSt) (t : Task) : Bool :=
  (t.pkt.opcode == 0x0B03 && t.rn.isSome) || L.host.storing.isSome && (L.host.storeTid == some t.tid || L.host.commitTid == some t.tid)

/-- The commit that a task holds on this lane is given up; one that has not been told to apply is forgotten. -/
def dropCommit (tid : Nat) (L : LaneSt) : LaneSt :=
  if L.host.commitTid == some tid then
    let h := L.host
    { L with host := { h with commitTid := none, learnCommit := false, prepOpen := none,
                              applyWant := if h.applyGen.isNone then none else h.applyWant } }
  else L

/-- LANE_REPLY_WAIT_EXPIRY: the completion is written with what has been reported. Elsewhere, a commit that some other lane refused
ends here too. -/
def replyExpiry (me : LaneId) (tid : Nat) (L : LaneSt) : LaneSt :=
  match L.task tid with
  | some t =>
    if t.done || t.isLocal || t.delayed || waitsForStore L t then L
    else if t.origin = me then closeTask me t.tid (dropCommit t.tid L)
    else if L.host.commitTid == some t.tid then dropTask t.tid (dropCommit t.tid L)
    else L
  | none => L

def execLaneReplyWaitExpiry (l : LaneId) (tid : Nat) (s : State) : Out := onLaneIf l LaneSt.running (replyExpiry l tid) s

/-! ## Timers of the host engine -/

/-- Close the transaction and discard what it staged (09 R319). -/
def closeTrans (L : LaneSt) : LaneSt := { L with host := { L.host with trans := none } }

/-- HOST_CFG_TIMEOUT. -/
def execHostCfgTimeout (l : LaneId) (s : State) : Out := onLaneIf l LaneSt.running closeTrans s

/-- A claim ends (01 R55): OWNER returns to the configured host, and a change of OWNER closes an open transaction
(09 R319). -/
def endClaim (L : LaneSt) : LaneSt :=
  match L.eng.claim with
  | some h =>
    let K := { L with eng := { L.eng with claim := none } }
    if (K.priv h).covers .owner then K else closeTrans K
  | none => L

/-- LANE_CLAIM_TIMEOUT. -/
def execLaneClaimTimeout (l : LaneId) (s : State) : Out := onLaneIf l LaneSt.running endClaim s

/-- CLAIM_LOCKOUT_END: the lockout of a host ends (01 R54). DESIGN CHOICE (log entry 67): its count starts again at 0, although wrong keys
before the lockout may lie within 10 minutes. -/
def endLockout (h : Sender) (L : LaneSt) : LaneSt :=
  { L with eng := { L.eng with claimCount := L.eng.claimCount.map fun k =>
      if k.host = h && k.locked then { k with times := [], locked := false } else k } }

def execClaimLockoutEnd (l : LaneId) (h : Sender) (s : State) : Out := onLaneIf l LaneSt.running (endLockout h) s

end Sys2Proof.Machine
end

