-- ==== Sys2Proof/Machine/OxNodes.lean ====
section
/-! DEFINITION. The Ox nodes: the node record (03 Table 3-1) and what each node type computes in one execution
(03 R95–R125, Tables 3-2 to 3-6).
Log entries: 27, 75 (DEDUCED); 3, 28, 71, 76 (DESIGN CHOICE). -/

namespace Sys2Proof.Machine

/-! ## Records -/

/-- An input reference (03 Table 3-3), and whether its reserved bits are 0. -/
def InRef.ofHalf (h : Half) : InRef :=
  { node := h.setWidth 8, word := (h >>> 8).setWidth 2, delay := h.getLsbD 10, connected := h.getLsbD 11 }

def InRef.toHalf (r : InRef) : Half :=
  BitVec.ofNat 16 (r.node.toNat + 256 * r.word.toNat + 1024 * b2n r.delay + 2048 * b2n r.connected)

/-- A node record from its 64 bytes (03 Table 3-1). -/
def NodeRec.ofBytes (b : List Byte) : NodeRec :=
  let b1 := byteAt b 1
  let b2 := byteAt b 2
  { typ := byteAt b 0, part := b1.setWidth 2, tracked := b1.getLsbD 2, trackIdx := (b1 >>> 3).setWidth 3,
    muleScaled := b1.getLsbD 6, arbiter := b1.getLsbD 7, nin := b2.setWidth 4, mode := (b2 >>> 4).setWidth 4,
    inUse := (byteAt b 3).setWidth 4, ins := (List.range 8).map fun i => InRef.ofHalf (rd16 b (4 + 2 * i)),
    attr := rd32 b 20, ps := (List.range 8).map fun i => rd32 b (24 + 4 * i), tblBase := rd16 b 56, tblLen := rd16 b 58 }

/-- Byte 1 of a record: PART, TRACKED, TRACK_IDX, MULE_SCALED, ARBITER. -/
def NodeRec.byte1 (r : NodeRec) : Byte :=
  BitVec.ofNat 8 (r.part.toNat + 4 * b2n r.tracked + 8 * r.trackIdx.toNat + 64 * b2n r.muleScaled + 128 * b2n r.arbiter)

/-- The 64 bytes of a record. -/
def NodeRec.bytes (r : NodeRec) : List Byte :=
  [r.typ, r.byte1, BitVec.ofNat 8 (r.nin.toNat + 16 * r.mode.toNat), r.inUse.setWidth 8]
  ++ ((List.range 8).map fun i => le16 ((r.ins.getD i {}).toHalf)).flatten ++ le32 r.attr
  ++ ((List.range 8).map fun i => le32 (r.ps.getD i 0)).flatten ++ le16 r.tblBase ++ le16 r.tblLen ++ zeros 4

/-- Are the reserved bits of a record 0 (11 R347)? Byte 60 carries NODE in a load block only. -/
def recReservedOk (b : List Byte) : Bool :=
  (byteAt b 3).toNat < 16 && ((List.range 8).all fun i => (rd16 b (4 + 2 * i)).toNat < 4096) && zerosAt b 61 3

def NodeRec.empty : NodeRec := {}

/-- The record of a node number; an empty slot is not listed (03 R101). -/
def Conf.node (c : Conf) (n : Nat) : NodeRec := Store.read NodeRec.empty c.graph n

def NodeRec.p (r : NodeRec) (i : Nat) : Word := r.ps.getD i 0
def NodeRec.pI (r : NodeRec) (i : Nat) : Int := (r.p i).toInt
def NodeRec.input (r : NodeRec) (i : Nat) : InRef := r.ins.getD i {}
/-- A slot in the input span that is connected (03 R101). -/
def NodeRec.conn (r : NodeRec) (i : Nat) : Bool := i < r.nin.toNat && (r.input i).connected
def NodeRec.kind (r : NodeRec) : Nat := fieldOf r.attr 0 8

/-- The node types (03 Table 3-2). -/
def tSrc : Nat := 0x01
def tSink : Nat := 0x03
def tPi : Nat := 0x07
def tPid : Nat := 0x08
def tMinsel : Nat := 0x0B
def tMaxsel : Nat := 0x0C
def tFriction : Nat := 0x12
def tCogging : Nat := 0x13
def tIpark : Nat := 0x16
def tSvm : Nat := 0x17
def tObserver : Nat := 0x18

def NodeRec.t (r : NodeRec) : Nat := r.typ.toNat
def NodeRec.isPi (r : NodeRec) : Bool := r.t == tPi || r.t == tPid

/-! ## Values -/

def Outs.get (o : Outs) (w : Nat) : Word := match w with
  | 0 => o.o1 | 1 => o.o2 | 2 => o.o3 | _ => o.o4

/-- What an execution has to work with: the graph and tables, the device quantities of the SRC kinds, and the lane's
states that rules name. -/
structure OxEnv where
  conf : Conf
  poisonedTable : List Nat
  badNodes : List Nat := []
  part : Nat
  ia : Word := 0
  ib : Word := 0
  vlnk : Word := 0
  aux1 : Word := 0
  aux2 : Word := 0
  ntc : Word := 0
  tqShare : Word := 0
  votedPos : Word := 0
  votedPosOk : Bool := false
  votedSpd : Word := 0
  votedSpdOk : Bool := false
  obsElec : Word := 0
  obsMech : Word := 0
  obsSpeed : Word := 0
  obsValid : Bool := false
  coltEffort : Word := 0
  mule : Bool := false
  ss1 : Option Ss1Run := none
  netHold : Bool := false
  isLead : Bool := false
  depth : Bool := false
  vel : Option VelMode := none
  velBlend : Nat := 0
  now : Word := 0
  deriving DecidableEq, Repr

/-- LANE_MULE_TQ_CAP and LANE_MULE_RATE_SCALE: an SS1 run keeps the values it began with (02 R83). -/
def OxEnv.muleCap (e : OxEnv) : Int := match e.ss1 with
  | some r => r.cap.toInt
  | none => e.conf.int Item.muleTqCap
def OxEnv.muleScale (e : OxEnv) : Int := match e.ss1 with
  | some r => r.scale.toInt
  | none => e.conf.int Item.muleRateScale

/-- 1.0 or 0 (03 R97). -/
def flag (b : Bool) : Word := if b then qOne else 0

/-- A FLAG is true at 0.5 or more (03 R97). -/
def isTrue (w : Word) : Bool := 0x00800000 ≤ w.toInt

/-- The state of a node. -/
def Nodes.st (ns : Nodes) (n : Nat) : NodeSt := Store.read {} ns n

/-- Read an input: the source's value of this execution in the same partition, of the previous one where DELAY is set,
and the visible value in another partition (03 R95, R96). -/
def readIn (e : OxEnv) (old cur : Nodes) (r : NodeRec) (i : Nat) : Word × Bool :=
  let f := r.input i
  let n := f.node.toNat
  let w := f.word.toNat
  let o := if (e.conf.node n).part = r.part then (if f.delay then (Nodes.st old n).cur else (Nodes.st cur n).cur)
           else (Nodes.st cur n).vis
  (o.get w, o.poison.getLsbD w)

/-- An input's value, or its default where it is open. -/
def inOr (e : OxEnv) (old cur : Nodes) (r : NodeRec) (i : Nat) (d : Word) : Word :=
  if r.conn i then (readIn e old cur r i).1 else d

def inI (e : OxEnv) (old cur : Nodes) (r : NodeRec) (i : Nat) : Int := (inOr e old cur r i 0).toInt

/-- Is any connected input of the span poisoned? -/
def anyPoison (e : OxEnv) (old cur : Nodes) (r : NodeRec) : Bool :=
  (List.range r.nin.toNat).any fun i => r.conn i && (readIn e old cur r i).2

/-! ## Integrators and back-calculation -/

/-- s7.40 numbers. -/
def qUnit40 : Int := 1099511627776

/-- Does a number saturate to 48 bits? -/
def sat48d (x : Int) : Bool := x < -140737488355328 || 140737488355327 < x

/-- Saturate to 48 bits. -/
def sat48 (x : Int) : BitVec 48 := BitVec.ofInt 48 (clampI x (-140737488355328) 140737488355327)

/-- An integrator as it is read (03 R99). -/
def integQ (i : BitVec 48) : Word := satQ (roundDiv i.toInt 65536)

/-- The nodes that consume output word 0 of a node in a type, with the input index, in node order. -/
def consumers (c : Conf) (n : Nat) (types : List Nat) : List (Nat × NodeRec × Nat) :=
  (c.graph.filter fun p => types.contains p.2.t).filterMap fun (p : Nat × NodeRec) =>
    match (List.range p.2.nin.toNat).find? fun i => p.2.conn i && (p.2.input i).node.toNat == n && ((p.2.input i).word == (0 : BitVec 2)) with
    | some i => some (p.1, p.2, i)
    | none => none

/-- The SVMs that an IPARK feeds, lowest number first. -/
def svmOf (c : Conf) (n : Nat) : Option Nat :=
  (c.graph.find? fun p => p.2.t == tSvm && (List.range 2).any fun i => p.2.conn i && (p.2.input i).node.toNat == n).map (·.1)

/-- A consumer's output of its latest execution, as a producer in partition `part` sees it. -/
def lastOut (c : Conf) (old : Nodes) (part : BitVec 2) (n w : Nat) : Int :=
  (if (c.node n).part = part then ((Nodes.st old n).cur.get w) else ((Nodes.st old n).vis.get w)).toInt

/-- The back-calculation term of a PI or PID (03 R108, Table 3-6): `u` and `y` are its own values of the previous
execution. -/
def backCalc (c : Conf) (old : Nodes) (n : Nat) (r : NodeRec) : Int :=
  let s := Nodes.st old n
  let u := s.u.toInt
  let y := s.y.toInt
  let sel := consumers c n [tMinsel, tMaxsel]
  let signed := sel.find? fun x => x.2.1.t == tMaxsel || x.2.1.mode == 0 || x.2.2 == 0
  let mag := sel.find? fun x => x.2.1.t == tMinsel && x.2.1.mode == 1 && x.2.2 != 0
  let ip := (consumers c n [tIpark]).filterMap fun x => if x.2.2 < 2 then (svmOf c x.1) else none
  match signed, mag, ip with
  | some x, _, _ => lastOut c old r.part x.1 0 - u
  | none, some x, _ => absI (lastOut c old r.part x.1 0) - u
  | none, none, v :: _ => mulQ (lastOut c old r.part v 3) y - u
  | none, none, [] => y - u

/-- The ARBITER of the graph (03 R111). -/
def Conf.arbiter (c : Conf) : Option (Nat × NodeRec) :=
  c.graph.find? fun p => (p.2.t == tMinsel || p.2.t == tMaxsel) && p.2.arbiter

/-- Does R110 hold this loop's integration: it won the ARBITER's last execution, and the increment would increase |w|?
A limit input of a MAGNITUDE arbiter is a magnitude, so a larger one increases |w| whatever the sign of w. At w = 0 the pseudocode, by signs,
integrates, and the rule's words, by |w|, hold: the model holds (DESIGN CHOICE, log entry 71). -/
def heldByDepth (c : Conf) (old : Nodes) (n : Nat) (r : NodeRec) (dI : Int) : Bool :=
  match c.arbiter with
  | some (a, ar) =>
    let win := (lastOut c old r.part a 1 / qUnit).toNat
    let w := lastOut c old r.part a 0
    ar.conn win && (ar.input win).node.toNat == n && (ar.input win).word == 0
      && (if ar.mode == 1 && win != 0 then 0 < dI else dI != 0 && (w == 0 || signI dI == signI w))
  | none => false

/-- PI and PID (03 R106, R107 and the sequence above them). The spec does not say whether bc of Table 3-6 saturates before KBT × bc: the
integration takes the exact difference, which the node keeps in the 40 bits of R98, and a PROBE saturates it (DESIGN CHOICE, log entry 71). `kpOld` is the KP before a commit (03 R121, 04 R141), and h0 holds
the error of the last execution. -/
def evalPi (e : OxEnv) (old cur : Nodes) (n : Nat) (r : NodeRec) : NodeSt :=
  let s := Nodes.st old n
  let pid := r.t == tPid
  let q := fun i => inI e old cur r i
  let err := q 0
  let kp := r.pI 0
  let ki := r.pI 1
  let kbt := if pid then r.pI 4 else r.pI 2
  let hi := if pid then r.pI 5 else r.pI 3
  let lo := if pid then r.pI 6 else r.pI 4
  let ihi := if pid then hi else r.pI 5
  let ilo := if pid then lo else r.pI 6
  let pRaw := mulQ kp err
  let p := (satQ pRaw).toInt
  let ff := q 5
  let x := if r.conn 6 && pid then q 6 else err
  let sgn : Int := if r.conn 6 && pid then -1 else 1
  let xPrev := if s.first then x else s.xPrev.toInt
  let d0 := s.d.toInt
  let dRaw := if pid then
      roundDiv (d0 * qUnit * qUnit + r.pI 3 * (sgn * r.pI 2 * (x - xPrev) - d0 * qUnit)) (qUnit * qUnit)
    else 0
  let d := (satQ dRaw).toInt
  let bc := if s.first then 0 else backCalc e.conf old n r
  let setTo := fun (target : Int) => (target - p - d - ff) * 65536
  let dIraw := roundDiv (ki * err) 256
  let dI := (sat48 dIraw).toInt
  let dI' := if e.depth && heldByDepth e.conf old n r dI then 0 else dI
  let i0 : Int := match s.kpOld with
    | some k => s.integ.toInt + roundDiv ((k.toInt - kp) * s.h0.toInt) 256
    | none => s.integ.toInt
  let iRaw : Int :=
    match s.devPreset, s.herdSet with
    | some t, _ => setTo t.toInt
    | none, some i => i.toInt * 65536
    | none, none =>
      if r.conn 1 && isTrue (inOr e old cur r 1 0) then setTo (q 2)
      else match s.manual with
      | some m => setTo m.toInt
      | none =>
        if r.conn 3 && isTrue (inOr e old cur r 3 0) then setTo (q 4)
        else i0 + dI' + roundDiv (kbt * bc) 256
  let i := sat48 (clampI (sat48 iRaw).toInt (ilo * 65536) (ihi * 65536))
  let uRaw := p + (integQ i).toInt + d + ff
  let u := satQ uRaw
  let y := match s.manual with
    | some m => m
    | none => satQ (clampI u.toInt lo hi)
  { s with cur := { s.cur with o1 := y, poison := 0 }, integ := i,
           sat := s.sat || satQd pRaw || satQd dRaw || sat48d dIraw || sat48d iRaw || satQd uRaw,
           d := satQ d, xPrev := satQ x, p := satQ p, ff := satQ ff, u := u, y := y, bc := BitVec.ofInt 40 bc,
           h0 := satQ err, kpOld := none, devPreset := none, herdSet := if s.devPreset.isSome then s.herdSet else none, first := false }

/-! ## Selection -/

/-- The lowest (or highest) of the inputs and its index, ties to the lowest index (03 R109). -/
def selFold (better : Int → Int → Bool) (vs : List Int) : Int × Nat :=
  match vs with
  | [] => (0, 0)
  | v :: rest => (rest.foldl (fun (a : (Int × Nat) × Nat) x => if better x a.1.1 then ((x, a.2 + 1), a.2 + 1) else (a.1, a.2 + 1))
      ((v, 0), 0)).1

/-- MINSEL and MAXSEL: the value before the clamp and the winner. -/
def selRaw (r : NodeRec) (vs : List Int) : Int × Nat :=
  if r.t = tMaxsel then selFold (fun x y => decide (y < x)) vs
  else if r.mode = 1 then
    match vs with
    | [] => (0, 0)
    | v :: rest =>
      let (m, win) := selFold (fun x y => decide (x < y)) ((satQ (absI v)).toInt :: rest.map fun x => if x < 0 then 0 else x)
      (signI v * m, win)
  else selFold (fun x y => decide (x < y)) vs

def evalSel (e : OxEnv) (old cur : Nodes) (r : NodeRec) : Outs × Bool :=
  let vs := (List.range r.nin.toNat).map fun i => inI e old cur r i
  let (w, win) := selRaw r vs
  let full := r.t == tMinsel && r.mode == 1 && (vs.head?.any fun v => satQd (absI v))
  let cap := e.muleCap
  let lim := fun x => if r.arbiter && e.mule then clampI x (-cap) cap else x
  let out := clampI w (lim (r.pI 1)) (lim (r.pI 0))
  ({ o1 := satQ out, o2 := satQ (win * qUnit) }, full)

/-! ## Tables -/

/-- Interpolate between table entries i and j at the fraction num / den: evaluated exactly, rounded once (03 R116). -/
def interp (c : Conf) (base i j : Nat) (num den : Int) : Int :=
  let a := (Store.read 0 c.table (base + i)).toInt
  let b := (Store.read 0 c.table (base + j)).toInt
  roundDiv (a * den + num * (b - a)) den

/-- Index and fraction of a position given in 1/2⁴⁰ entry, for a table of `len` entries, clamped at both ends. -/
def tableAt (x40 : Int) (len : Nat) : Nat × Int :=
  let x := clampI x40 0 ((len - 1 : Nat) * qUnit40)
  let i := min (x / qUnit40).toNat (len - 2)
  (i, x - i * qUnit40)

/-- TABLE, FRICTION and COGGING: the value, and the two entries read. -/
def evalTable (e : OxEnv) (old cur : Nodes) (r : NodeRec) : Int × Nat × Nat :=
  let base := r.tblBase.toNat
  if r.t = tCogging then
    let th := inOr e old cur r 0 0
    let i := fieldOf th 22 10
    let j := (i + 1) % 1024
    (interp e.conf base i j (fieldOf th 0 22) 4194304, base + i, base + j)
  else
    let len := if r.t = tFriction then 256 else r.tblLen.toNat
    let (i, f) := tableAt ((inI e old cur r 0 - r.pI 0) * (r.p 1).toNat) len
    let v := interp e.conf base i (i + 1) f qUnit40
    let v := if r.t = tFriction then
        mulQ (satQ v).toInt (clampI (quotQ (inI e old cur r 1) (r.pI 2)) (-qUnit) qUnit)
      else v
    (v, base + i, base + i + 1)

/-! ## CLARKE and SVM: irrational factors rounded once (03 R98) -/

/-- n / √3, to the nearest. -/
def overRoot3 (n : Int) : Int :=
  let r : Int := (isqrt (4 * n.natAbs * n.natAbs / 3) + 1) / 2
  if n < 0 then -r else r

/-- ⌊√3 · b⌋. -/
def floorRoot3 (b : Int) : Int :=
  let s : Int := isqrt (3 * b.natAbs * b.natAbs)
  if b < 0 then -s - 1 else s

/-- (−a + √3 b) / 2 to the nearest. -/
def halfRoot (a b : Int) : Int := if b = 0 then roundDiv (-a) 2 else (1 - a + floorRoot3 b) / 2

/-- SVM (03 R112): the duties and k, and whether vb or vc saturates. d_min = 2 t_win / T, with t_win in 10 ns and T in 5 ns. -/
def evalSvm (e : OxEnv) (va_ vb_ vdc : Int) : Outs × Bool :=
  let n : Int := 4 * e.conf.nat Item.tWin
  let den : Int := e.conf.nat Item.pwmTop
  let lo := -((-(n * qUnit)) / den)
  let hi := qUnit - lo
  let cl := fun x => satQ (clampI x lo hi)
  let half := qUnit / 2
  let vb0 := halfRoot va_ vb_
  let vc0 := halfRoot va_ (-vb_)
  let st := satQd vb0 || satQd vc0
  if vdc ≤ 0 then ({ o1 := cl half, o2 := cl half, o3 := cl half, o4 := 0 }, st)
  else
    let va := va_
    let vb := (satQ vb0).toInt
    let vc := (satQ vc0).toInt
    let vmax := max va (max vb vc)
    let vmin := min va (min vb vc)
    let span := vmax - vmin
    let avail := roundDiv (vdc * (den - 2 * n)) den
    let k := if avail < span then avail * qUnit / span else qUnit
    let mid := (satQ (roundDiv (vmax + vmin) 2)).toInt
    let d := fun v => cl (roundDiv (half * vdc + k * (v - mid)) vdc)
    ({ o1 := d va, o2 := d vb, o3 := d vc, o4 := satQ k }, st)

/-! ## Sources -/

/-- n_ref after `t` medium periods (02 R76): max(0, |n0| − LANE_SS1_DECEL × t), rounded once. -/
def nRef (c : Conf) (decel n0 : Int) (t : Nat) : Int :=
  let per25 : Int := c.tf25 * c.nat Item.medDiv
  max 0 (absI n0 - roundDiv (decel * t * per25) 400000000)

/-- HOST_SP (03 R122–R124). During SS1 it keeps its last value, stale or not (03 R125). A value written between the activation and the first
execution is taken in that execution, with FRESH 1: the spec states both that and the start at DEFAULT (03 R117, R123), and this is the
model's choice (DESIGN CHOICE, log entry 71). -/
def evalHostSp (e : OxEnv) (r : NodeRec) (s : NodeSt) : NodeSt :=
  let s := match s.spNew with
    | some v => { s with spVal := v, spFresh := true, spNew := none }
    | none => if s.first then { s with spVal := r.p 1, spFresh := false } else s
  let out := if e.ss1.isSome && !s.first then s.cur.o1 else if s.spFresh || r.mode = 0 then s.spVal else r.p 1
  { s with cur := { o1 := out, o2 := flag s.spFresh }, first := false }

/-- What SS1_REF takes for in0: the host velocity value or the blend back from it (05 R189). -/
def velIn (e : OxEnv) (x : Word) : Word :=
  match e.vel with
  | none => x
  | some ⟨none, none⟩ => x
  | some ⟨some v, none⟩ => v
  | some ⟨_, some (k, f)⟩ =>
    if e.velBlend ≤ k then x else satQ (roundDiv (f.toInt * e.velBlend + k * (x.toInt - f.toInt)) e.velBlend)

/-- SS1_REF (02 R76, 03 R125): h0 holds n0 and h1 the sampled speed. -/
def evalSs1Ref (e : OxEnv) (old cur : Nodes) (r : NodeRec) (s : NodeSt) : NodeSt :=
  let n := inOr e old cur r 1 0
  match e.ss1 with
  | none => { s with cur := { o1 := velIn e (inOr e old cur r 0 0) }, h1 := n, first := false }
  | some run =>
    let n0 := run.n0.getD n
    let t := if run.n0.isSome then run.t + 1 else 0
    let out := signI n0.toInt * nRef e.conf run.decel.toInt n0.toInt t
    { s with cur := { o1 := satQ out }, h0 := n0, h1 := n, first := false }

/-- The value of a SRC kind (03 Table 3-4). -/
def srcOuts (e : OxEnv) (r : NodeRec) (first : Bool) : Outs :=
  match r.kind with
  | 0x03 => { o1 := e.ia }
  | 0x04 => { o1 := e.ib }
  | 0x05 => { o1 := e.vlnk }
  | 0x06 => { o1 := e.aux1 }
  | 0x07 => { o1 := e.aux2 }
  | 0x08 => { o1 := e.ntc }
  | 0x09 => { o1 := e.tqShare }
  | 0x0A => { o1 := e.votedPos, o2 := flag e.votedPosOk }
  | 0x0B => { o1 := e.votedSpd, o2 := flag e.votedSpdOk }
  | 0x0C => { o1 := e.coltEffort }
  | 0x0D => { o1 := flag first }
  | _ => { o1 := flag (match (r.p 0).toNat with
      | 0 => e.mule | 1 => e.ss1.isSome | 2 => e.netHold | 3 => e.isLead | _ => e.depth) }

/-! ## Logic and small nodes -/

/-- COMPARE's condition, with hysteresis while the output is 1.0 (03 R114). -/
def cmpCond (mode : BitVec 4) (a b h : Int) (on : Bool) : Bool :=
  let hh := if on then h else 0
  match mode.toNat with
  | 0 => b - hh < a
  | 1 => a < b + hh
  | 2 => b - hh < absI a
  | _ => absI a < b + hh

def evalCompare (e : OxEnv) (old cur : Nodes) (r : NodeRec) (s : NodeSt) : NodeSt :=
  let b := (inOr e old cur r 1 (r.p 0)).toInt
  let on := s.cur.o1 != 0
  let c := cmpCond r.mode (inI e old cur r 0) b (r.pI 1) (on && !s.first)
  if s.first then { s with cur := { o1 := flag c }, cnt := 0, first := false }
  else if c = on then { s with cur := { s.cur with poison := 0 }, cnt := 0 }
  else if (r.p 2).toNat ≤ s.cnt + 1 then { s with cur := { o1 := flag c }, cnt := 0 }
  else { s with cur := { s.cur with poison := 0 }, cnt := s.cnt + 1 }

def evalLatch (e : OxEnv) (old cur : Nodes) (r : NodeRec) (s : NodeSt) : NodeSt :=
  let held := if s.first then r.p 0 else s.cur.o1
  let v := if isTrue (inOr e old cur r 1 0) then 0 else if isTrue (inOr e old cur r 0 0) then qOne else held
  { s with cur := { o1 := v }, first := false }

def evalRate (e : OxEnv) (old cur : Nodes) (r : NodeRec) (s : NodeSt) : NodeSt :=
  let x := inI e old cur r 0
  if s.first then { s with cur := { o1 := inOr e old cur r 1 (inOr e old cur r 0 0) }, first := false }
  else
    let sc := fun v => if r.muleScaled && e.mule then mulQ v e.muleScale else v
    let y := s.cur.o1.toInt
    let v := y + clampI (x - y) (-(sc (r.pI 1))) (sc (r.pI 0))
    { s with cur := { o1 := satQ v }, sat := s.sat || satQd v }

/-- SELECT (03 R113): h0 holds the value a blend starts from, h1 the selection. -/
def evalSelect (e : OxEnv) (old cur : Nodes) (r : NodeRec) (s : NodeSt) : NodeSt :=
  let sel := (clampI (inI e old cur r 0 / qUnit) 0 (r.nin.toNat - 2)).toNat
  let x := inI e old cur r (sel + 1)
  let tr := (r.p 0).toNat
  let s1 := if s.first then { s with h1 := BitVec.ofNat 32 sel, cnt := tr, first := false }
    else if s.h1.toNat ≠ sel then { s with h0 := s.cur.o1, h1 := BitVec.ofNat 32 sel, cnt := 0 }
    else s
  if tr = 0 || tr ≤ s1.cnt then { s1 with cur := { o1 := satQ x } }
  else
    let k := s1.cnt + 1
    let f := s1.h0.toInt
    { s1 with cnt := k, cur := { o1 := satQ (roundDiv (f * tr + k * (x - f)) tr) } }

def evalBiquad (e : OxEnv) (old cur : Nodes) (r : NodeRec) (s : NodeSt) : NodeSt :=
  let w := inOr e old cur r 0 0
  if s.first then { s with cur := { o1 := w }, h0 := w, h1 := w, h2 := w, h3 := w, first := false }
  else
    let v := roundDiv (r.pI 0 * w.toInt + r.pI 1 * s.h0.toInt + r.pI 2 * s.h1.toInt - r.pI 3 * s.h2.toInt - r.pI 4 * s.h3.toInt) qUnit
    { s with cur := { o1 := satQ v }, sat := s.sat || satQd v, h0 := w, h1 := s.h0, h2 := satQ v, h3 := s.h2 }

/-- The sum of a SUM node (03 Table 3-2): a subtract mask in ATTR[7:0]. -/
def evalSum (e : OxEnv) (old cur : Nodes) (r : NodeRec) : Word × Bool :=
  let terms := (List.range r.nin.toNat).map fun i =>
    let v := inOr e old cur r i 0
    (r.attr.getLsbD i, v)
  if r.mode = 1 then (terms.foldl (fun a t => if t.1 then a - t.2 else a + t.2) 0, false)
  else
    let v := terms.foldl (fun (a : Int) t => if t.1 then a - t.2.toInt else a + t.2.toInt) 0
    (satQ v, satQd v)

/-- A PROBE's value (03 Table 3-2): modes 1 and 2 read a state of the PI or PID that drives in0; where another type
drives it the manual gives no value, and it is free. The state is read as in0 is: of this execution, of the previous one where DELAY is set,
and as visible in another partition (03 R95, R96). -/
def probeValue (e : OxEnv) (old cur : Nodes) (r : NodeRec) : Int :=
  let n := (r.input 0).node.toNat
  let pr := e.conf.node n
  let s := Nodes.st (if pr.part = r.part && (r.input 0).delay then old else cur) n
  let x := if pr.part = r.part then (s.integ, s.bc) else (s.visInteg, s.visBc)
  if r.mode = 0 then inI e old cur r 0
  else if pr.isPi then (if r.mode = 1 then (integQ x.1).toInt else x.2.toInt)
  else (Config.probeOther (inOr e old cur r 0 0)).toInt

/-- Is an output word computed (04 R149)? One whose IN_USE is clear saturates nothing; nothing can read its value. -/
def NodeRec.uses (r : NodeRec) (w : Nat) : Bool := r.inUse.getLsbD w

/-- Two outputs from Ints before saturation. -/
def out2 (r : NodeRec) (s : NodeSt) (a b : Int) : NodeSt :=
  { s with cur := { o1 := satQ a, o2 := satQ b }, sat := s.sat || (r.uses 0 && satQd a) || (r.uses 1 && satQd b), first := false }

def out1 (r : NodeRec) (s : NodeSt) (a : Int) : NodeSt :=
  { s with cur := { o1 := satQ a }, sat := s.sat || (r.uses 0 && satQd a), first := false }

/-- One execution of a node with unpoisoned inputs. -/
def evalNode (e : OxEnv) (old cur : Nodes) (n : Nat) (r : NodeRec) : NodeSt :=
  let s := Nodes.st old n
  let q := fun i => inI e old cur r i
  match r.t with
  | 0x01 =>
    if r.kind = 0x01 then evalHostSp e r s
    else if r.kind = 0x02 then evalSs1Ref e old cur r s
    else { s with cur := srcOuts e r s.first, first := false }
  | 0x02 => { s with cur := { o1 := r.p 0 }, first := false }
  | 0x03 => { s with h0 := inOr e old cur r 0 0, h1 := inOr e old cur r 1 0, h2 := inOr e old cur r 2 0, cur := {}, first := false }
  | 0x04 => out1 r s (mulQ (r.pI 0) (q 0))
  | 0x05 =>
    let (v, st) := evalSum e old cur r
    { s with cur := { o1 := v }, sat := s.sat || (r.uses 0 && st), first := false }
  | 0x06 => out1 r s (mulQ (q 0) (q 1))
  | 0x07 => evalPi e old cur n r
  | 0x08 => evalPi e old cur n r
  | 0x09 =>
    let hi := (inOr e old cur r 1 (r.p 0)).toInt
    let lo := (inOr e old cur r 2 (r.p 1)).toInt
    out1 r s (if hi < lo then lo else clampI (q 0) lo hi)
  | 0x0A => evalRate e old cur r s
  | 0x0B =>
    let (o, st) := evalSel e old cur r
    { s with cur := o, sat := s.sat || (r.uses 0 && st), first := false }
  | 0x0C =>
    let (o, st) := evalSel e old cur r
    { s with cur := o, sat := s.sat || (r.uses 0 && st), first := false }
  | 0x0D => evalSelect e old cur r s
  | 0x0E =>
    if s.first then { s with cur := { o1 := inOr e old cur r 0 0 }, first := false }
    else
      let y := s.cur.o1.toInt
      let v := roundDiv (y * qUnit + r.pI 0 * (q 0 - y)) qUnit
      { s with cur := { o1 := satQ v }, sat := s.sat || satQd v }
  | 0x0F => evalBiquad e old cur r s
  | 0x10 =>
    let x := q 0
    out1 r s (if absI x ≤ r.pI 0 then 0 else x - signI x * r.pI 0)
  | 0x14 => out2 r s (q 0) (overRoot3 (q 0 + 2 * q 1))
  | 0x15 =>
    let th := inOr e old cur r 2 0
    out2 r s (roundDiv (q 0 * cosQ th + q 1 * sinQ th) qUnit) (roundDiv (-(q 0) * sinQ th + q 1 * cosQ th) qUnit)
  | 0x16 =>
    let th := inOr e old cur r 2 0
    out2 r s (roundDiv (q 0 * cosQ th - q 1 * sinQ th) qUnit) (roundDiv (q 0 * sinQ th + q 1 * cosQ th) qUnit)
  | 0x17 =>
    let (o, st) := evalSvm e (q 0) (q 1) (q 2)
    { s with cur := o, sat := s.sat || st, first := false }
  | 0x18 => { s with cur := { o1 := e.obsElec, o2 := e.obsMech, o3 := e.obsSpeed, o4 := flag e.obsValid }, first := false }
  | 0x19 => evalCompare e old cur r s
  | 0x1A => evalLatch e old cur r s
  | 0x1B => out1 r s (probeValue e old cur r)
  | _ =>
    let (v, i, j) := evalTable e old cur r
    if e.poisonedTable.contains i || e.poisonedTable.contains j then { s with cur := { s.cur with poison := 0xF } }
    else
      let qs := r.t == tFriction && quotSat (q 1) (r.pI 2)
      out1 r { s with sat := s.sat || (r.uses 0 && qs) } v

/-- One execution of a node: a poisoned input, or a poisoned word of its record, poisons its outputs, and its state words are not updated (12
R381; log entry 76). For a sink the poison marks what it was given. -/
def stepNode (e : OxEnv) (old cur : Nodes) (n : Nat) : Nodes :=
  let r := e.conf.node n
  let s := Nodes.st old n
  let s' := if e.badNodes.contains n || anyPoison e old cur r then { s with cur := { s.cur with poison := 0xF } } else evalNode e old cur n r
  Store.write {} cur n s'

/-- One execution of a partition: its nodes in the loader's order (03 R95). -/
def runNodes (e : OxEnv) (order : List Nat) (ns : Nodes) : Nodes :=
  (order.filter fun n => (e.conf.node n).part.toNat == e.part).foldl (fun cur n => stepNode e ns cur n) ns

/-- The results of completed executions become visible to other partitions (03 R96). -/
def showPart (c : Conf) (part : Nat) (ns : Nodes) : Nodes :=
  ns.map fun p => if (c.node p.1).part.toNat = part then (p.1, { p.2 with vis := p.2.cur, visInteg := p.2.integ, visBc := p.2.bc }) else p

/-- The states a graph starts from at its activation (03 R117, R120). -/
def freshNodes (c : Conf) : Nodes := (c.graph.map (·.1)).foldl (fun ns n => Store.write {} ns n {}) []

end Sys2Proof.Machine
end

