-- ==== Sys2Proof/Machine/OxGraph.lean ====
section
/-! DEFINITION. Loading a graph: the loader's order (03 R95), the refusal reasons of 03 Table 3-9 and the timing check of
04 R138, R139.
Log entries: 71 (DESIGN CHOICE). -/

namespace Sys2Proof.Machine

/-! ## Ports -/

/-- The existing output words of a node, and whether each is a TURNS port (03 Tables 3-2, 3-4). -/
def NodeRec.outs (r : NodeRec) : List Bool :=
  match r.t with
  | 0x01 => match r.kind with
    | 0x01 => [false, false] | 0x0A => [true, false] | 0x0B => [false, false] | _ => [false]
  | 0x02 => [r.mode == 1]
  | 0x03 => []
  | 0x05 => [r.mode == 1]
  | 0x0B => [false, false] | 0x0C => [false, false] | 0x14 => [false, false] | 0x15 => [false, false] | 0x16 => [false, false]
  | 0x17 => [false, false, false, false]
  | 0x18 => [true, true, false, false]
  | _ => [false]

/-- Is an input a TURNS port (03 Table 3-2)? Tables 3-2 and 3-5 give no type to in0 and out of a PROBE, the inputs of a SELECT and in0 of the
PUBLISH and STATUS sinks: the model takes them as Q (DESIGN CHOICE, log entry 71). -/
def NodeRec.turnsIn (r : NodeRec) (i : Nat) : Bool :=
  match r.t with
  | 0x05 => r.mode == 1 | 0x13 => i == 0 | 0x15 => i == 2 | 0x16 => i == 2 | _ => false

/-- The inputs a type has (03 Tables 3-2, 3-4, 3-5). -/
def NodeRec.maxIn (r : NodeRec) : Nat :=
  match r.t with
  | 0x01 => if r.kind = 0x02 then 2 else 0
  | 0x02 => 0
  | 0x03 => if r.kind = 0x02 then 3 else 1
  | 0x04 => 1 | 0x05 => 8 | 0x06 => 2 | 0x07 => 6 | 0x08 => 7 | 0x09 => 3 | 0x0A => 2 | 0x0B => 8 | 0x0C => 8 | 0x0D => 8
  | 0x12 => 2 | 0x14 => 2 | 0x15 => 3 | 0x16 => 3 | 0x17 => 3 | 0x18 => 0 | 0x19 => 2 | 0x1A => 2
  | _ => 1

/-- The inputs counted by NIN, which are not optional (03 R101), and the least span they need. -/
def NodeRec.counted (r : NodeRec) : Bool := r.t == 0x05 || r.t == tMinsel || r.t == tMaxsel || r.t == 0x0D
def NodeRec.minSpan (r : NodeRec) : Nat := if r.t == 0x0D then 2 else 1

/-- Must an input be connected (03 Table 3-2)? -/
def NodeRec.required (r : NodeRec) (i : Nat) : Bool :=
  if r.counted then i < max r.nin.toNat r.minSpan
  else match r.t with
    | 0x07 => i == 0 | 0x08 => i == 0 | 0x09 => i == 0 | 0x0A => i == 0 | 0x19 => i == 0
    | _ => i < r.maxIn

/-! ## Order -/

/-- The nodes a node reads in the same partition without DELAY (03 R95). -/
def Conf.deps (c : Conf) (r : NodeRec) : List Nat :=
  (List.range 8).filterMap fun i =>
    let f := r.input i
    if r.conn i && !f.delay && (c.node f.node.toNat).part == r.part then some f.node.toNat else none

/-- Take the lowest node whose sources have been taken, as often as there is one: the order, and the nodes left. Which of the nodes that are
ready together comes first R95 does not say, and the TIME check of signature mode depends on it (DESIGN CHOICE, log entry 71). -/
def kahn (deps : Nat → List Nat) : Nat → List Nat → List Nat → List Nat × List Nat
  | 0, left, acc => (acc.reverse, left)
  | k + 1, left, acc =>
    match left.find? fun n => (deps n).all fun d => !left.contains d with
    | some n => kahn deps k (left.filter (· != n)) (n :: acc)
    | none => (acc.reverse, left)

/-- The nodes of a partition, in ascending number. -/
def Conf.partNodes (c : Conf) (p : Nat) : List Nat := (c.graph.filter fun x => x.2.part.toNat == p).map (·.1)

/-- The loader's order of a partition, and the nodes it cannot place. -/
def Conf.loadOrder (c : Conf) (p : Nat) : List Nat × List Nat :=
  let ns := c.partNodes p
  kahn (fun n => c.deps (c.node n)) ns.length ns []

/-- The loader's order of the graph: fast, medium, slow. -/
def Conf.order (c : Conf) : List Nat := (c.loadOrder 0).1 ++ (c.loadOrder 1).1 ++ (c.loadOrder 2).1

/-- The nodes reached from a list through `deps` within a set, in `k` steps. -/
def reach (deps : Nat → List Nat) (within : List Nat) : Nat → List Nat → List Nat
  | 0, seen => seen
  | k + 1, seen =>
    reach deps within k
      (seen ++ ((seen.map fun n => (deps n).filter fun d => within.contains d && !seen.contains d).flatten).eraseDups)

/-! ## Costs and timing -/

/-- CLK_OX cycles of a node (04 Table 4-1). -/
def nodeCost (r : NodeRec) : Nat :=
  match r.t with
  | 0x02 => 4 | 0x05 => 6 + r.nin.toNat | 0x07 => 16 | 0x08 => 24 | 0x0A => 10
  | 0x0B => 8 + 2 * r.nin.toNat | 0x0C => 8 + 2 * r.nin.toNat | 0x0D => 12 | 0x0E => 8 | 0x0F => 20
  | 0x11 => 16 | 0x13 => 16 | 0x12 => 20 | 0x14 => 12 | 0x15 => 24 | 0x16 => 24 | 0x17 => 32 | 0x18 => 16 | 0x19 => 10
  | _ => 6

/-- C_x: the sum of the costs of a partition plus 40 (04 R138, R139). -/
def Conf.costOf (c : Conf) (p : Nat) : Nat := 40 + ((c.partNodes p).map fun n => nodeCost (c.node n)).sum

/-- One pass on two datapaths (04 R139): `fa` and `fb` are when the datapaths are free, `fin` the nodes issued with the
time they are written, `left` the others in loader order. -/
def schedule (deps : Nat → List Nat) (cost : Nat → Nat) : Nat → Nat → Nat → List (Nat × Nat) → List Nat → Nat
  | 0, fa, fb, _, _ => max fa fb
  | k + 1, fa, fb, fin, left =>
    let t := min fa fb
    let ready := fun n => (deps n).all fun d => fin.any fun f => f.1 == d && f.2 ≤ t
    if left.isEmpty then (fin.map (·.2)).foldl max 0
    else match left.find? ready with
    | some n =>
      let e := t + cost n
      let left' := left.filter (· != n)
      if fa ≤ fb then schedule deps cost k e fb ((n, e) :: fin) left'
      else schedule deps cost k fa e ((n, e) :: fin) left'
    | none =>
      let next := (fin.filter fun f => t < f.2).foldl (fun m f => if m = 0 then f.2 else min m f.2) 0
      if fa ≤ fb then schedule deps cost k next fb fin left else schedule deps cost k fa next fin left

/-- P_x (04 R139). -/
def Conf.passOf (c : Conf) (p : Nat) : Nat :=
  let ns := (c.loadOrder p).1
  40 + schedule (fun n => c.deps (c.node n)) (fun n => nodeCost (c.node n)) (3 * ns.length + 3) 0 0 [] ns

/-- Signature mode: 65 fast nodes or more (04 R143). -/
def Conf.signature (c : Conf) : Bool := 64 < (c.partNodes 0).length

/-- The CLK_OX cycles of one execution of a partition with its check (04 R139). -/
def Conf.work (c : Conf) (p : Nat) : Nat :=
  if c.signature then 2 * c.passOf p + 8 else c.costOf p + 2

/-- The end of the fast check in units of 2.5 ns, at a CLK_OX period of `q` such units (04 R139). -/
def Conf.fastEnd25 (c : Conf) (q : Nat) : Nat := 200 + q * c.work 0

/-- Slow executions per medium execution, or the medium executions of a Welor cycle (04 R139). -/
def Conf.slowN (c : Conf) : Nat :=
  if c.nat Item.slowDiv ≠ 0 then c.nat Item.slowDiv else c.nat Item.cycleLen * 400 / (c.tf25 * c.nat Item.medDiv)

/-- The TIME check of a graph under the items of `k` at 100 MHz (04 R139): the offending node, named by the lowest node
of the partition that does not fit. -/
def timeBad (g k : Conf) : Option Nat :=
  let low := fun p => (g.partNodes p).headD 0xFF
  let tf : Int := k.tf25
  let rel : Int := k.nat Item.fastRelease * 40
  let f : Int := g.fastEnd25 4
  let lim := if 0 < rel then rel else tf - 400
  let s := tf - 80 - f
  let med : Int := k.nat Item.medDiv
  let em : Int := 4 * g.work 1
  let es : Int := 4 * g.work 2
  let n : Int := k.slowN
  if tf - 400 < rel || lim < f then some (low 0)
  else if med * s < em then some (low 1)
  else if n * med * s < n * em + es then some (if (g.partNodes 2).isEmpty then low 1 else low 2)
  else none

/-! ## The refusal reasons -/

/-- 0x02: known TYPE, MODE and kind. -/
def typeOk (r : NodeRec) : Bool :=
  match r.t with
  | 0x01 => 1 ≤ r.kind && r.kind ≤ 0x0E && (r.mode == 0 || (r.kind == 1 && r.mode == 1))
  | 0x03 => 1 ≤ r.kind && r.kind ≤ 4 && r.mode == 0
  | 0x02 => r.mode.toNat ≤ 1
  | 0x05 => r.mode.toNat ≤ 1
  | 0x0B => r.mode.toNat ≤ 1
  | 0x19 => r.mode.toNat ≤ 3
  | 0x1B => r.mode.toNat ≤ 2
  | t => 0x04 ≤ t && t ≤ 0x1A && r.mode == 0

/-- SS1_REF's in1: out of VOTED_SPEED or out3 of OBSERVER (03 R125). -/
def ss1InOk (c : Conf) (r : NodeRec) : Bool :=
  let f := r.input 1
  let p := c.node f.node.toNat
  (p.t == tSrc && p.kind == 0x0B && f.word == 0) || (p.t == tObserver && f.word == 2)

/-- 0x03. Table 3-9 names an input open within the span: a required input at or above NIN, a SUM, MINSEL or MAXSEL with NIN 0 and a SELECT with
NIN below 2 are refused as well (DESIGN CHOICE, log entry 71). -/
def inputOk (c : Conf) (r : NodeRec) : Bool :=
  r.nin.toNat ≤ r.maxIn && (!r.counted || r.minSpan ≤ r.nin.toNat)
  && ((List.range 8).all fun i => i < r.nin.toNat || !(r.input i).connected)
  && ((List.range 8).all fun i => !r.required i || r.conn i)
  && ((List.range 8).all fun i => !r.conn i ||
        (let f := r.input i
         let p := c.node f.node.toNat
         f.word.toNat < p.outs.length && p.inUse.getLsbD f.word.toNat))
  && (!(r.t == tSrc && r.kind == 0x02) || ss1InOk c r)

/-- 0x04. A port to which Tables 3-2 and 3-5 give no type counts as Q, so that a TURNS source there is refused (DESIGN CHOICE, log entry 71). -/
def portOk (c : Conf) (r : NodeRec) : Bool :=
  (List.range 8).all fun i => !r.conn i ||
    (let f := r.input i
     r.turnsIn i == (c.node f.node.toNat).outs.getD f.word.toNat false)

/-- 0x05: the lowest node on a cycle. -/
def loopBad (c : Conf) : Option Nat :=
  let left := (c.loadOrder 0).2 ++ (c.loadOrder 1).2 ++ (c.loadOrder 2).2
  let deps := fun n => c.deps (c.node n)
  let onCycle := fun n => (reach deps left left.length ((deps n).filter left.contains)).contains n
  match left.filter onCycle with
  | [] => none
  | n :: r => some (r.foldl min n)

/-- 0x06: the first TRACKED node that is not PI or PID, repeats an index or is the ninth. -/
def trackBad (g : Store NodeRec) : Option Nat :=
  (g.foldl (fun (a : Option Nat × List Nat) (p : Nat × NodeRec) =>
    if !p.2.tracked || a.1.isSome then a
    else if !p.2.isPi || a.2.contains p.2.trackIdx.toNat || 8 ≤ a.2.length then (some p.1, a.2)
    else (none, p.2.trackIdx.toNat :: a.2)) (none, [])).1

/-- 0x07: more than one MINSEL, MAXSEL or IPARK reads a PI or PID. -/
def backcalcOk (c : Conf) (n : Nat) (r : NodeRec) : Bool :=
  !r.isPi || (c.graph.filter fun p =>
      (p.2.t == tMinsel || p.2.t == tMaxsel || p.2.t == tIpark)
      && (List.range 8).any fun i => p.2.conn i && (p.2.input i).node.toNat == n).length ≤ 1

/-- A node with a table, and the lengths it may have (03 R102). -/
def tableLens (t : Nat) : Option (Nat × Nat) :=
  match t with
  | 0x11 => some (2, 256) | 0x12 => some (256, 256) | 0x13 => some (1024, 1024) | _ => none

/-- 0x08: length, end and overlap with an earlier table. -/
def tableBad (g : Store NodeRec) : Option Nat :=
  (g.foldl (fun (a : Option Nat × List (Nat × Nat)) (p : Nat × NodeRec) =>
    match a.1, tableLens p.2.t with
    | none, some (lo, hi) =>
      let b := p.2.tblBase.toNat
      let l := p.2.tblLen.toNat
      if l < lo || hi < l || 24576 < b + l || (a.2.any fun s => s.1 < b + l && b < s.2) then (some p.1, a.2)
      else (none, (b, b + l) :: a.2)
    | _, _ => a) (none, [])).1

def Conf.sinks (c : Conf) (kind : Nat) : List (Nat × NodeRec) := c.graph.filter fun p => p.2.t == tSink && p.2.kind == kind
def Conf.arbiters (c : Conf) : List (Nat × NodeRec) := c.graph.filter fun p => p.2.arbiter

/-- A PWM sink takes out, out2 and out3 of one SVM (03 Table 3-5). -/
def pwmFedOk (c : Conf) (r : NodeRec) : Bool :=
  let n := (r.input 0).node
  (c.node n.toNat).t == tSvm && (List.range 3).all fun i => (r.input i).node == n && (r.input i).word.toNat == i

/-- 0x09 (03 R105, R111). Where several conditions fail, the node named is that of the first in the order below, and the TQ sink where the
lowest ARBITER does not feed it; the spec does not say which node is the offending one then (DESIGN CHOICE, log entry 71). -/
def sinkBad (c : Conf) : Option Nat :=
  let tq := c.sinks 1
  let ar := c.arbiters
  let pwm := c.sinks 2
  match tq with
  | [] => some 0xFF
  | (t, r) :: rest =>
    match rest with
    | x :: _ => some x.1
    | [] =>
      match ar with
      | [] => some t
      | (a, aR) :: more =>
        if (r.input 0).node.toNat ≠ a || (r.input 0).word ≠ 0 then some t
        else match more with
        | x :: _ => some x.1
        | [] =>
          if !(aR.t == tMinsel || aR.t == tMaxsel) || aR.part == 2 then some a
          else match pwm with
          | [] => none
          | [(p, pr)] => if pwmFedOk c pr then none else some p
          | _ :: x :: _ => some x.1

/-- 0x0A (03 R101, R103, R112, R125). -/
def partitionBad (c : Conf) : Option Nat :=
  let isObs := fun (r : NodeRec) => r.t == tObserver
  let isRef := fun (r : NodeRec) => r.t == tSrc && r.kind == 0x02
  let dup := fun (n : Nat) (f : NodeRec → Bool) => c.graph.any fun p => p.1 < n && f p.2
  (c.graph.find? fun p =>
    p.2.part == 3
    || ((p.2.t == tSvm || (p.2.t == tSink && p.2.kind == 2) || isObs p.2) && p.2.part != 0)
    || (isObs p.2 && dup p.1 isObs)
    || (isRef p.2 && (p.2.part != 1 || dup p.1 isRef))).map (·.1)

/-- The writer a HOST_SP is bound to (03 R122). -/
def NodeRec.bindKind (r : NodeRec) : Nat := fieldOf r.attr 8 4
def NodeRec.bindNum (r : NodeRec) : Nat := fieldOf r.attr 12 20

/-- 0x0B. A writer code above 4 and a remote entry of 16 or more, which 03 R122 and Table 3-9 do not name, are refused as well (DESIGN CHOICE,
log entry 71). -/
def bindingOk (k : Conf) (r : NodeRec) : Bool :=
  if !(r.t == tSrc && r.kind == 1) then true
  else match r.bindKind with
    | 3 => r.bindNum < 16 && k.remoteUsed r.bindNum && k.nat (Item.remotePriv + r.bindNum) ≤ 1
    | 4 => true
    | b => b < 3 && k.nat (Item.privSpi0 + b) ≤ 1

/-- 0x0C. -/
def paramOk (r : NodeRec) : Bool :=
  let s := r.pI
  let le1 := fun x => 0 ≤ x && x ≤ qUnit
  match r.t with
  | 0x07 => s 4 ≤ s 3 && s 6 ≤ s 5 && le1 (s 2)
  | 0x08 => s 6 ≤ s 5 && le1 (s 4)
  | 0x09 => s 1 ≤ s 0
  | 0x0A => 0 ≤ s 0 && 0 ≤ s 1
  | 0x0B => s 1 ≤ s 0
  | 0x0C => s 1 ≤ s 0
  | 0x0D => (r.p 0).toNat ≤ 65535
  | 0x0E => 0 < s 0 && s 0 ≤ qUnit
  | 0x10 => 0 ≤ s 0
  | 0x12 => 0 < s 2
  | 0x18 => 1 ≤ (r.p 0).toNat && (r.p 0).toNat ≤ 64 && 1 ≤ (r.p 1).toNat && (r.p 1).toNat ≤ 4096
  | 0x19 => 0 ≤ s 1 && 1 ≤ (r.p 2).toNat && (r.p 2).toNat ≤ 65535
  | 0x1A => r.p 0 == 0 || r.p 0 == qOne
  | 0x01 =>
    if r.kind = 0x01 then (r.p 0).toNat ≤ 10000000 && s 2 ≤ s 3
    else if r.kind = 0x0E then (r.p 0).toNat ≤ 4 else true
  | _ => true

/-- The first node that fails a test. -/
def firstBad (g : Store NodeRec) (ok : Nat → NodeRec → Bool) : Option Nat := (g.find? fun p => !ok p.1 p.2).map (·.1)

/-- 0x01. -/
def countBad (c : Conf) : Option Nat :=
  match (c.partNodes 0).drop 128 with
  | n :: _ => some n
  | [] => if 256 < c.graph.length then some 0xFF else none

/-- The first of a list of findings, with its number. -/
def firstFound : List (Nat × Option Nat) → Option (Nat × Nat)
  | [] => none
  | (k, some n) :: _ => some (k, n)
  | (_, none) :: r => firstFound r

/-- 03 Table 3-9 in ascending reason (09 R463), for the graph of `k2`: the reason and the node. `k1` has the items that
will be in force after the COMMIT boundary, `k2` those after the next full start (01 R461). No graph, no check (R462). -/
def graphCheck (k1 k2 : Conf) : Option (Nat × Nat) :=
  let g := k2.graph
  if g.isEmpty then none
  else firstFound [
    (0x01, countBad k2),
    (0x02, firstBad g fun _ r => typeOk r),
    (0x03, firstBad g fun _ r => inputOk k2 r),
    (0x04, firstBad g fun _ r => portOk k2 r),
    (0x05, loopBad k2),
    (0x06, trackBad g),
    (0x07, firstBad g fun n r => backcalcOk k2 n r),
    (0x08, tableBad g),
    (0x09, sinkBad k2),
    (0x0A, partitionBad k2),
    (0x0B, firstBad g fun _ r => bindingOk k2 r),
    (0x0C, firstBad g fun _ r => paramOk r),
    (0x0D, timeBad k2 k1),
    (0x0D, timeBad k2 k2)]

end Sys2Proof.Machine
end

