-- ==== Sys2Proof/Machine/CfgCheck.lean ====
section
/-! DEFINITION. The checks of a staged configuration at the prepare phase (00 R13, 01 R25, R26, R461, 08 R272, 09 R319, R463).
Log entries: 25, 26 (DEDUCED). -/

namespace Sys2Proof.Machine

/-- Why a commit is refused with BAD_PARAM: RESULT bytes 4, 5 and 6–7 (09 R319). -/
structure CfgBad where
  reason : Nat
  node : Nat := 0xFF
  item : Nat := 0
  deriving DecidableEq, Repr

def CfgBad.result (b : CfgBad) : Word := packWord [(0, b.reason), (8, b.node), (16, b.item)]

/-- The lowest of the items that take part and are staged; with none staged, the lowest of them. -/
def blameItem (staged : Store Word) (items : List Nat) : Nat :=
  let low := fun (l : List Nat) => match l with
    | [] => none
    | a :: r => some (r.foldl min a)
  match low (items.filter fun i => (Store.find staged i).isSome) with
  | some i => i
  | none => (low items).getD 0

/-- The first finding of a list. -/
def firstBadRule : List (Option CfgBad) → Option CfgBad
  | [] => none
  | some b :: _ => some b
  | none :: r => firstBadRule r

/-! ## 0x40 and 0x41 -/

/-- 0x40: an item outside its Range column. -/
def rangeBad (staged : Store Word) : Option CfgBad :=
  (staged.find? fun p => !itemOk p.1 p.2).map fun p => { reason := 0x40, item := p.1 }

/-- The count items of R25. -/
def countItems : List Nat := [Item.tqCount, Item.missCount, Item.tqDevCount, Item.posCount, Item.spdCount]

/-- R25: (N + 1) × Tf + 2 µs ≤ 2 ms, in 2.5 ns. -/
def r25Bad (c : Conf) : Bool := countItems.any fun i => decide (799200 < (c.nat i + 1) * c.tf25)

/-- R26: Tf ≤ 48 µs. -/
def r26Bad (c : Conf) : Bool := decide (19200 < c.tf25)

def timingBad (staged : Store Word) (k1 k2 : Conf) : Option CfgBad :=
  if r25Bad k1 || r25Bad k2 then
    some { reason := 0x41, item := blameItem staged (countItems ++ [Item.pwmTop, Item.updates]) }
  else if r26Bad k1 || r26Bad k2 then some { reason := 0x41, item := blameItem staged [Item.pwmTop, Item.updates] }
  else none

/-! ## 0x42 -/

def joined (staged : Store Word) (bad : Bool) (items : List Nat) : Option CfgBad :=
  if bad then some { reason := 0x42, item := blameItem staged items } else none

/-- The privilege items of the entries that hold OWNER (01 R53). -/
def ownerItems (c : Conf) : List Nat :=
  ((List.range 3).filter fun i => c.nat (Item.privSpi0 + i) == 0).map (Item.privSpi0 + ·)
  ++ ((List.range 16).filter fun n => c.remoteUsed n && c.nat (Item.remotePriv + n) == 0).map (Item.remotePriv + ·)

/-- The node items of used entries that repeat a node ID (01 R57). -/
def sameNodeItems (c : Conf) : List Nat :=
  ((List.range 16).filter fun n => c.remoteUsed n
    && (List.range 16).any fun k => k != n && c.nat (Item.remoteNode + k) == c.nat (Item.remoteNode + n)).map (Item.remoteNode + ·)

/-- The used entries whose privilege is not NONE (09 R311). -/
def flowEntries (c : Conf) : List Nat := (List.range 16).filter fun n => c.remoteUsed n && c.nat (Item.remotePriv + n) != 3

/-- The entries that a route may not name. -/
def noRoute (c : Conf) (n : Nat) : Bool := !c.remoteUsed n || c.nat (Item.remotePriv + n) == 3

/-- The routes to such entries (10 R342), with the items of the entries. -/
def routeItems (c : Conf) : List Nat :=
  let bad := (List.range 176).filter fun i =>
    let r := c.nat (Item.route + i)
    2 ≤ r && r < 18 && noRoute c (r - 2)
  bad.map (Item.route + ·) ++ (bad.map fun i =>
    let n := c.nat (Item.route + i) - 2
    [Item.remoteNode + n, Item.remotePriv + n]).flatten

/-- The EVENT_REMOTE_SRC entries that are equal and not 0. -/
def sameSrcItems (c : Conf) : List Nat :=
  ((List.range 32).filter fun n => c.nat (Item.remoteSrc + n) != 0
    && (List.range 32).any fun k => k != n && c.nat (Item.remoteSrc + k) == c.nat (Item.remoteSrc + n)).map (Item.remoteSrc + ·)

/-- A register of PD_AON: the POWER and START tables (13 R434). -/
def aonRegister (a : Nat) : Bool :=
  let o := a % 2 ^ 18
  let e := a / 2 ^ 18 % 16
  (e == 9 || e == 10) && o < 0x10

/-- The save-list entries that name a register of PD_AON, or one that another entry names (13 R434). -/
def saveItems (c : Conf) : List Nat :=
  ((List.range 64).filter fun n =>
    let a := c.nat (Item.save + n)
    a != 0 && (aonRegister a || (List.range 64).any fun k => k != n && c.nat (Item.save + k) == a)).map (Item.save + ·)

/-- The rules that join items, in the order of their numbers, for the configuration as it will stand. -/
def joinedBad (staged : Store Word) (c : Conf) : Option CfgBad :=
  let o := c.graph.find? fun p => p.2.t == tObserver
  let pp := match o with
    | some p => (p.2.p 0).toNat
    | none => 1
  let n := match o with
    | some p => (p.2.p 1).toNat
    | none => 1
  let g := Nat.gcd pp n
  let fl := flowEntries c
  firstBadRule [
    joined staged (1 < (ownerItems c).length) (ownerItems c),
    joined staged (!(sameNodeItems c).isEmpty) (sameNodeItems c),
    joined staged (decide (c.nat Item.pwmTop < 16 * c.nat Item.tWin)) [Item.pwmTop, Item.tWin],
    joined staged (g < n && decide (18000 * g ≤ c.nat Item.alignTol * n)) [Item.alignTol],
    joined staged (decide (c.nat Item.tWin ≤ 2 * c.nat Item.gateDead)) [Item.tWin, Item.gateDead],
    joined staged (decide (13 < fl.length)) (fl.map (Item.remoteNode + ·) ++ fl.map (Item.remotePriv + ·)),
    joined staged (!(routeItems c).isEmpty) (routeItems c),
    joined staged (!(sameSrcItems c).isEmpty) (sameSrcItems c),
    joined staged (!(saveItems c).isEmpty) (saveItems c),
    joined staged (decide (c.int Item.aux1Hi ≤ c.int Item.aux1Lo)) [Item.aux1Lo, Item.aux1Hi],
    joined staged (decide (c.int Item.aux2Hi ≤ c.int Item.aux2Lo)) [Item.aux2Lo, Item.aux2Hi],
    joined staged (decide (c.nat Item.cycleLen ≤ c.nat Item.slowFlockOfs)) [Item.slowFlockOfs, Item.cycleLen]]

/-! ## The schedule (08 Table 8-5) -/

/-- The items and the table of a channel. -/
def Conf.slotLen (c : Conf) : Channel → Nat
  | .A => c.nat Item.slotLenA | .B => c.nat Item.slotLenB
def Conf.statics (c : Conf) : Channel → Nat
  | .A => c.nat Item.staticCountA | .B => c.nat Item.staticCountB
def Conf.payload (c : Conf) : Channel → Nat
  | .A => c.nat Item.staticPayloadA | .B => c.nat Item.staticPayloadB
def Conf.minislots (c : Conf) : Channel → Nat
  | .A => c.nat Item.minislotCountA | .B => c.nat Item.minislotCountB
def Conf.sched (c : Conf) : Channel → Store SchedEnt
  | .A => c.schedA | .B => c.schedB

def bothChannels : List Channel := [.A, .B]

/-- F(P) = P + 11.9 µs, in 0.1 µs (08 R265). -/
def frameTenths (p : Nat) : Nat := 10 * p + 119

/-- The entries of a channel's static slots. -/
def Conf.slots (c : Conf) (ch : Channel) : List (Nat × SchedEnt) :=
  (c.sched ch).filter fun p => 1 ≤ p.1 && p.1 ≤ c.statics ch

def SchedEnt.owned (e : SchedEnt) : Bool := e.kind == 1
def SchedEnt.spare (e : SchedEnt) : Bool := e.kind == 2

/-- Is a slot OWNED by this device? -/
def Conf.ownSlot (c : Conf) (ch : Channel) (s : Nat) : Bool :=
  match (c.slots ch).find? fun p => p.1 == s with
  | some p => p.2.owned && p.2.node == BitVec.ofNat 16 (c.nat Item.nodeId) && c.nat Item.nodeId != 0
  | none => false

/-- The slot that a publication names on a channel; 0x7FF stands for the claimed slot. -/
def PubEnt.slot (p : PubEnt) : Channel → Nat
  | .A => p.slotA.toNat | .B => p.slotB.toNat

/-- The end of a channel's dynamic segment, in µs (08 Table 8-4). -/
def Conf.dynEnd (c : Conf) (ch : Channel) : Nat := c.statics ch * c.slotLen ch + c.minislots ch * c.nat Item.minislotLen

def Conf.laterEnd (c : Conf) : Nat := max (c.dynEnd .A) (c.dynEnd .B)

/-- Does a frame of P bytes that starts in minislot k end 1 µs before the dynamic segment does (08 R275)? -/
def fitsSegment (c : Conf) (ch : Channel) (k p : Nat) : Bool :=
  10 * ((k - 1) * c.nat Item.minislotLen + c.nat Item.minislotAp) + frameTenths p + 10 ≤ 10 * (c.minislots ch * c.nat Item.minislotLen)

/-- The records that fit into a static slot. -/
def recordsFit (payload : Nat) (sync : Bool) : Nat := (payload - if sync then 8 else 0) / 16

/-- 0x25. -/
def dynBad (c : Conf) (ch : Channel) : Bool :=
  let d := c.nat Item.dynSlot
  let m := c.minislots ch
  d != 0 && m != 0 && (d ≤ c.statics ch || c.statics ch + m < d
    || decide (10 * (m * c.nat Item.minislotLen) < 10 * c.nat Item.minislotAp + frameTenths (c.nat Item.dynPayload)))

/-- 0x27. -/
def pubBad (c : Conf) (ch : Channel) : Bool :=
  (c.pubs.any fun p => p.slot ch != 0x7FF && !c.ownSlot ch (p.slot ch))
  || (c.slots ch).any fun s => s.2.safe && c.ownSlot ch s.1
      && decide (recordsFit (c.payload ch) s.2.sync < (c.pubs.filter fun p => p.slot ch == s.1).length)

/-- The distinct node IDs of OWNED entries. -/
def ownedNodes (c : Conf) : List Half :=
  ((bothChannels.map fun ch => (c.slots ch).filterMap fun p => if p.2.owned then some p.2.node else none).flatten).eraseDups

/-- The safe signals that the graph's nodes name: HOST_SP nodes and PUBLISH sinks. -/
def Conf.spSignals (c : Conf) : List Nat :=
  c.graph.filterMap fun p => if p.2.t == tSrc && p.2.kind == 1 && p.2.bindKind == 4 then some p.2.bindNum else none
def Conf.pubSignals (c : Conf) : List Nat := (c.sinks 3).map fun p => fieldOf p.2.attr 8 20

/-- 0x29. -/
def signalsBad (c : Conf) : Bool :=
  let subs := c.subs.map fun e => e.sig.toNat
  let pubs := c.pubs.map fun e => e.sig.toNat
  4096 < subs.length || 1024 < pubs.length || subs.eraseDups.length != subs.length || pubs.eraseDups.length != pubs.length
  || subs.contains 0 || pubs.contains 0 || (c.spSignals.any fun s => !subs.contains s) || (c.pubSignals.any fun s => !pubs.contains s)

/-- Does the device own a SYNC slot? -/
def Conf.ownsSync (c : Conf) : Bool := bothChannels.any fun ch => (c.slots ch).any fun p => p.2.sync && c.ownSlot ch p.1

/-- The first reason of Table 8-5 that a configuration meets. -/
def scheduleBad (c : Conf) : Option CfgBad :=
  let pi := c.nat Item.precision
  let a := c.nat Item.apOffset
  let am := c.nat Item.minislotAp
  let any := fun (f : Channel → Bool) => bothChannels.any f
  let nit : Int := (c.nat Item.cycleLen : Int) - c.laterEnd - c.nat Item.symbolLen
  let tests : List (Nat × Bool) := [
    (0x21, decide (100 * a < pi + 100) || decide (100 * am < pi + 100)),
    (0x22, (any fun ch => decide (10 * c.slotLen ch < 20 * a + frameTenths (c.payload ch))) || decide (c.nat Item.minislotLen < 2 * am)),
    (0x23, decide (nit * 100 < 2 * pi + 1000)),
    (0x24, any fun ch => decide (2047 < c.statics ch + c.minislots ch)),
    (0x25, any fun ch => dynBad c ch),
    (0x26, any fun ch => c.payload ch < 8 && (c.slots ch).any fun p => p.2.sync),
    (0x27, any fun ch => pubBad c ch),
    (0x28, decide (64 < (ownedNodes c).length)
        || any fun ch => ((c.slots ch).any fun p => p.2.sync && !p.2.owned) || decide (15 < ((c.slots ch).filter fun p => p.2.sync).length)),
    (0x29, signalsBad c),
    (0x2A, (c.nat Item.nodeId == 0 && c.nat Item.netRequired == 1) || (c.nat Item.coldstartRank != 0 && !c.ownsSync))]
  (tests.find? fun t => t.2).map fun t => { reason := t.1 }

/-! ## All of them -/

/-- The checks of R463 but the state conditions: `k1` has what will be in force after the COMMIT boundary, `k2` what will be
after the next full start. -/
def checkConf (staged : Store Word) (k1 k2 : Conf) : Option CfgBad :=
  match rangeBad staged with
  | some b => some b
  | none =>
    match timingBad staged k1 k2 with
    | some b => some b
    | none =>
      match joinedBad staged k2 with
      | some b => some b
      | none =>
        match graphCheck k1 k2 with
        | some (r, n) => some { reason := r, node := n }
        | none => scheduleBad k2

end Sys2Proof.Machine
end

