-- ==== Sys2Proof/Machine/LaneOps.lean ====
section
/-! DEFINITION. The LANE opcodes (01 R37, R54, R55, 11 R353–R355, R367, R368). Each meaning is a function of the lane that
executes it, the sender and the parameter block, run in the frame of 11 R344–R351.
Log entries: 67, 80 (DESIGN CHOICE). -/

namespace Sys2Proof.Machine

/-- A block shown as none has length 0 (11 R347). -/
def noBlock (blk : List Byte) : Bool := blk.isEmpty

/-- Does the sender hold OWNER now? -/
def LaneSt.ownerIs (L : LaneSt) (h : Sender) : Bool := (L.priv h).covers .owner

/-- Was a command admitted under OWNER (01 R58)? -/
def LaneSt.ownerOf (L : LaneSt) (tid : Nat) (h : Sender) : Bool := (L.privOf tid h).covers .owner

/-- The images that are valid (09 R320). -/
def StartEng.goodA (s : StartEng) : Option Image := s.imgA.filter (·.valid)
def StartEng.goodB (s : StartEng) : Option Image := s.imgB.filter (·.valid)

/-- The image in use (09 R320). -/
def StartEng.image (s : StartEng) : Option Image := match s.imgInUse with
  | .A => s.goodA | .B => s.goodB

/-! ## The boot counter's ring (13 R404) -/

/-- The check of an entry. The rule gives it no polynomial: CRC-32C over the count and the sequence number (DESIGN CHOICE, log entry 80). -/
def bootCheck (count : Byte) (seq : Word) : Word := crc32c (count :: le32 seq)

/-- The entry with the highest sequence number and a valid check. -/
def StartEng.bootNow (x : StartEng) : Option BootEntry :=
  (x.bootRing.filterMap fun e => if e.2.check == bootCheck e.2.count e.2.seq then some e.2 else none).foldl (fun m e => match m with
    | some b => if b.seq.toNat < e.seq.toNat then some e else m
    | none => some e) none

/-- The count that the ring holds: 0 in a ring without a valid entry. -/
def StartEng.bootKept (x : StartEng) : Byte := match x.bootNow with
  | some e => e.count
  | none => 0

/-- An update writes the next entry of the ring. -/
def StartEng.writeBoot (x : StartEng) (n : Byte) : StartEng :=
  let seq : Word := match x.bootNow with
    | some e => e.seq + 1
    | none => 0
  { x with bootCount := n, bootRing := Store.put x.bootRing (seq.toNat % 64) { count := n, seq := seq, check := bootCheck n seq } }

/-- The reply of LANE_IDENT (11 Table 11-6). STEP is 0x02, step B (00 R4). -/
def identReply (me : LaneId) (L : LaneSt) : List Byte :=
  le16 0x7264 ++ [0x02, BitVec.ofNat 8 me.num] ++ le32 Config.romVersion ++ le64 (Config.dieId me)
  ++ [BitVec.ofNat 8 L.start.imgInUse.num]
  ++ le24 (match L.start.image with
      | some i => i.gen
      | none => 0)
  ++ [BitVec.ofNat 8 (b2n L.host.run.t2 + 2 * b2n L.minimal), L.start.bootCount] ++ le16 L.start.patchLevel ++ zeros 8

def opLaneIdent (me : LaneId) (_ : Sender) (blk : List Byte) (L : LaneSt) : LaneSt × Option LaneRes :=
  checked [(noBlock blk, stBadParam)] L (L, some (replyRes (identReply me L)))

/-- The lane that a number names is healthy, as this lane knows. -/
def LaneSt.healthyNum (L : LaneSt) (n : Nat) : Bool := match LaneId.ofNum n with
  | some l => L.eng.healthy.get l
  | none => false

/-- POISON of LANE_READ as 16 bytes (11 Table 11-7). -/
def poisonBytes (ws : List (Word × Bool)) : List Byte :=
  (List.range 16).map fun i => BitVec.ofNat 8 (poisonMask ((ws.drop (8 * i)).take 8))

/-- LANE_READ: the named lane reads as its own port would; the others contribute nothing (11 R349, R355). -/
def opLaneRead (me : LaneId) (tid : Nat) (h : Sender) (blk : List Byte) (L : LaneSt) : LaneSt × Option LaneRes :=
  let addr := fieldOf (rd32 blk 0) 0 24
  let n := (byteAt blk 3).toNat
  checked [(blk.length == 4 && addr % 4 == 0 && adrLane addr < 3 && 1 ≤ n && n ≤ 128 && adrOffset addr + 4 * n ≤ 2 ^ 18, stBadParam),
    (minimalOk 0x0102 L && L.healthyNum (adrLane addr), stNotInState)] L
    (if adrLane addr = me.num then
      let (ws, L') := hostReads me (L.ownerOf tid h) addr n [] L
      (L', some (replyRes (poisonBytes ws ++ (ws.map fun w => le32 w.1).flatten)))
    else (L, some okRes))

/-- LANE_STATUS: LANE registers 0x000–0x018; 0x008 and 0x00C read 0 unless the sender holds OWNER (11 Table 11-4). -/
def opLaneStatus (me : LaneId) (tid : Nat) (h : Sender) (blk : List Byte) (L : LaneSt) : LaneSt × Option LaneRes :=
  let word := fun o => match laneRegs me L o with
    | some (v, ownerOnly) => if ownerOnly && !L.ownerOf tid h then 0 else v
    | none => 0
  checked [(noBlock blk, stBadParam)] L (L, some (replyRes (((List.range 7).map fun i => le32 (word (4 * i))).flatten)))

/-- LANE_ROLE_SET (01 R37): the named lane takes the lead at the next fast sample. -/
def opLaneRoleSet (_ : LaneId) (_ : Sender) (blk : List Byte) (L : LaneSt) : LaneSt × Option LaneRes :=
  let n := (byteAt blk 0).toNat
  checked [(blk.length == 4 && zerosAt blk 1 3 && n < 3, stBadParam),
    (minimalOk 0x0104 L && L.healthyNum n && LaneId.ofNum n != L.eng.lead && !(L.host.run.t2 && n == 2)
      && L.safe.ss1.isNone && L.safe.state != .stopped, stNotInState)] L
    ({ L with eng := { L.eng with roleSet := LaneId.ofNum n } }, some okRes)

/-- 10 min, in 10 ns. -/
def keyWindow10 : Nat := 60000000000

/-- The count of wrong keys of a host. -/
def LaneSt.keyCount (L : LaneSt) (h : Sender) : KeyCount :=
  (L.eng.claimCount.find? fun k => k.host == h).getD ⟨h, [], false⟩

/-- A wrong key (01 R54): three within 10 min lock the host out. DESIGN CHOICE (log entry 67): a wrong key during the lockout is not
counted, and a claim that succeeds leaves the count as it is. -/
def wrongKey (h : Sender) (L : LaneSt) : LaneSt :=
  let k := L.keyCount h
  if k.locked then L
  else
    let ts := (k.times.filter fun t => L.time.clk10 < t + keyWindow10) ++ [L.time.clk10]
    let k' : KeyCount := ⟨h, ts, 3 ≤ ts.length⟩
    { L with eng := { L.eng with claimCount := L.eng.claimCount.filter (fun x => x.host != h) ++ [k'] } }

/-- LANE_OWNER_CLAIM (01 R54). The order is that of 11 R348: the key first, then the state. DESIGN CHOICE (log entry 67): a claim that
succeeds replaces the claim of another host, and with LANE_OWNER_KEY zero a key that is not zero counts as a wrong key while a zero
key does not. A claim from an entry that is not used any more when it executes names no host, and is refused (01 R57). -/
def opLaneOwnerClaim (_ : LaneId) (h : Sender) (blk : List Byte) (L : LaneSt) : LaneSt × Option LaneRes :=
  let lo := L.host.run.item Item.keyLo
  let hi := L.host.run.item Item.keyHi
  let right := rd32 blk 0 == lo && rd32 blk 4 == hi
  let zero := lo == 0 && hi == 0
  let names := match h with
    | .remote n => L.host.run.remoteUsed n.val
    | .spi _ => true
  if blk.length ≠ 8 then (L, some (failRes stBadParam))
  else if !names || (L.keyCount h).locked then (L, some (failRes stNotPermitted))
  else if !right then (wrongKey h L, some (failRes stNotPermitted))
  else if zero then (L, some (failRes stNotPermitted))
  else if L.mot.enabled then (L, some (failRes stNotInState))
  else
    let L' := if L.ownerIs h then L else closeTrans L
    ({ L' with eng := { L'.eng with claim := some h } }, some okRes)

/-- LANE_OWNER_RELEASE (01 R55). -/
def opLaneOwnerRelease (_ : LaneId) (h : Sender) (blk : List Byte) (L : LaneSt) : LaneSt × Option LaneRes :=
  checked [(noBlock blk, stBadParam), (L.eng.claim == some h, stNotInState)] L (endClaim L, some okRes)

/-- LANE_SS1 (11 R367): at the next medium execution; with SS1 running it changes nothing. -/
def opLaneSs1 (_ : LaneId) (_ : Sender) (blk : List Byte) (L : LaneSt) : LaneSt × Option LaneRes :=
  checked [(noBlock blk, stBadParam),
    (minimalOk 0x0110 L && L.mot.enabled && L.safe.state != .stopped, stNotInState)] L
    (if L.safe.ss1.isSome then (L, some (resultRes 1))
     else ({ L with safe := { L.safe with ss1Req := true } }, some (resultRes 0)))

/-- LANE_STO (11 R368): at the next fast sample. -/
def opLaneSto (_ : LaneId) (_ : Sender) (blk : List Byte) (L : LaneSt) : LaneSt × Option LaneRes :=
  checked [(noBlock blk, stBadParam)] L ({ L with safe := { L.safe with stoReq := true } }, some okRes)

/-- LANE_IDENT. -/
def execLaneIdent (c : Ctx) (blk : List Byte) (s : State) : Out := runOp 0x0101 c blk (opLaneIdent c.lane c.sender blk) s
/-- LANE_READ. -/
def execLaneRead (c : Ctx) (blk : List Byte) (s : State) : Out := runOp 0x0102 c blk (opLaneRead c.lane c.tid c.sender blk) s
/-- LANE_STATUS. -/
def execLaneStatus (c : Ctx) (blk : List Byte) (s : State) : Out := runOp 0x0103 c blk (opLaneStatus c.lane c.tid c.sender blk) s
/-- LANE_ROLE_SET. -/
def execLaneRoleSet (c : Ctx) (blk : List Byte) (s : State) : Out := runOp 0x0104 c blk (opLaneRoleSet c.lane c.sender blk) s
/-- LANE_OWNER_CLAIM. -/
def execLaneOwnerClaim (c : Ctx) (blk : List Byte) (s : State) : Out := runOp 0x0105 c blk (opLaneOwnerClaim c.lane c.sender blk) s
/-- LANE_OWNER_RELEASE. -/
def execLaneOwnerRelease (c : Ctx) (blk : List Byte) (s : State) : Out := runOp 0x0106 c blk (opLaneOwnerRelease c.lane c.sender blk) s
/-- LANE_SS1. -/
def execLaneSs1 (c : Ctx) (blk : List Byte) (s : State) : Out := runOp 0x0110 c blk (opLaneSs1 c.lane c.sender blk) s
/-- LANE_STO. -/
def execLaneSto (c : Ctx) (blk : List Byte) (s : State) : Out := runOp 0x0111 c blk (opLaneSto c.lane c.sender blk) s

end Sys2Proof.Machine
end

