-- ==== Sys2Proof/Machine/Angles.lean ====
section
/-! DEFINITION. The quantities a lane measures (05 R169, R170; 06 R203, R204, R213–R215, R228, R229): angles, speeds, currents
and auxiliary inputs as words, each formed exactly and rounded once to the nearest step.
Log entries: 3 (DESIGN CHOICE). -/

namespace Sys2Proof.Machine

/-! ## The OBSERVER node's parameters (03 R103) -/

/-- POLE_PAIRS, PERIODS_PER_REV and ANGLE_OFFSET. -/
structure ObsPar where
  pp : Nat
  n : Nat
  ofs : Word
  deriving DecidableEq, Repr

/-- Those of a graph: 1, 1 and 0 without an OBSERVER node. -/
def Conf.obs (c : Conf) : ObsPar :=
  match c.nodeOf 0x18 0 with
  | some (_, r) => ⟨max 1 (r.p 0).toNat, max 1 (r.p 1).toNat, r.p 2⟩
  | none => ⟨1, 1, 0⟩

/-- Those in force: 1, 1 and 0 while no graph is active. -/
def LaneSt.obs (L : LaneSt) : ObsPar := if L.ox.graphState == .none then ⟨1, 1, 0⟩ else L.host.run.obs

/-! ## Angles -/

/-- The mechanical angle of a count of 1/65,536 periods, which is taken modulo a revolution (06 R204). -/
def mechOf (n : Nat) (x : Int) : Word :=
  let m : Int := n * 65536
  BitVec.ofInt 32 (roundDiv (x % m * 4294967296) m)

/-- An angle in the form of the position word (00 R8). -/
def posOf (n : Nat) (th : Word) : Word := BitVec.ofNat 32 ((th.toNat * n + 32768) / 65536 % (n * 65536))

/-- The electrical angle (06 R204). -/
def elecOf (o : ObsPar) (th : Word) : Word := BitVec.ofNat 32 (o.pp * th.toNat) + o.ofs

/-- An angle given in 0.01° as turns. -/
def centiDeg (n : Int) : Int := roundDiv (n * 4294967296) 36000

/-! ## Speeds -/

/-- The speed in per unit of `w`, in 2⁻³² turns per fast sample (06 R215). -/
def speedOf (c : Conf) (w : Int) : Word := satQ (roundDiv (w * 93750000) (c.tf25 * c.nat Item.baseSpeed))

/-- The turns, in 2⁻³², covered at a speed in a time in 10 ns (06 R219). -/
def advanceBy (c : Conf) (speed : Word) (dt10 : Int) : Word :=
  BitVec.ofInt 32 (roundDiv (speed.toInt * c.nat Item.baseSpeed * dt10 * 256) 6000000000)

/-- The Hall speed in per unit for a time between edges (06 R214). -/
def hallPu (c : Conf) (pp dt10 : Nat) : Word :=
  satQ (roundDiv (1000000000 * qUnit) (max 1 (pp * dt10 * c.nat Item.baseSpeed)))

/-- As above, in 2⁻³² turns per fast sample. -/
def hallW (c : Conf) (pp dt10 : Nat) : Int := roundDiv (c.tf25 * 4294967296) (max 1 (24 * pp * dt10))

/-- A speed in rpm as per unit. -/
def rpmPu (c : Conf) (rpm : Nat) : Int := roundDiv (rpm * qUnit) (c.nat Item.baseSpeed)

/-! ## Currents (05 R170) -/

def currentOf (c : Conf) (code : BitVec 14) (ofs : Half) : Word :=
  satQ (roundDiv ((code.toInt - ofs.toInt) * 2500 * qUnit)
    (c.nat Item.ampGain * c.nat Item.shunt * c.nat Item.baseCurrent))

/-- An s7.24 value in s3.12, as a record carries a current (01 R17). -/
def s312 (w : Word) : Half := BitVec.ofInt 16 (clampI w.toInt (-134217728) 134217727 / 4096)

/-- The q-current of phase currents at an electrical angle: CLARKE and PARK. -/
def iqOf (ia ib th : Word) : Word :=
  let b := (satQ (overRoot3 (ia.toInt + 2 * ib.toInt))).toInt
  satQ (roundDiv (-ia.toInt * sinQ th + b * cosQ th) qUnit)

/-! ## Auxiliary inputs (06 Table 6-3) -/

def vlnkOf (c : Conf) (code : BitVec 12) : Word :=
  satQ (roundDiv (code.toNat * c.nat Item.vlnkRatio * qUnit) (100000 * c.nat Item.baseVoltage))

def auxOf (code : BitVec 12) (zero gain : Int) : Word := satQ (mulQ (code.toNat * 4096 - zero) gain)

/-- The temperature over 100 °C, times 2⁶⁰. At code 0 the formula takes the logarithm of 0: a free value. -/
def ntc60 (c : Conf) (code : BitVec 12) : Int :=
  if code = 0 then Config.ntcOpen.toInt * (one60 / qUnit)
  else
    let l := ln60 (c.nat Item.ntcRpu * code.toNat) ((4096 - code.toNat) * c.nat Item.ntcR25)
    let inv := roundDiv (one60 * 100) 29815 + roundDiv l (c.nat Item.ntcBeta)
    let kelvin := if inv = 0 then 0 else roundQuot (one60 * one60) inv
    roundDiv (100 * kelvin - 27315 * one60) 10000

def ntcOf (c : Conf) (code : BitVec 12) : Word := satQ (roundDiv (ntc60 c code) (one60 / qUnit))

/-- NTC out of range: below −40 °C or above 150 °C (06 R230). -/
def ntcOut (c : Conf) (code : BitVec 12) : Bool :=
  let t := ntc60 c code
  10 * t < -4 * one60 || 3 * one60 < 2 * t

/-- AUX out of range, LO and HI being fractions of VDDA (06 R230). -/
def auxOut (code : BitVec 12) (lo hi : Int) : Bool :=
  let x : Int := code.toNat * 4096
  x < lo || hi < x

/-- What SRC AUX1, AUX2 and NTC deliver (06 R229, R230). -/
def LaneSt.aux1 (L : LaneSt) : Word :=
  let c := L.host.run
  if L.sen.aux1Fault && c.nat Item.aux1Fault == 1 then c.item Item.aux1Fval
  else auxOf (if L.sen.aux1Fault then L.sen.aux1Held else L.sen.aux1Code) (c.int Item.aux1Zero) (c.int Item.aux1Gain)

def LaneSt.aux2 (L : LaneSt) : Word :=
  let c := L.host.run
  if L.sen.aux2Fault && c.nat Item.aux2Fault == 1 then c.item Item.aux2Fval
  else auxOf (if L.sen.aux2Fault then L.sen.aux2Held else L.sen.aux2Code) (c.int Item.aux2Zero) (c.int Item.aux2Gain)

def LaneSt.ntc (L : LaneSt) : Word := if L.sen.ntcFault then 0x01800000 else ntcOf L.host.run L.sen.ntcCode
def LaneSt.vlnk (L : LaneSt) : Word := vlnkOf L.host.run L.sen.vlnkCode

/-! ## Halls (05 R185, 06 R212–R214) -/

/-- The electrical angle of Hall edge n. -/
def edgeAngle (c : Conf) (n : Nat) : Word := c.item Item.hallPhase + BitVec.ofInt 32 (roundDiv (n * 4294967296) 6)

/-- 60° and 30° of electrical angle in turns. -/
def deg60 : Int := 715827883
def deg30 : Int := 357913941

end Sys2Proof.Machine
end

