-- ==== Sys2Proof/Machine/OxExec.lean ====
section
/-! DEFINITION. The execution of a graph on a lane: partitions, their executions and checks (03 R92, R95, R96; 04 R134–R150),
the sinks, trace recording (04 R155–R159), activation (03 R117) and the presets of a lead switch-over (03 R119).
Log entries: 27, 29, 30, 73 (DEDUCED); 60, 71 (DESIGN CHOICE). -/

namespace Sys2Proof.Machine

/-! ## The environment -/

/-- Is a word of the Ox node memory used so? -/
def isUse (f : Config.OxUse → Bool) (m w : Nat) : Bool := m == 3 && w < 2048 && f (Config.oxWord w)

/-- The words of memory 3 that a read delivers poisoned: uncorrectable ones, and those whose transfer will fail (12 R373, R375). -/
def badReads (L : LaneSt) : List Nat :=
  (L.int.poisoned.filterMap fun q => if q.1 = 3 then some q.2 else none)
  ++ L.int.parityHits.filterMap fun h => if h.mem = 3 && !h.write then some h.word else none

/-- The nodes whose record does not arrive clean. -/
def badRecords (L : LaneSt) : List Nat :=
  ((badReads L).filter (· < 2048)).filterMap fun w => match Config.oxWord w with
    | .record n => some n
    | _ => none

/-- The state words that do not arrive clean, as they are found when their nodes read them. -/
def badStates (L : LaneSt) : List Upset :=
  ((badReads L).filter (· < 2048)).filterMap fun w => match Config.oxWord w with
    | .state n => some (.statePoison (BitVec.ofNat 8 n) w)
    | _ => none

/-- The table entries that a read delivers poisoned: two entries in each word, after 2,048 words of node records (03 R102). -/
def badEntries (L : LaneSt) : List Nat :=
  ((badReads L).filterMap fun w => if 2048 ≤ w && w < 14336 then some [2 * (w - 2048), 2 * (w - 2048) + 1] else none).flatten

/-- What an execution of a partition reads from the lane (03 Table 3-4). -/
def envOf (me : LaneId) (part : Nat) (poisonedTable : List Nat) (L : LaneSt) : OxEnv :=
  { conf := L.host.run, poisonedTable := poisonedTable ++ badEntries L, badNodes := badRecords L, part := part,
    ia := L.mot.ia, ib := L.mot.ib, vlnk := L.vlnk, aux1 := L.aux1, aux2 := L.aux2, ntc := L.ntc, tqShare := L.mot.iqRef,
    votedPos := L.sen.votedPos, votedPosOk := L.sen.votedPosOk, votedSpd := L.sen.votedSpd, votedSpdOk := L.sen.votedSpdOk,
    obsElec := elecOf L.obs L.sen.angle, obsMech := L.sen.angle, obsSpeed := L.sen.speed, obsValid := L.sen.speedValid,
    coltEffort := L.ox.coltEffort, mule := L.safe.mule, ss1 := L.safe.ss1, netHold := L.safe.netHold,
    isLead := L.eng.lead == some me, depth := L.mot.depth, vel := L.mot.vel,
    velBlend := L.host.run.nat Item.velBlend, now := L.now }

/-! ## Nodes of the graph -/

def LaneSt.nst (L : LaneSt) (n : Nat) : NodeSt := Nodes.st L.ox.nodes n

/-- Change the state of a node. -/
def updNode (n : Nat) (f : NodeSt → NodeSt) (L : LaneSt) : LaneSt :=
  { L with ox := { L.ox with nodes := Store.write {} L.ox.nodes n (f (L.nst n)) } }

/-- The SVM that feeds the PWM sink: none in a graph without one, where k is taken as 1 (03 R112). -/
def Conf.svm (c : Conf) : Option Nat :=
  match c.sinks 2 with
  | (_, r) :: _ => some (r.input 0).node.toNat
  | [] => none

/-- Some node is in manual mode (03 R127). -/
def anyManual (ns : Nodes) : Bool := ns.any fun p => p.2.manual.isSome

/-! ## Check events (04 R147, 12 R381) -/

/-- LAST_KIND. -/
def kindCode : CheckKind → BitVec 2
  | .perWrite => 0 | .signature => 1 | .residue => 2 | .overrun => 3 | .statePoison => Config.statePoisonKind

/-- The fault source of a check event (12 Table 12-4). -/
def kindSrc : CheckKind → Byte
  | .perWrite => 0x21 | .signature => 0x22 | .residue => 0x23 | .overrun => 0x24 | .statePoison => 0x25

/-- LAST_NODE: none for a signature mismatch or an overrun (04 Table 4-8). -/
def lastNodeOf (f : CheckFault) : Byte :=
  match f.kind with
  | .signature => 0xFF
  | .overrun => 0xFF
  | _ => f.node

/-- A check event in an execution of partition `part`: it is counted and reported, clears a flag of the next record, and the
third within 100 fast samples makes the lane FA. -/
def checkEvent (me : LaneId) (part : Nat) (f : CheckFault) (L : LaneSt) : LaneSt :=
  let residue := f.kind == .residue
  let o := L.ox
  let L := { L with
    ox := { o with events := 0 :: o.events, eventsTotal := satInc o.eventsTotal, lastKind := kindCode f.kind,
                   lastPart := BitVec.ofNat 2 part, lastNode := lastNodeOf f, lastSample := BitVec.ofNat 20 o.fastCount },
    eng := { L.eng with checkOk := L.eng.checkOk && residue, residueOk := L.eng.residueOk && !residue, ucRaised := true } }
  let L := if f.kind == .statePoison then reportPoison me 0x25 part f.node.toNat L else report me (kindSrc f.kind) part f.node.toNat L
  let L := arrive me 0x50 clsUc (pay2 (oxReg2 L) 0) L
  if 3 ≤ L.ox.eventsWin then goFatal me 0x26 part f.node.toNat L else L

/-- The rollback after a poisoned state word or DELAY value rewrites what the partition's nodes read through DELAY (12 Table 12-2). A poisoned
node keeps the value it had before, so the value rewritten is the last that was not poisoned (log entry 76). -/
def rewriteDelays (c : Conf) (part : Nat) (ns : Nodes) : Nodes :=
  let srcs := ((c.partNodes part).map fun n => ((List.range (c.node n).nin.toNat).filter fun i =>
    (c.node n).conn i && ((c.node n).input i).delay).map fun i => ((c.node n).input i).node.toNat).flatten
  (srcs.filter fun n => (c.node n).part.toNat == part && (Nodes.st ns n).cur.poison != 0).foldl (fun ns n =>
    Store.write {} ns n { Nodes.st ns n with cur := { (Nodes.st ns n).cur with poison := 0 } }) ns

/-- A rollback reads the checkpoint, whose words decode as they are read; a poisoned one makes the lane FA (12 Table 12-2). -/
def rollback (me : LaneId) (part : Nat) (checkpointPoisoned : Option Nat) (f : CheckFault) (L : LaneSt) : LaneSt :=
  let L := checkEvent me part f L
  let L := if f.kind == .statePoison then { L with ox := { L.ox with nodes := rewriteDelays L.host.run part L.ox.nodes } } else L
  let (L, bad) := readPlace me (isUse fun u => u == .checkpoint part) L
  let L := match checkpointPoisoned with
    | none => L
    | some w => noteDed 3 w L
  if (checkpointPoisoned.isNone && !bad) || L.start.fa then L
  else goFatal me 0x11 part f.node.toNat { L with int := { L.int with poisonUsed := satInc L.int.poisonUsed } }

/-- Reads of the records and the state words of the partition's nodes (12 R373, R375). The rollback that follows a poisoned state word rewrites
it. -/
def noteStates (me : LaneId) (nodes : List Nat) (us : List Upset) (L : LaneSt) : LaneSt :=
  let state := isUse fun u => nodes.any fun n => u == .state n
  let bad := (L.int.poisoned.filter fun q => state q.1 q.2).map (·.2)
  let L := (readPlace me (isUse fun u => nodes.any fun n => u == .record n || u == .state n) L).1
  let L := bad.foldl (fun L w => cleanWord 3 w L) L
  us.foldl (fun L u => match u with
    | .statePoison n w => if nodes.contains n.toNat then cleanWord 3 w (noteDed 3 w L) else L
    | .stateSbe n w s => if nodes.contains n.toNat then readArray me 3 w (.single s) L else L
    | _ => L) L

/-- The writes of the partition's state words (12 R375): a data parity error stores the word poisoned. -/
def wroteStates (part : Nat) (L : LaneSt) : LaneSt :=
  wrotePlace (isUse fun u => (L.host.run.partNodes part).any fun n => u == .state n) L

/-! ## The redundant checks (04 R144–R146) -/

/-- The state words of a node that are compared, with their codes (04 R144, R145). Which of the codes 4–15 a state word has, the spec does not
say (DESIGN CHOICE, log entry 71). -/
def stateWords (t : Nat) (s : NodeSt) : List (Nat × Word) :=
  if t = tPi then [(4, s.integ.setWidth 32), (5, (s.integ >>> 32).setWidth 32)]
  else if t = tPid then [(4, s.integ.setWidth 32), (5, (s.integ >>> 32).setWidth 32), (6, s.d), (7, s.xPrev)]
  else if t = 0x0A || t = 0x0E || t = 0x1A then [(8, s.cur.o1)]
  else if t = 0x0F then [(8, s.h0), (9, s.h1), (10, s.h2), (11, s.h3)]
  else if t = 0x0D then [(8, s.h0), (9, s.h1), (10, BitVec.ofNat 32 s.cnt)]
  else if t = 0x19 then [(8, s.cur.o1), (9, BitVec.ofNat 32 s.cnt)]
  else []

/-- The nodes of a partition in loader order. -/
def inOrder (c : Conf) (part : Nat) (order : List Nat) : List Nat := order.filter fun n => (c.node n).part.toNat == part

/-- The writes of a node that are compared: node, word code and value (04 R144); an output word whose IN_USE is clear is none (04 R149). -/
def nodeWrites (c : Conf) (ns : Nodes) (n : Nat) : List (Nat × Nat × Word) :=
  let r := c.node n
  let s := Nodes.st ns n
  (((List.range 4).filter r.uses).map fun w => (n, w, s.cur.get w)) ++ (stateWords r.t s).map fun x => (n, x.1, x.2)

/-- A write as the upset datapath makes it. -/
def upsetWrite (us : List Upset) (w : Nat × Nat × Word) : Nat × Nat × Word :=
  (w.1, w.2.1, us.foldl (fun v u => match u with
    | .write n k m => if n.toNat = w.1 && k.toNat = w.2.1 then v ^^^ m else v
    | _ => v) w.2.2)

/-- The signature of a pass: the CRC-32 over its writes in loader order (04 R145). -/
def signatureOf (ws : List (Nat × Nat × Word)) : Word :=
  crc32 ((ws.map fun w => [BitVec.ofNat 8 w.1, BitVec.ofNat 8 w.2.1] ++ le32 w.2.2).flatten)

/-- Does the mod-15 residue check find an error in a result: is it no multiple of 15 (04 R146)? -/
def residueFinds (us : List Upset) (n : Nat) : Bool :=
  us.any fun u => match u with
    | .result m e => m.toNat == n && e % 15 != 0
    | _ => false

/-- The nodes of an execution that read a poisoned DELAY value (12 Table 12-2). -/
def badDelays (e : OxEnv) (old done : Nodes) (order : List Nat) : List Nat :=
  (inOrder e.conf e.part order).filter fun n =>
    let r := e.conf.node n
    (List.range r.nin.toNat).any fun i =>
      r.conn i && (r.input i).delay && (e.conf.node (r.input i).node.toNat).part == r.part && (readIn e old done r i).2

/-- What is found at a node, in the order in which an execution meets it: a poisoned state word or DELAY value as it is read, a residue mismatch
as it is computed, and in per-write mode a difference of the two datapaths as it is written. -/
def nodeFinds (c : Conf) (ns : Nodes) (us : List Upset) (ds : List Nat) (n : Nat) : Option CheckFault :=
  if (us.any fun u => match u with
    | .statePoison m _ => m.toNat == n
    | _ => false) || ds.contains n then some ⟨.statePoison, BitVec.ofNat 8 n⟩
  else if residueFinds us n then some ⟨.residue, BitVec.ofNat 8 n⟩
  else if !c.signature && (nodeWrites c ns n).any fun w => upsetWrite us w != w then some ⟨.perWrite, BitVec.ofNat 8 n⟩
  else none

/-- The check event that an execution ends in (04 R144–R147): at the first node that shows one; in signature mode from the signatures of the
two passes; and otherwise from an overrun. -/
def checkOf (c : Conf) (part : Nat) (order : List Nat) (ns : Nodes) (us : List Upset) (ds : List Nat) : Option CheckFault :=
  if us.isEmpty && ds.isEmpty then none
  else
    let o := inOrder c part order
    match o.findSome? (nodeFinds c ns us ds) with
    | some f => some f
    | none =>
      let ws := (o.map (nodeWrites c ns)).flatten
      if c.signature && signatureOf (ws.map (upsetWrite us)) != signatureOf ws then some ⟨.signature, 0xFF⟩
      else if us.contains .overrun then some ⟨.overrun, 0xFF⟩ else none

/-! ## Reads of table memory -/

/-- The array words of table memory that the table nodes of a finished execution read. -/
def tableWords (e : OxEnv) (old done : Nodes) (order : List Nat) : List Nat :=
  ((order.filter fun n => (e.conf.node n).part.toNat == e.part && (tableLens (e.conf.node n).t).isSome
      && !anyPoison e old done (e.conf.node n)).map fun n =>
    let x := evalTable e old done (e.conf.node n)
    [2048 + x.2.1 / 2, 2048 + x.2.2 / 2].eraseDups).flatten

/-- They decode as they are read: the uncorrectable words among them are queued for repair, and a corrected word is reported (12 R373). -/
def noteReads (me : LaneId) (bad : List Nat) (ws : List Nat) (L : LaneSt) : LaneSt :=
  ws.foldl (fun L w => (readBeat me 3 w (if bad.any fun i => 2048 + i / 2 == w then .double 0 else .clean) L).1) L

/-! ## Trace recording (04 R156–R158) -/

/-- The value a probe of a rate records: the value in use, in its own partition as last computed, else as visible. -/
def probeSample (L : LaneSt) (p : Probe) : Word × Bool :=
  let s := L.nst p.node.toNat
  let o := if (L.host.run.node p.node.toNat).part = p.rate then s.cur else s.vis
  if o.poison.getLsbD p.word.toNat then (0x80000000, true) else (o.get p.word.toNat, false)

/-- One sample into a ring, at a sample instant. -/
def Probe.put (p : Probe) (inst : Nat) (poison : Bool) : Probe :=
  let i := p.next
  let p' := { p with next := (i + 1) % max 1 p.depth, samples := p.samples + 1, insts := (inst :: p.insts).take 64,
                     poisonSeen := p.poisonSeen || poison }
  if p.state != .triggered then p'
  else if !p.waitOfs then Probe.settle { p' with post := p.post + 1 }
  else if inst < p.trigInst then p'
  else Probe.settle { p' with waitOfs := false, trigIndex := i, trigOfs := BitVec.ofNat 32 (inst - p.trigInst),
                              preValid := min p.samples p.pre, post := 1 }

/-- Does a probe record now? -/
def Probe.records (p : Probe) (rate : Nat) : Bool :=
  p.en && p.rate.toNat == rate && (p.state == .armed || p.state == .triggered)

/-- Every probe of a rate records. -/
def recordProbes (me : LaneId) (rate : Nat) (L : LaneSt) : LaneSt :=
  let inst := L.ox.inst10
  let old := L.trace.probes
  let new := old.map fun p => if p.records rate then p.put inst (probeSample L p).2 else p
  let cells := (old.filter fun p => p.records rate).map fun p => (p.base / 4 + p.next, (probeSample L p).1)
  let lost := L.writeHits fun m w => m == 4 && cells.any fun c => c.1 / 2 == w
  let mem := (cells.filter fun c => !(lost.any fun h => h.control && h.word == c.1 / 2)).foldl (fun m c => Store.write 0 m c.1 c.2) L.trace.mem
  let L := wrotePlace (fun m w => m == 4 && cells.any fun c => c.1 / 2 == w) L
  postProbes me old new { L with trace := { L.trace with probes := new, mem := mem } }

/-- Does the node comparison of the setup hold? A TURNS word compares as an angle without sign. -/
def trigHolds (t : TrigSetup) (turns : Bool) (v : Word) : Bool :=
  let lt := fun (a b : Word) => if turns then decide (a.toNat < b.toNat) else decide (a.toInt < b.toInt)
  match t.cmp.toNat with
  | 0 => lt t.value v
  | 1 => lt v t.value
  | 2 => if turns then decide (t.value.toNat < v.toNat) else decide (t.value.toInt < absI v.toInt)
  | _ => v == t.value

/-- The node comparison, after a passed execution of TRIG_NODE's partition. -/
def compareTrigger (me : LaneId) (part : Nat) (L : LaneSt) : LaneSt :=
  match L.trace.setup with
  | some t =>
    let r := L.host.run.node t.node.toNat
    let o := (L.nst t.node.toNat).cur
    if t.kind = 1 && r.part.toNat == part && !o.poison.getLsbD t.word.toNat
        && trigHolds t (r.outs.getD t.word.toNat false) (o.get t.word.toNat) then
      traceTrigger me 0 me L.ox.inst10 L
    else L
  | none => L

/-! ## Learning samples (03 R127) -/

/-- Add to a bin, in units of 2⁻⁴⁰ sample. -/
def Pass.add (p : Pass) (bin : Nat) (v weight : Int) : Pass :=
  { p with sums := Store.write 0 p.sums bin (Store.read 0 p.sums bin + v * weight),
           counts := Store.write 0 p.counts bin (Store.read 0 p.counts bin + weight.toNat) }

/-- One execution of NODE's partition on the lead. The first execution of a pass has no earlier speed for |speed change| ≤ ACC_MAX, and the
spec does not say what it does then: the model never counts that sample (DESIGN CHOICE, log entry 71). -/
def learnSample (e : OxEnv) (old done : Nodes) (L : LaneSt) (p : Pass) : Pass :=
  let r := e.conf.node p.node
  let fr := r.t == tFriction
  let speed := if fr then inOr e old done r 1 0 else e.obsSpeed
  let res := (if (e.conf.node p.resNode).part.toNat = e.part then (Nodes.st done p.resNode).cur else (Nodes.st done p.resNode).vis)
  let steady := match p.lastSpeed with
    | some s => absI (speed.toInt - s.toInt) ≤ p.accMax.toInt
    | none => false
  let q := { p with lastSpeed := some speed }
  if p.vMin.toInt ≤ absI speed.toInt && absI speed.toInt ≤ p.vMax.toInt && steady && L.ox.k == qOne && !anyManual L.ox.nodes
      && !anyPoison e old done r && !res.poison.getLsbD p.resWord.toNat then
    let v := (res.get p.resWord.toNat).toInt
    let v := if fr then v * signI speed.toInt else v
    let (i, j, f) :=
      if fr then
        let (i, f) := tableAt ((inI e old done r 0 - r.pI 0) * (r.p 1).toNat) 256
        (i, i + 1, f)
      else
        let th := inOr e old done r 0 0
        (fieldOf th 22 10, (fieldOf th 22 10 + 1) % 1024, (fieldOf th 0 22 : Int) * 262144)
    (q.add i v (qUnit40 - f)).add j v f
  else q

/-! ## After a passed execution -/

/-- What follows the end of an execution that has passed its check: medium and slow probes record, the node comparison is
made, and the lead's learning pass takes its sample. -/
def afterPass (me : LaneId) (e : OxEnv) (old done : Nodes) (L : LaneSt) : LaneSt :=
  let L := if e.part = 0 then L else recordProbes me e.part L
  let L := compareTrigger me e.part L
  match L.learn.pass with
  | some p =>
    if (e.conf.node p.node).part.toNat = e.part && L.eng.lead == some me then
      { L with learn := { L.learn with pass := some (learnSample e old done L p) } }
    else L
  | none => L

/-- The torque command that an execution of the TQ sink's partition leaves: what its in0 has read from the ARBITER, and the poison mark
(03 R95, R96, Table 3-5). -/
def arbiterTq (c : Conf) (part : Nat) (ns : Nodes) : Option (Word × Bool) :=
  match c.sinks 1 with
  | (n, r) :: _ => if r.part.toNat = part then some ((Nodes.st ns n).h0, (Nodes.st ns n).cur.poison.getLsbD 0) else none
  | [] => none

/-- Take a torque command for the record: a poisoned one leaves the last unpoisoned one (12 Table 12-2). -/
def takeTq (v : Option (Word × Bool)) (L : LaneSt) : LaneSt :=
  match v with
  | some (w, false) => { L with eng := { L.eng with tqOwn := w }, ox := { L.ox with tqPoison := false } }
  | some (_, true) => { L with ox := { L.ox with tqPoison := true } }
  | none => L

/-! ## Medium and slow executions (04 R137, R141) -/

def partRun (part : Nat) (L : LaneSt) : Option PartRun := if part = 1 then L.ox.medRun else L.ox.slowRun
def setRun (part : Nat) (r : Option PartRun) (L : LaneSt) : LaneSt :=
  if part = 1 then { L with ox := { L.ox with medRun := r } } else { L with ox := { L.ox with slowRun := r } }

/-- The requests that a node's execution consumes at its start. A value that was written makes the node fresh from here (03 R123). -/
def NodeSt.consume (s : NodeSt) : NodeSt :=
  { s with spNew := none, spFresh := s.spFresh || s.spNew.isSome, devPreset := none,
           herdSet := if s.devPreset.isSome then s.herdSet else none, kpOld := none }

/-- The requests of an execution that was discarded stand again, unless newer ones have come. -/
def NodeSt.restore (s : NodeSt) (old : NodeSt) : NodeSt :=
  { s with spNew := s.spNew.orElse fun _ => old.spNew, devPreset := s.devPreset.orElse fun _ => old.devPreset,
           herdSet := s.herdSet.orElse fun _ => old.herdSet, kpOld := s.kpOld.orElse fun _ => old.kpOld }

/-- The state after an execution: requests that came during it stand, as do a node that went stale (03 R124), an integrator that the preset of
a new lead has set (03 R119), and a SAT bit that has not been read (03 R100). -/
def NodeSt.install (now old done : NodeSt) : NodeSt :=
  { done with spNew := now.spNew, devPreset := now.devPreset, herdSet := now.herdSet, kpOld := now.kpOld, manual := now.manual,
              vis := now.vis, visInteg := now.visInteg, visBc := now.visBc, sat := now.sat || done.sat, spFresh := now.spFresh,
              integ := if now.integ = old.integ then done.integ else now.integ }

/-- Change the states of a partition's nodes. -/
def mapPart (c : Conf) (part : Nat) (f : Nat → NodeSt → NodeSt) (ns : Nodes) : Nodes :=
  (c.partNodes part).foldl (fun ns n => Store.write {} ns n (f n (Nodes.st ns n))) ns

/-- Host velocity mode at a medium execution (05 R189, R190): the blend advances, then the waiting changes apply in order. -/
def velStart (L : LaneSt) : LaneSt :=
  let n := L.host.run.nat Item.velBlend
  let v := match L.mot.vel with
    | some ⟨x, some (k, f)⟩ => if k < n then some ⟨x, some (k + 1, f)⟩ else none
    | v => v
  let v := L.mot.velReq.foldl (fun v r =>
    match r, v with
    | .enter, _ => some {}
    | .set w, some ⟨_, none⟩ => some { value := some w }
    | .exit, some ⟨some w, none⟩ => if n = 0 then none else some { value := some w, blend := some (1, w) }
    | .exit, some ⟨none, none⟩ => none
    | _, v => v) v
  { L with mot := { L.mot with vel := v, velReq := [] } }

/-- The host velocity value of an entry is the in0 of this execution. -/
def velTake (done : Nodes) (L : LaneSt) : LaneSt :=
  match L.mot.vel, L.host.run.ss1Ref with
  | some ⟨none, none⟩, some (n, _) => { L with mot := { L.mot with vel := some { value := some (Nodes.st done n).cur.o1 } } }
  | _, _ => L

/-- What waits for a medium execution: LANE_SS1 (11 R367) and velocity mode. -/
def medStart (me : LaneId) (L : LaneSt) : LaneSt :=
  let req := L.safe.ss1Req && L.mot.enabled
  let L := { L with safe := { L.safe with ss1Req := false } }
  let L := if req then startSs1 me 0x22 L else L
  velStart { L with safe := { L.safe with ss1 := L.safe.ss1.map fun r => { r with seen := true } } }

/-- The validity of the SS1 speed in an execution (02 R77): out2 of VOTED_SPEED or out4 of OBSERVER. -/
def ss1Valid (e : OxEnv) (old done : Nodes) (r : NodeRec) : Bool :=
  let i := r.input 1
  let w : BitVec 2 := if (e.conf.node i.node.toNat).t == tObserver then 3 else 1
  let x := readIn e old done { r with ins := [{ i with word := w }] } 0
  !x.2 && isTrue x.1

/-- The envelope at a medium sample (02 R77). -/
def ss1Sample (me : LaneId) (valid : Bool) (n : Word) (L : LaneSt) (r : Ss1Run) : LaneSt :=
  let c := L.host.run
  let n0 := r.n0.getD n
  let t := if r.n0.isSome then r.t + 1 else 0
  let a := absI n.toInt
  let per25 : Int := c.tf25 * c.nat Item.medDiv
  let late := absI n0.toInt * 400000000 + r.textra * 400000 * r.decel.toInt < t * per25 * r.decel.toInt
  let r' : Ss1Run :=
    if valid then
      { r with n0 := some n0, t := t, invalid := 0, seen := false,
               viol := if nRef c r.decel.toInt n0.toInt t + r.margin.toInt < a then r.viol + 1 else 0,
               still := if a ≤ r.stand.toInt then r.still + 1 else 0 }
    else { r with t := t, invalid := r.invalid + 1, still := 0, seen := false }
  let L := { L with safe := { L.safe with ss1 := some r' } }
  if r.n0.isNone && !valid then stopNow me 0x29 r.endState L
  else if 2 ≤ r'.viol then stopNow me 0x24 r.endState L
  else if 4 ≤ r'.still then stopNow me L.safe.stopCause r.endState L
  else if late then stopNow me 0x25 r.endState L
  else if 2 ≤ r'.invalid then stopNow me 0x29 r.endState L
  else L

/-- SS1 after a medium execution that started in its run. -/
def ss1After (me : LaneId) (e : OxEnv) (old done : Nodes) (L : LaneSt) : LaneSt :=
  match L.safe.ss1, e.conf.ss1Ref with
  | some r, some (n, rec) =>
    if e.part = 1 && r.seen then ss1Sample me (ss1Valid e old done rec) (Nodes.st done n).h1 L r else L
  | _, _ => L

/-- An execution starts, and its work is spread over the slices. Whether an execution that spans several fast samples reads the other partitions
and the SRC quantities as they are at its start or as each node runs, the spec does not say: the model takes all of them at the start
(DESIGN CHOICE, log entry 71). -/
def startPart (me : LaneId) (part : Nat) (us : List Upset) (poisonedTable : List Nat) (L : LaneSt) : LaneSt :=
  let c := L.host.run
  let L := if part = 1 then medStart me L else L
  let e := envOf me part poisonedTable L
  let old := L.ox.nodes
  let done := runNodes e L.ox.order (mapPart c part (fun _ s => { s with sat := false }) old)
  let L := if part = 1 then velTake done L else L
  let all := us ++ badStates L
  let L := noteStates me (c.partNodes part) us (noteReads me poisonedTable (tableWords e old done L.ox.order) L)
  setRun part (some { cycles := c.work part, start := old, done := done,
                      fault := checkOf c part L.ox.order done all (badDelays e old done L.ox.order) })
    { L with ox := { L.ox with nodes := mapPart c part (fun _ s => s.consume) old } }

/-- Give up an execution in progress, and put back what it consumed. -/
def abandonPart (part : Nat) (L : LaneSt) : LaneSt :=
  match partRun part L with
  | some r =>
    setRun part none { L with ox := { L.ox with nodes := mapPart L.host.run part (fun n s => s.restore (Nodes.st r.start n)) L.ox.nodes } }
  | none => L

/-- An execution ends: passed, its states are installed; failed, it is rolled back. A learning sample takes the observer speed for COGGING, k and
manual mode as they are now; at which moment of a medium or slow execution they count, 03 R127 does not say (DESIGN CHOICE, log entry 71). -/
def endPart (me : LaneId) (part : Nat) (checkpointPoisoned : Option Nat) (L : LaneSt) : LaneSt :=
  match partRun part L with
  | none => L
  | some r =>
    match r.fault with
    | some f =>
      let L := rollback me part checkpointPoisoned f (abandonPart part L)
      recordProbes me part L
    | none =>
      let c := L.host.run
      let ns := mapPart c part (fun n s => s.install (Nodes.st r.start n) (Nodes.st r.done n)) L.ox.nodes
      let L := wroteStates part (setRun part none { L with ox := { L.ox with nodes := ns, medFresh := L.ox.medFresh || part == 1,
                                                                             slowFresh := L.ox.slowFresh || part == 2 } })
      let e := envOf me part [] L
      ss1After me e r.start r.done (afterPass me e r.start r.done L)

/-- Results of executions that completed before this sample become visible (03 R96). -/
def showAll (L : LaneSt) : LaneSt :=
  let o := L.ox
  let c := L.host.run
  let ns := if o.fastFresh then showPart c 0 o.nodes else o.nodes
  let ns := if o.medFresh then showPart c 1 ns else ns
  let ns := if o.slowFresh then showPart c 2 ns else ns
  { L with ox := { o with nodes := ns, fastFresh := false, medFresh := false, slowFresh := false } }

/-! ## Activation (03 R117, 04 R143) -/

/-- Take the OBSERVER's parameters, unadjusted (03 R121): ALIGNED stands while the sensor does (06 R208), and the counter holds the period count
modulo the new N (06 R204). -/
def takeObs (L : LaneSt) : LaneSt :=
  let o := L.host.run.obs
  { L with sen := { L.sen with obsPp := o.pp, obsN := o.n, obsOfs := o.ofs, period := L.sen.period % max 1 o.n } }

/-- Activate the graph of the running configuration: at a hand-over from Colt with the effort Colt applied. -/
def activate (me : LaneId) (effort : Word) (L : LaneSt) : LaneSt :=
  let c := L.host.run
  let L := takeObs (abortLearn me L)
  { L with
    ox := { L.ox with graphState := if c.graph.isEmpty then .none else .active, signature := c.signature, order := c.order,
                      nodes := freshNodes c, fastCount := 0, medCount := 0, counting := false, medRun := none, slowRun := none,
                      medFresh := false, slowFresh := false, fastFresh := false, staged := { duties := none, poisoned := false },
                      fastEndMax := 0, integIdx := 0, k := qOne, coltEffort := effort, tqPoison := false, tqNext := none,
                      cycleSeen := none, dbgNext := 0, dbgPart := 0, dbgCount := 0, dbgRun := none, medRestart := false, sinksNext := [] },
    eng := { L.eng with tqOwn := 0 },
    mot := { L.mot with depth := false },
    sen := { L.sen with nValid := 0, speedValid := false, speed := 0, haveTh := false, obsW := 0 } }

/-! ## The preset of a new lead (03 R119, 04 R142) -/

/-- The limits of a loop's integrator: I_LO and I_HI of a PI, OUT_LO and OUT_HI of a PID. -/
def NodeRec.iLimits (r : NodeRec) : Int × Int := (r.pI 6, r.pI 5)

/-- Preset the winning loop so that the torque command is `tq`. -/
def presetLead (tq : Word) (L : LaneSt) : LaneSt :=
  let c := L.host.run
  match c.arbiter with
  | none => L
  | some (a, ar) =>
    let L := if ar.part = 1 then abandonPart 1 L else L
    let win := ((L.nst a).cur.o2.toInt / qUnit).toNat
    let src := (ar.input win).node.toNat
    let pr := c.node src
    let L := if ar.conn win && (ar.input win).word == 0 && pr.isPi then
        updNode src (fun s =>
          let t := if ar.mode == 1 && win != 0 then absI tq.toInt else tq.toInt
          let i := clampI (t - s.p.toInt - s.d.toInt - s.ff.toInt) pr.iLimits.1 pr.iLimits.2
          { s with integ := sat48 (i * 65536) }) L
      else L
    let L := updNode a (fun s => { s with cur := { s.cur with o1 := tq, poison := s.cur.poison &&& 0xE },
                                          vis := { s.vis with o1 := tq, poison := s.vis.poison &&& 0xE } }) L
    { L with eng := { L.eng with tqOwn := tq }, ox := { L.ox with tqPoison := false, tqNext := none } }

end Sys2Proof.Machine
end

