-- ==== Sys2Proof/Machine/OxOps.lean ====
section
/-! DEFINITION. The OX opcodes but OX_LEARN_COMMIT (11 R353, R356, R357, R360, R361; 03 R120–R129; 04 R151–R161).
Log entries: 61 (DEDUCED); 60 (DESIGN CHOICE). -/

namespace Sys2Proof.Machine

/-! ## Staging (11 R356, R357) -/

/-- The transaction of a sender, if it is open. -/
def LaneSt.transOf (L : LaneSt) (h : Sender) : Option Trans :=
  match L.host.trans with
  | some t => if t.owner = h then some t else none
  | none => none

/-- Stage a change of the graph or the tables. -/
def stage (t : Trans) (want : Conf) (structural loaded : Bool) (L : LaneSt) : LaneSt × Option LaneRes :=
  ({ L with host := { L.host with trans := some { t with want := want, structural := t.structural || structural,
                                                         loaded := t.loaded || loaded } } }, some okRes)

/-- The records of a load block, with their node numbers. -/
def loadRecords (blk : List Byte) : List (Nat × List Byte) :=
  (List.range (blk.length / 64)).map fun i =>
    let b := (blk.drop (64 * i)).take 64
    ((byteAt b 60).toNat, b)

/-- A block of 1 to 15 records whose NODE rises by 1, with reserved fields 0. -/
def loadOk (blk : List Byte) : Bool :=
  let rs := loadRecords blk
  blk.length % 64 == 0 && 1 ≤ rs.length && rs.length ≤ 15
  && ((List.range rs.length).all fun i => (rs.getD i (0, [])).1 == (rs.getD 0 (0, [])).1 + i)
  && rs.all fun r => recReservedOk r.2

def putRecord64 (c : Conf) (r : Nat × List Byte) : Conf :=
  let n := NodeRec.ofBytes r.2
  { c with graph := if n.typ = 0 then Store.erase c.graph r.1 else Store.write NodeRec.empty c.graph r.1 n }

/-- OX_GRAPH_LOAD: stages up to 15 node records. It counts as loaded, so the commit stores (09 R320). -/
def opGraphLoad (_ : LaneId) (h : Sender) (blk : List Byte) (L : LaneSt) : LaneSt × Option LaneRes :=
  match L.transOf h with
  | some t => checked [(loadOk blk, stBadParam)] L (stage t ((loadRecords blk).foldl putRecord64 t.want) true true L)
  | none => checked [(loadOk blk, stBadParam), (false, stNotInState)] L (L, some okRes)

/-- OX_TABLE_LOAD: stages table entries. -/
def opTableLoad (_ : LaneId) (h : Sender) (blk : List Byte) (L : LaneSt) : LaneSt × Option LaneRes :=
  let first := (rd16 blk 0).toNat
  let n := (rd16 blk 2).toNat
  let ok := blk.length == 8 + 4 * n && zerosAt blk 4 4 && first ≤ 24575 && 1 ≤ n && n ≤ 238 && first + n ≤ 24576
  match L.transOf h with
  | some t => checked [(ok, stBadParam)] L
      (stage t { t.want with table := Store.writes 0 t.want.table first (wordsOf n (blk.drop 8)) } true true L)
  | none => checked [(ok, stBadParam), (false, stNotInState)] L (L, some okRes)

/-- The width of a field of OX_PARAM_SET in bits (11 Table 11-8); none for a reserved code. -/
def fieldWidth (f : Nat) : Option Nat :=
  if f ≤ 0x08 then some 32
  else if f = 0x09 then some 8
  else if f ≤ 0x0C then some 4
  else if 0x10 ≤ f && f ≤ 0x17 then some 12
  else if f = 0x18 || f = 0x19 then some 16
  else none

/-- Set a field of a record. -/
def NodeRec.setField (r : NodeRec) (f : Nat) (v : Word) : NodeRec :=
  if f < 0x08 then { r with ps := (List.range 8).map fun i => if i = f then v else r.ps.getD i 0 }
  else if f = 0x08 then { r with attr := v }
  else if f = 0x09 then
    { r with part := v.setWidth 2, tracked := v.getLsbD 2, trackIdx := (v >>> 3).setWidth 3, muleScaled := v.getLsbD 6,
             arbiter := v.getLsbD 7 }
  else if f = 0x0A then { r with mode := v.setWidth 4 }
  else if f = 0x0B then { r with inUse := v.setWidth 4 }
  else if f = 0x0C then { r with nin := v.setWidth 4 }
  else if f = 0x18 then { r with tblBase := v.setWidth 16 }
  else if f = 0x19 then { r with tblLen := v.setWidth 16 }
  else { r with ins := (List.range 8).map fun i => if i + 0x10 = f then InRef.ofHalf (v.setWidth 16) else r.ins.getD i {} }

/-- OX_PARAM_SET: the staged graph is looked at once the transaction is known to be open. -/
def opParamSet (_ : LaneId) (h : Sender) (blk : List Byte) (L : LaneSt) : LaneSt × Option LaneRes :=
  let n := (byteAt blk 0).toNat
  let f := (byteAt blk 1).toNat
  let v := rd32 blk 4
  let ok := blk.length == 8 && zerosAt blk 2 2 && (match fieldWidth f with
    | some w => v.toNat < 2 ^ w
    | none => false)
  match L.transOf h with
  | some t =>
    let r := t.want.node n
    checked [(ok && r.typ != 0, stBadParam)] L
      (stage t { t.want with graph := Store.write NodeRec.empty t.want.graph n (r.setField f v) } (8 ≤ f) false L)
  | none => checked [(ok, stBadParam), (false, stNotInState)] L (L, some okRes)

/-! ## OX_GRAPH_INFO (11 R360) -/

/-- The highest table word that a node's table uses, plus 1. -/
def Conf.tableTop (c : Conf) : Nat :=
  (c.graph.map fun p => if (tableLens p.2.t).isSome then p.2.tblBase.toNat + p.2.tblLen.toNat else 0).foldl max 0

/-- GRAPH_CRC: CRC-32C over the 256 records in node order, then table memory up to the highest used word. -/
def Conf.graphCrc (c : Conf) : Word :=
  crc32c (((List.range 256).map fun n => (c.node n).bytes).flatten
    ++ ((Store.reads 0 c.table 0 c.tableTop).map le32).flatten)

def opGraphInfo (_ : LaneId) (_ : Sender) (blk : List Byte) (L : LaneSt) : LaneSt × Option LaneRes :=
  let c := if L.ox.graphState == .none then {} else L.host.run
  let tracked := (c.graph.filter fun p => p.2.tracked).length
  let b := [BitVec.ofNat 8 (c.partNodes 0).length, BitVec.ofNat 8 (c.partNodes 1).length, BitVec.ofNat 8 (c.partNodes 2).length,
      BitVec.ofNat 8 (L.ox.graphState.code + 4 * b2n L.ox.signature)]
    ++ le16 (BitVec.ofNat 16 c.tableTop) ++ [BitVec.ofNat 8 tracked, L.eng.gen] ++ le32 c.graphCrc
    ++ le32 (match L.host.trans with
      | some t => t.want.graphCrc
      | none => 0)
  checked [(noBlock blk, stBadParam)] L (L, some (replyRes b))

/-! ## Setpoints and manual mode (03 R120, R122, R123) -/

/-- SS1 runs, or the device is STOPPED. -/
def LaneSt.stopping (L : LaneSt) : Bool := L.safe.ss1.isSome || L.safe.state == .stopped

/-- Is a HOST_SP bound to a sender? -/
def NodeRec.boundTo (r : NodeRec) : Sender → Bool
  | .spi l => r.bindKind == l.num
  | .remote n => r.bindKind == 3 && r.bindNum == n.val

def opSetpoint (_ : LaneId) (tid : Nat) (h : Sender) (blk : List Byte) (L : LaneSt) : LaneSt × Option LaneRes :=
  let n := (byteAt blk 0).toNat
  let r := L.host.run.node n
  let v := rd32 blk 4
  checked [(blk.length == 8 && zerosAt blk 1 3 && r.t == tSrc && r.kind == 1, stBadParam),
    (r.boundTo h && (L.privOf tid h).covers .operator, stNotPermitted),
    (r.pI 2 ≤ v.toInt && v.toInt ≤ r.pI 3, stBadParam),
    (minimalOk 0x0210 L && L.ox.graphState == .active && !L.stopping, stNotInState)] L
    (updNode n (fun s => { s with spNew := some v }) L, some okRes)

def opManual (_ : LaneId) (_ : Sender) (blk : List Byte) (L : LaneSt) : LaneSt × Option LaneRes :=
  let n := (byteAt blk 0).toNat
  checked [(blk.length == 8 && zerosAt blk 1 3 && (L.host.run.node n).isPi, stBadParam),
    (minimalOk 0x0212 L && L.ox.graphState == .active && L.safe.ss1.isNone, stNotInState)] L
    (updNode n (fun s => { s with manual := some (rd32 blk 4) }) L, some okRes)

def opAuto (_ : LaneId) (_ : Sender) (blk : List Byte) (L : LaneSt) : LaneSt × Option LaneRes :=
  let n := (byteAt blk 0).toNat
  checked [(blk.length == 4 && zerosAt blk 1 3 && (L.host.run.node n).isPi, stBadParam),
    (minimalOk 0x0213 L && (L.nst n).manual.isSome, stNotInState)] L
    (updNode n (fun s => { s with manual := none }) L, some okRes)

/-! ## Learning (03 R126–R129) -/

def NodeRec.learns (r : NodeRec) : Bool := r.t == tFriction || r.t == tCogging

/-- OX_LEARN_START: the pass runs on the lead; the other lanes check the block and their state. -/
def opLearnStart (me : LaneId) (_ : Sender) (blk : List Byte) (L : LaneSt) : LaneSt × Option LaneRes :=
  let n := (byteAt blk 0).toNat
  let rn := (byteAt blk 1).toNat
  let rw := (byteAt blk 2).toNat
  let c := L.host.run
  let gain := (rd32 blk 16).toInt
  let time := (rd32 blk 28).toNat
  checked [(blk.length == 32 && rw < 4 && zerosAt blk 3 1 && zerosAt blk 26 2 && (c.node n).learns && rw < (c.node rn).outs.length
      && (c.node rn).typ != 0, stBadParam),
    (0 ≤ gain && gain ≤ qUnit && 0 < (rd32 blk 20).toInt && rd16 blk 24 != 0 && 1 ≤ time && time ≤ 3600000, stBadParam),
    (minimalOk 0x0220 L && L.learn.pass.isNone && L.mot.enabled && !L.safe.mule && L.safe.ss1.isNone, stNotInState)] L
    (if L.eng.lead == some me then
      ({ L with learn := { L.learn with pass := some (
          { node := n, resNode := rn, resWord := (byteAt blk 2).setWidth 2, vMin := rd32 blk 4, vMax := rd32 blk 8,
            accMax := rd32 blk 12, gain := rd32 blk 16, stepMax := rd32 blk 20, nMin := (rd16 blk 24).toNat, timeMax := time,
            sums := [], counts := [], lastSpeed := none } : Pass) } }, some okRes)
    else (L, some okRes))

/-- The bins of a learning node. -/
def Pass.bins (c : Conf) (p : Pass) : Nat := if (c.node p.node).t = tFriction then 256 else 1024

/-- Does a bin have N_MIN samples? -/
def Pass.full (p : Pass) (i : Nat) : Bool := (p.nMin : Int) * qUnit40 ≤ (Store.read 0 p.counts i : Nat)

/-- The proposal of a bin: live + clamp(GAIN × sum / count, −STEP_MAX, STEP_MAX). -/
def Pass.propose (p : Pass) (live : Word) (i : Nat) : Word :=
  if p.full i then
    let g := roundDiv (p.gain.toInt * Store.read 0 p.sums i) ((Store.read 0 p.counts i : Nat) * qUnit)
    satQ (live.toInt + clampI g (-p.stepMax.toInt) p.stepMax.toInt)
  else live

/-- A pass ends with an outcome: 0 complete, 1 stopped, 2 time limit (03 R128). -/
def endPass (me : LaneId) (outcome : Byte) (L : LaneSt) : LaneSt :=
  match L.learn.pass with
  | none => L
  | some p =>
    let c := L.host.run
    let base := (c.node p.node).tblBase.toNat
    let live := Store.reads 0 c.table base (p.bins c)
    let new := (List.range (p.bins c)).map fun i => p.propose (live.getD i 0) i
    let changed := ((List.range (p.bins c)).filter p.full).length
    let most := (List.range (p.bins c)).foldl (fun m i => max m (absI ((new.getD i 0).toInt - (live.getD i 0).toInt))) 0
    arrive me 0x51 clsInfo (payBytes ([BitVec.ofNat 8 p.node, outcome] ++ le16 (BitVec.ofNat 16 changed) ++ le32 (satQ most)))
      { L with learn := { pass := none, proposal := some (p.node, new) } }

/-- The pass ends when every bin has N_MIN samples. -/
def checkPass (me : LaneId) (L : LaneSt) : LaneSt :=
  match L.learn.pass with
  | some p => if (List.range (p.bins L.host.run)).all p.full then endPass me 0 L else L
  | none => L

/-- The block of OX_LEARN_STOP, _COMMIT and _DISCARD names a FRICTION or COGGING node. -/
def learnBlock (L : LaneSt) (blk : List Byte) : Bool :=
  blk.length == 4 && zerosAt blk 1 3 && (L.host.run.node (byteAt blk 0).toNat).learns

def LaneSt.passOn (L : LaneSt) (n : Nat) : Bool := match L.learn.pass with
  | some p => p.node == n
  | none => false

def LaneSt.proposalOn (L : LaneSt) (n : Nat) : Bool := match L.learn.proposal with
  | some p => p.1 == n
  | none => false

def opLearnStop (me : LaneId) (_ : Sender) (blk : List Byte) (L : LaneSt) : LaneSt × Option LaneRes :=
  let isLead := L.eng.lead == some me
  checked [(learnBlock L blk, stBadParam),
    (minimalOk 0x0221 L && (!isLead || L.passOn (byteAt blk 0).toNat), stNotInState)] L
    (if isLead then (endPass me 1 L, some okRes) else (L, some okRes))

def opLearnDiscard (me : LaneId) (_ : Sender) (blk : List Byte) (L : LaneSt) : LaneSt × Option LaneRes :=
  let n := (byteAt blk 0).toNat
  let isLead := L.eng.lead == some me
  checked [(learnBlock L blk, stBadParam), (!isLead || L.passOn n || L.proposalOn n, stNotInState)] L
    (if isLead then (abortLearn me L, some okRes) else (L, some okRes))

/-- LEARN_TIME_LIMIT. -/
def execLearnTimeLimit (l : LaneId) (s : State) : Out := onLaneIf l LaneSt.running (endPass l 2) s

/-! ## OX_NODE_READ -/

/-- An entry of the reply (11 Table 11-10). -/
def nodeEntry (L : LaneSt) (n : Nat) : List Byte :=
  let r := L.host.run.node n
  let s := L.nst n
  let words := (List.range 4).map fun w => if w < r.outs.length && r.inUse.getLsbD w then le32 (s.vis.get w) else zeros 4
  words.flatten ++ [BitVec.ofNat 8 (b2n s.sat + 2 * s.vis.poison.toNat), BitVec.ofNat 8 (r.part.toNat + 4 * b2n s.manual.isSome),
    r.typ, 0]

def opNodeRead (_ : LaneId) (_ : Sender) (blk : List Byte) (L : LaneSt) : LaneSt × Option LaneRes :=
  let n := (byteAt blk 0).toNat
  let ns := (List.range n).map fun i => (byteAt blk (1 + i)).toNat
  checked [(blk.length == 20 && 1 ≤ n && n ≤ 16 && zerosAt blk (1 + n) (19 - n)
      && ns.all fun i => (L.host.run.node i).typ != 0, stBadParam)] L
    (ns.foldl (fun L i => updNode i (fun s => { s with sat := false }) L) L, some (replyRes (ns.map (nodeEntry L)).flatten))

/-! ## Debug (04 R151–R154) -/

/-- Would the loss of a lane lead to Mule mode or Stop (02 R67)? -/
def lossStops (me j : LaneId) (L : LaneSt) : Bool :=
  let L' := addFault { kind := .lane, lane := j } { L with eng := { L.eng with healthy := L.eng.healthy.set j false } }
  muleConds me L' != 0 || stopTest me L'

/-- Is a lane DEBUG_ACTIVE, as this lane knows? -/
def LaneSt.debugOf (me : LaneId) (L : LaneSt) (j : LaneId) : Bool :=
  if j = me then L.eng.debug || L.eng.debugReq == some true else match L.eng.recs.get j with
    | some h => h.r.debug
    | none => false

def opDebugEnter (me : LaneId) (_ : Sender) (blk : List Byte) (L : LaneSt) : LaneSt × Option LaneRes :=
  let n := (byteAt blk 0).toNat
  let bad := match LaneId.ofNum n with
    | some j => L.debugOf me j || (L.mot.enabled && lossStops me j L)
    | none => true
  checked [(blk.length == 4 && zerosAt blk 1 3 && n < 3, stBadParam),
    (minimalOk 0x0240 L && L.healthyNum n && !bad, stNotInState)] L
    (if n = me.num then ({ L with eng := { L.eng with debugReq := some true } }, some okRes)
    else ({ L with eng := { L.eng with debugNamed := LaneId.ofNum n } }, some okRes))

/-- The next partition in schedule order that has nodes, from partition `p` of debug sample `k`. -/
def nextPart (c : Conf) : Nat → Nat → Nat → Nat × Nat
  | 0, p, k => (p, k)
  | fuel + 1, p, k =>
    let (p', k') :=
      if p = 0 then (if k % c.nat Item.medDiv = 0 then (1, k) else (0, k + 1))
      else if p = 1 then (if k / c.nat Item.medDiv % max 1 c.slowN = 0 then (2, k) else (0, k + 1))
      else (0, k + 1)
    if (c.partNodes p').isEmpty then nextPart c fuel p' k' else (p', k')

/-- The node about to execute, where the graph has one: the partition in progress moves on past empty partitions. -/
def dbgNode (L : LaneSt) : Option Nat :=
  let ns := L.ox.order.filter fun n => (L.host.run.node n).part == L.ox.dbgPart
  ns[L.ox.dbgNext]?

/-- Move to the first partition that has nodes. -/
def dbgSettle (L : LaneSt) : LaneSt :=
  if (dbgNode L).isSome || L.host.run.graph.isEmpty then L
  else
    let c := L.host.run
    let (p, k) := nextPart c (3 * c.nat Item.medDiv * max 1 c.slowN + 3) L.ox.dbgPart.toNat L.ox.dbgCount
    { L with ox := { L.ox with dbgPart := BitVec.ofNat 2 p, dbgCount := k, dbgNext := 0 } }

/-- The PWM sink writes its duties to be staged (R153). -/
def dbgStage (n : Nat) (L : LaneSt) : LaneSt :=
  let r := L.host.run.node n
  let s := L.nst n
  if r.t == tSink && r.kind == 2 then
    { L with ox := { L.ox with staged := { L.ox.staged with duties := some ⟨s.h0, s.h1, s.h2⟩, poisoned := s.cur.poison.getLsbD 0 } } }
  else L

/-- A residue mismatch in debug is reported, and not counted (R153). -/
def dbgResidue (me : LaneId) (us : List Upset) (part n : Nat) (L : LaneSt) : LaneSt :=
  if residueFinds us n then report me 0x23 part n { L with eng := { L.eng with ucRaised := true } } else L

/-- Execute the next node on the primary datapath alone; sources read live values. The last node of a partition makes its
results visible. -/
def dbgStep (me : LaneId) (us : List Upset) (L : LaneSt) : LaneSt :=
  let L := dbgSettle L
  match dbgNode L with
  | none => L
  | some n =>
    let L := if L.ox.dbgNext = 0 then { L with ox := { L.ox with dbgOld := L.ox.nodes } } else L
    let part := L.ox.dbgPart.toNat
    let e := envOf me part [] L
    let L := noteStates me [n] [] (noteReads me [] (tableWords e L.ox.dbgOld L.ox.nodes [n]) L)
    let L := { L with ox := { L.ox with nodes := stepNode e L.ox.dbgOld L.ox.nodes n, dbgNext := L.ox.dbgNext + 1 } }
    let L := dbgResidue me us part n (dbgStage n L)
    if (dbgNode L).isSome then L
    else
      let c := L.host.run
      let L := { L with ox := { L.ox with nodes := showPart c part L.ox.nodes } }
      let (p, k) := nextPart c (3 * c.nat Item.medDiv * max 1 c.slowN + 3) part L.ox.dbgCount
      { L with ox := { L.ox with dbgPart := BitVec.ofNat 2 p, dbgCount := k, dbgNext := 0 } }

/-- The result of a run (11 Table 11-2). -/
def runResult (broke : Bool) (samples : Nat) : LaneRes :=
  resultRes (packWord [(0, b2n broke), (16, min 65535 samples)])

/-- End a run. -/
def endRun (me : LaneId) (broke : Bool) (samples : Nat) (L : LaneSt) : LaneSt :=
  let tid := L.ox.dbgTid
  finishOpt me tid (runResult broke samples) { L with ox := { L.ox with dbgRun := none, dbgTid := none } }

/-- The nodes that a run executes in one fast sample, that of the schedule's sample `dbgAt`: those that the schedule has up to the end of that
sample, or up to the break node. Answers whether it broke. -/
def dbgSample (me : LaneId) (us : List Upset) (brk : Option Nat) : Nat → LaneSt → LaneSt × Bool
  | 0, L => (L, false)
  | fuel + 1, L =>
    let L := dbgSettle L
    if L.ox.dbgAt < L.ox.dbgCount then (L, false)
    else match dbgNode L with
    | none => (L, false)
    | some n => if brk == some n then (L, true) else dbgSample me us brk fuel (dbgStep me us L)

def opDebugStep (me : LaneId) (us : List Upset) (_ : Sender) (blk : List Byte) (L : LaneSt) : LaneSt × Option LaneRes :=
  checked [(noBlock blk, stBadParam),
    (minimalOk 0x0241 L && L.eng.debug && !L.eng.halted && L.ox.dbgRun.isNone, stNotInState)] L
    (dbgStep me us L, some okRes)

/-- OX_DEBUG_RUN: from the next fast sample; the completion is written when the run ends. -/
def opDebugRun (_ : LaneId) (tid : Nat) (_ : Sender) (blk : List Byte) (L : LaneSt) : LaneSt × Option LaneRes :=
  let n := (rd16 blk 0).toNat
  let b := (byteAt blk 2).toNat
  let f := (byteAt blk 3).toNat
  checked [(blk.length == 4 && f < 2, stBadParam), (n != 0, stBadParam),
    (minimalOk 0x0242 L && L.eng.debug && !L.eng.halted && L.ox.dbgRun.isNone, stNotInState)] L
    ({ L with ox := { L.ox with dbgRun := some (n, 0, if b = 0xFF && f = 0 then none else some b), dbgTid := some tid } }, none)

/-- OX_DEBUG_EXIT: at the next fast sample. -/
def opDebugExit (_ : LaneId) (_ : Sender) (blk : List Byte) (L : LaneSt) : LaneSt × Option LaneRes :=
  checked [(noBlock blk, stBadParam), (minimalOk 0x0243 L && L.eng.debug && !L.eng.halted, stNotInState)] L
    ({ L with eng := { L.eng with debugReq := some false } }, some okRes)

/-! ## Trace (04 R155–R161) -/

/-- The probe setups of the block, as IDLE probes without depth. -/
def setupProbe (blk : List Byte) (p : Nat) : Probe :=
  let b := byteAt blk (4 * p + 1)
  { node := byteAt blk (4 * p), word := b.setWidth 2, rate := (b >>> 2).setWidth 2, en := b.getLsbD 7, prePct := byteAt blk 32 }

/-- The reserved fields of OX_TRACE_SETUP are 0 (04 Table 4-6). -/
def setupForm (blk : List Byte) : Bool :=
  blk.length == 48 && ((List.range 8).all fun p => (byteAt blk (4 * p + 1)) &&& 0x70 == 0 && zerosAt blk (4 * p + 2) 2)
  && (byteAt blk 33).toNat < 4 && (byteAt blk 35).toNat < 16 && (byteAt blk 40).toNat < 8 && (byteAt blk 42).toNat < 2
  && zerosAt blk 43 5

/-- A word of a node that is in use. -/
def wordInUse (c : Conf) (n w : Nat) : Bool :=
  let r := c.node n
  r.typ != 0 && w < r.outs.length && r.inUse.getLsbD w

/-- The values a setup may have. -/
def setupOk (c : Conf) (blk : List Byte) : Bool :=
  let ps := (List.range 8).map (setupProbe blk)
  let cy := (byteAt blk 41).toNat
  (ps.all fun p => p.rate != 3 && (!p.en || wordInUse c p.node.toNat p.word.toNat)) && (ps.any fun p => p.en)
  && (byteAt blk 32).toNat ≤ 100 && (cy < 64 || cy == 255)
  && (byteAt blk 33 != 1 || wordInUse c (byteAt blk 34).toNat ((byteAt blk 35).toNat % 4))

/-- The depth by the number of enabled probes (04 Table 4-5). -/
def depthOf (n : Nat) : Nat := if n ≤ 1 then 32768 else if n = 2 then 16384 else if n ≤ 4 then 8192 else 4096

/-- The probes of a setup, with depths and consecutive slots. -/
def setupProbes (blk : List Byte) : List Probe :=
  let ps := (List.range 8).map (setupProbe blk)
  let d := depthOf (ps.filter fun p => p.en).length
  (List.range 8).map fun i =>
    let p := ps.getD i {}
    if p.en then { p with depth := d, base := 4 * d * ((ps.take i).filter fun q => q.en).length } else p

/-- A probe is armed or triggered. -/
def LaneSt.tracing (L : LaneSt) : Bool := L.trace.armReq || L.trace.probes.any fun p => p.state == .armed || p.state == .triggered

def opTraceSetup (_ : LaneId) (_ : Sender) (blk : List Byte) (L : LaneSt) : LaneSt × Option LaneRes :=
  let b35 := byteAt blk 35
  checked [(setupForm blk, stBadParam), (setupOk L.host.run blk, stBadParam), (!L.tracing, stNotInState)] L
    ({ L with trace := { L.trace with probes := setupProbes blk, setup := some (
        { kind := (byteAt blk 33).setWidth 2, node := byteAt blk 34, word := b35.setWidth 2, cmp := (b35 >>> 2).setWidth 2,
          value := rd32 blk 36, faultMask := (byteAt blk 40).setWidth 3, cycle := byteAt blk 41, cross := (byteAt blk 42).getLsbD 0 } : TrigSetup) } },
     some okRes)

def opTraceArm (_ : LaneId) (_ : Sender) (blk : List Byte) (L : LaneSt) : LaneSt × Option LaneRes :=
  checked [(noBlock blk, stBadParam), (minimalOk 0x0251 L && L.trace.setup.isSome && !L.tracing, stNotInState)] L
    ({ L with trace := { L.trace with armReq := true } }, some okRes)

/-- At the next fast sample every enabled probe is ARMED with an empty ring. -/
def armProbes (L : LaneSt) : LaneSt :=
  if L.trace.armReq then
    { L with trace := { L.trace with armReq := false, probes := L.trace.probes.map fun p =>
        if p.en then { p with state := .armed, next := 0, samples := 0, post := 0, preValid := 0, trigIndex := 0, trigTime := 0,
                              trigOfs := 0, trigInst := 0, trigSrc := 0, trigLane := 0, waitOfs := false, poisonSeen := false,
                              timeUnsync := false, insts := [] }
        else p } }
  else L

def opTraceTrigger (me : LaneId) (_ : Sender) (blk : List Byte) (L : LaneSt) : LaneSt × Option LaneRes :=
  checked [(noBlock blk, stBadParam),
    (minimalOk 0x0252 L && L.trace.probes.any fun p => p.state == .armed, stNotInState)] L
    (traceTrigger me 2 me L.time.clk10 L, some okRes)

def opTraceStop (_ : LaneId) (_ : Sender) (blk : List Byte) (L : LaneSt) : LaneSt × Option LaneRes :=
  checked [(noBlock blk, stBadParam)] L (freezeTrace L, some okRes)

/-- The samples of a read: from a ring index upward, wrapping. -/
def ringRead (L : LaneSt) (p : Probe) (first n : Nat) : List Byte :=
  ((List.range n).map fun i => le32 (Store.read 0 L.trace.mem (p.base / 4 + (first + i) % max 1 p.depth))).flatten

/-- The words of trace memory behind a read are decoded (12 R373). -/
def ringDecode (me : LaneId) (p : Probe) (first n : Nat) (L : LaneSt) : LaneSt :=
  (readBeats me 4 ((((List.range n).map fun i => (p.base / 4 + (first + i) % max 1 p.depth) / 2).eraseDups).map fun w => (w, EccOutcome.clean)) L).1

/-- OX_TRACE_READ: the range is judged by the named lane. -/
def opTraceRead (me : LaneId) (_ : Sender) (blk : List Byte) (L : LaneSt) : LaneSt × Option LaneRes :=
  let l := (byteAt blk 0).toNat
  let pn := (byteAt blk 1).toNat
  let first := (rd16 blk 2).toNat
  let n := (byteAt blk 4).toNat
  let p := L.trace.probes.getD pn {}
  let mine := l == me.num
  checked [(blk.length == 8 && zerosAt blk 5 3 && l < 3 && pn < 8 && (!mine || p.en), stBadParam),
    (1 ≤ n && n ≤ 64 && (!mine || (first < p.depth && n ≤ p.samples)), stBadParam),
    (L.healthyNum l, stNotInState)] L
    (if mine then (ringDecode me p first n L, some (replyRes (p.bytes ++ ringRead L p first n))) else (L, some okRes))

/-! ## The rows -/

/-- OX_GRAPH_LOAD. -/
def execOxGraphLoad (c : Ctx) (blk : List Byte) (s : State) : Out := runOp 0x0201 c blk (opGraphLoad c.lane c.sender blk) s
/-- OX_TABLE_LOAD. -/
def execOxTableLoad (c : Ctx) (blk : List Byte) (s : State) : Out := runOp 0x0202 c blk (opTableLoad c.lane c.sender blk) s
/-- OX_PARAM_SET. -/
def execOxParamSet (c : Ctx) (blk : List Byte) (s : State) : Out := runOp 0x0203 c blk (opParamSet c.lane c.sender blk) s
/-- OX_GRAPH_INFO. -/
def execOxGraphInfo (c : Ctx) (blk : List Byte) (s : State) : Out := runOp 0x0204 c blk (opGraphInfo c.lane c.sender blk) s
/-- OX_SETPOINT. -/
def execOxSetpoint (c : Ctx) (blk : List Byte) (s : State) : Out := runOp 0x0210 c blk (opSetpoint c.lane c.tid c.sender blk) s
/-- OX_MANUAL. -/
def execOxManual (c : Ctx) (blk : List Byte) (s : State) : Out := runOp 0x0212 c blk (opManual c.lane c.sender blk) s
/-- OX_AUTO. -/
def execOxAuto (c : Ctx) (blk : List Byte) (s : State) : Out := runOp 0x0213 c blk (opAuto c.lane c.sender blk) s
/-- OX_LEARN_START. -/
def execOxLearnStart (c : Ctx) (blk : List Byte) (s : State) : Out := runOp 0x0220 c blk (opLearnStart c.lane c.sender blk) s
/-- OX_LEARN_STOP. -/
def execOxLearnStop (c : Ctx) (blk : List Byte) (s : State) : Out := runOp 0x0221 c blk (opLearnStop c.lane c.sender blk) s
/-- OX_LEARN_DISCARD. -/
def execOxLearnDiscard (c : Ctx) (blk : List Byte) (s : State) : Out := runOp 0x0223 c blk (opLearnDiscard c.lane c.sender blk) s
/-- OX_NODE_READ. -/
def execOxNodeRead (c : Ctx) (blk : List Byte) (s : State) : Out := runOp 0x0230 c blk (opNodeRead c.lane c.sender blk) s
/-- OX_DEBUG_ENTER. -/
def execOxDebugEnter (c : Ctx) (blk : List Byte) (s : State) : Out := runOp 0x0240 c blk (opDebugEnter c.lane c.sender blk) s
/-- OX_DEBUG_STEP. -/
def execOxDebugStep (c : Ctx) (blk : List Byte) (s : State) : Out := runOp 0x0241 c blk (opDebugStep c.lane c.upsets c.sender blk) s
/-- OX_DEBUG_RUN. -/
def execOxDebugRun (c : Ctx) (blk : List Byte) (s : State) : Out := runOp 0x0242 c blk (opDebugRun c.lane c.tid c.sender blk) s
/-- OX_DEBUG_EXIT. -/
def execOxDebugExit (c : Ctx) (blk : List Byte) (s : State) : Out := runOp 0x0243 c blk (opDebugExit c.lane c.sender blk) s
/-- OX_TRACE_SETUP. -/
def execOxTraceSetup (c : Ctx) (blk : List Byte) (s : State) : Out := runOp 0x0250 c blk (opTraceSetup c.lane c.sender blk) s
/-- OX_TRACE_ARM. -/
def execOxTraceArm (c : Ctx) (blk : List Byte) (s : State) : Out := runOp 0x0251 c blk (opTraceArm c.lane c.sender blk) s
/-- OX_TRACE_TRIGGER. -/
def execOxTraceTrigger (c : Ctx) (blk : List Byte) (s : State) : Out := runOp 0x0252 c blk (opTraceTrigger c.lane c.sender blk) s
/-- OX_TRACE_STOP. -/
def execOxTraceStop (c : Ctx) (blk : List Byte) (s : State) : Out := runOp 0x0253 c blk (opTraceStop c.lane c.sender blk) s
/-- OX_TRACE_READ. -/
def execOxTraceRead (c : Ctx) (blk : List Byte) (s : State) : Out := runOp 0x0254 c blk (opTraceRead c.lane c.sender blk) s

end Sys2Proof.Machine
end

