-- ==== Sys2Proof/Machine/Motion.lean ====
section
/-! DEFINITION. Motion (05): enabling and disabling the bridge, host velocity mode, torque shares, the delivered-torque check, and
six-step regulation.
Log entries: 31, 32, 66 (DEDUCED); 1, 11, 77 (DESIGN CHOICE). -/

namespace Sys2Proof.Machine

/-- The bit of a lane in a mask. -/
def laneBit (l : LaneId) : Word := BitVec.ofNat 32 (2 ^ l.num)

/-- d_min in s7.24, rounded up (05 R172). -/
def Conf.dMin (c : Conf) : Int := -((-(4 * c.nat Item.tWin * qUnit)) / c.nat Item.pwmTop)

/-! ## May the winding be driven? -/

/-- A W fault stands on the lane itself. An STO discrepancy ends when the share returns (11 Table 11-15), so it bars no enable. -/
def LaneSt.ownW (me : LaneId) (L : LaneSt) : Bool :=
  L.safe.faults.any fun f => f.kind == .winding && f.lane == me && f.src != 0x46

/-- The lane takes part, its graph has a PWM sink (03 R105), and its bridge obeys rank 7 of 07 Table 7-1. -/
def LaneSt.mayDrive (me : LaneId) (L : LaneSt) : Bool :=
  L.running && L.eng.healthy.get me && !L.eng.excluded && !L.eng.debug && !L.eng.isolated && L.host.run.hasWinding me
  && L.mot.enabled && !(L.host.run.sinks 2).isEmpty && L.gate.stoHigh && !L.mot.stoHold && !L.gate.forcedOff && !L.ownW me
  && L.gate.reaction == .none
  && L.dom .gate == .on && L.ox.graphState == .active && L.safe.state != .stopped && L.safe.state != .colt

/-- A position to drive on: in the Hall step the Hall input and its speed are valid (05 R193, 06 R222). -/
def LaneSt.drivePos (L : LaneSt) : Bool :=
  match L.sen.source with
  | .none => false
  | .hall => L.sen.hallValid && L.sen.speedValid && !L.sen.sharingOut
  | _ => !L.sen.sharingOut

/-! ## The steps of an enable (05 R171, R191; 07 R247) -/

/-- The commands that wait for the enable complete: OK, with the lane's bit in RESULT when its winding is energised. -/
def finishEnable (me : LaneId) (on : Bool) (L : LaneSt) : LaneSt :=
  let ts := L.mot.enableTids
  ts.foldl (fun L t => finishTask me t (resultRes (if on then laneBit me else 0)) L)
    { L with mot := { L.mot with enableTids := [] } }

/-- The enable under way ends without energising the winding: the lane is not counted as a refusal (R196). -/
def cancelEnable (me : LaneId) (L : LaneSt) : LaneSt :=
  if L.mot.enable == .idle then finishEnable me false L
  else
    let L := if L.gate.demand == .precharge then { L with gate := { L.gate with demand := .allOff } } else L
    finishEnable me false { L with mot := { L.mot with enable := .idle, fly := false } }

/-- Measure the amplifier offsets with the gates off. -/
def startOffsets (fly : Bool) (L : LaneSt) : LaneSt :=
  let L := gatesOff L
  { L with mot := { L.mot with enable := .offsets, fly := fly } }

/-- Precharge the bootstraps: the three low sides are on. -/
def startPrecharge (L : LaneSt) : LaneSt :=
  { L with mot := { L.mot with enable := .precharge }, gate := { L.gate with demand := .precharge } }

/-- Bring a share back after its cause has ended, or bring in one that has waited for its position (R193) or for its rejoin: the offsets where
they are due (R171), the precharge, the presets of a MOTION_ENABLE that waited, then the ramp of R179. -/
def bringBack (me : LaneId) (L : LaneSt) : LaneSt :=
  if L.mayDrive me && L.drivePos && !L.mot.energised && L.mot.enable == .idle then
    if L.mot.offsetsDue then startOffsets L.mot.flyDue L else startPrecharge { L with mot := { L.mot with fly := L.mot.flyDue } }
  else L

/-- After the offsets: precharge where the winding may be driven. -/
def afterOffsets (me : LaneId) (L : LaneSt) : LaneSt :=
  if L.mayDrive me && L.drivePos then startPrecharge L else cancelEnable me L

/-- OFFSET_MEASUREMENT_DONE: the mean of 256 simultaneous conversions of each phase. -/
def offsetsDone (me : LaneId) (a b : Half) (L : LaneSt) : LaneSt :=
  if L.mot.enable == .offsets then afterOffsets me { L with mot := { L.mot with offA := a, offB := b, offsetsDue := false } } else L

def execOffsetMeasurementDone (l : LaneId) (meanA meanB : Half) (s : State) : Out :=
  onLaneIf l LaneSt.running (offsetsDone l meanA meanB) s

/-! ## MOTION_ENABLE -/

/-- The speed an enable meets: the observer's, else the position difference over the last four samples (05 R191 step 1). -/
def flySpeed (L : LaneSt) : Word :=
  if L.sen.speedValid then L.sen.speed
  else match L.sen.mHist3 with
    | [a, _, _, d] => speedOf L.host.run (roundDiv (wrapDiff a d) 3)
    | _ => 0

/-- R192, compared exactly: |MOTION_KE × ω| > 0.95 (1 − 2 d_min) vdc / √3. -/
def tooFast (L : LaneSt) : Bool :=
  let c := L.host.run
  let den : Int := c.nat Item.pwmTop
  let n : Int := 4 * c.nat Item.tWin
  let emf := 100 * den * absI (c.int Item.ke * (flySpeed L).toInt)
  let lim := 95 * (den - 2 * n) * L.vlnk.toInt * qUnit
  decide (lim * lim < 3 * (emf * emf)) || decide (lim < 0 && 0 < emf)

/-- Leave STOPPED (02 R78): none of M1–M6 holds, so by the tests of R67 the device is not in Mule mode. -/
def leaveStop (me : LaneId) (L : LaneSt) : LaneSt :=
  if L.safe.state == .stopped then
    let L := bridgeTo me .sto { L with safe := { L.safe with stopCause := 0, endState := .none, mule := false } }
    setSafe me (restState L) L
  else L

/-- The effect on one lane (R191, R196). A lane that has no position to drive on yet is enabled later, with the same steps (R193). -/
def enableLane (me : LaneId) (tid : Nat) (L : LaneSt) : LaneSt × Option LaneRes :=
  let L := leaveStop me { L with mot := { L.mot with
    enabled := true, disableReq := none, stoHold := L.mot.stoHold && !L.gate.stoHigh,
    offsetsDue := L.mot.offsetsDue || !L.mot.energised, flyDue := L.mot.flyDue || !L.mot.energised } }
  if L.mot.energised then (L, some (resultRes (laneBit me)))
  else if L.mot.enable != .idle then ({ L with mot := { L.mot with enableTids := L.mot.enableTids ++ [tid] } }, none)
  else if L.mayDrive me && L.drivePos then
    (startOffsets true { L with mot := { L.mot with enableTids := [tid] } }, none)
  else (gatesOff L, some (resultRes 0))

def opMotionEnable (me : LaneId) (tid : Nat) (_ : Sender) (blk : List Byte) (L : LaneSt) : LaneSt × Option LaneRes :=
  let noSto := (LaneId.all.filter L.host.run.hasWinding).all (L.stoOf me)
  checked [(noBlock blk, stBadParam),
    (minimalOk 0x0301 L && L.ox.graphState == .active && L.safe.state != .colt && L.safe.ss1.isNone, stNotInState),
    (!(L.safe.state == .stopped && muleConds me L != 0) && !noSto, stCausePresent),
    (L.mot.enabled || !tooFast L, stRefusedSpeed)] L
    (enableLane me tid L)

def execMotionEnable (c : Ctx) (blk : List Byte) (s : State) : Out :=
  runOp 0x0301 c blk (opMotionEnable c.lane c.tid c.sender blk) s

/-! ## MOTION_DISABLE -/

/-- The disable state: configured, or named in the command (R199). -/
def disableEnd (L : LaneSt) (b : Byte) : EndState :=
  if b = 1 then .sto
  else if b = 2 then .activeShort
  else if L.host.run.nat Item.disableState = 1 then .activeShort else .sto

/-- The effect at execution; the bridge follows at the next PWM update point (R195). -/
def disableLane (me : LaneId) (tid : Nat) (b : Byte) (L : LaneSt) : LaneSt :=
  let L := disableMotion me (abortWaiting me (some tid) stopWaiting L)
  { L with mot := { L.mot with disableReq := some (disableEnd L b), rampIn := ⟨false, false, false⟩ } }

def opMotionDisable (me : LaneId) (tid : Nat) (_ : Sender) (blk : List Byte) (L : LaneSt) : LaneSt × Option LaneRes :=
  checked [(blk.length == 4 && zerosAt blk 1 3, stBadParam), ((byteAt blk 0).toNat ≤ 2, stBadParam),
    (minimalOk 0x0302 L && L.safe.ss1.isNone, stNotInState)] L
    (disableLane me tid (byteAt blk 0) L, some okRes)

def execMotionDisable (c : Ctx) (blk : List Byte) (s : State) : Out :=
  runOp 0x0302 c blk (opMotionDisable c.lane c.tid c.sender blk) s

/-! ## Host velocity mode (R189, R190) -/

/-- Is velocity mode active, with the changes that wait for the next medium execution? -/
def LaneSt.inVel (L : LaneSt) : Bool :=
  L.mot.velReq.foldl (fun on r => match r with
    | .enter => true
    | .set _ => on
    | .exit => false)
    (match L.mot.vel with
     | some v => v.blend.isNone
     | none => false)

def velPush (r : VelReq) (L : LaneSt) : LaneSt := { L with mot := { L.mot with velReq := L.mot.velReq ++ [r] } }

def opMotionVelEnter (_ : LaneId) (_ : Sender) (blk : List Byte) (L : LaneSt) : LaneSt × Option LaneRes :=
  checked [(noBlock blk, stBadParam),
    (minimalOk 0x0310 L && L.mot.enabled && L.host.run.ss1Ref.isSome && !L.safe.mule && L.safe.ss1.isNone && !L.inVel,
     stNotInState)] L
    (velPush .enter L, some okRes)

/-- R190: a value against the voted speed above MOTION_REV_SPEED. -/
def velReverses (L : LaneSt) (v : Word) : Bool :=
  let c := L.host.run
  let n := L.sen.votedSpd.toInt
  signI v.toInt * signI n < 0 && (c.nat Item.revSpeed : Int) * qUnit < absI n * c.nat Item.baseSpeed

def opMotionVelSet (_ : LaneId) (_ : Sender) (blk : List Byte) (L : LaneSt) : LaneSt × Option LaneRes :=
  checked [(blk.length == 4, stBadParam), (minimalOk 0x0311 L && L.inVel, stNotInState),
    (!velReverses L (rd32 blk 0), stRefusedSpeed)] L
    (velPush (.set (rd32 blk 0)) L, some okRes)

def opMotionVelExit (_ : LaneId) (_ : Sender) (blk : List Byte) (L : LaneSt) : LaneSt × Option LaneRes :=
  checked [(noBlock blk, stBadParam), (minimalOk 0x0312 L && L.inVel, stNotInState)] L
    (velPush .exit L, some okRes)

def execMotionVelEnter (c : Ctx) (blk : List Byte) (s : State) : Out :=
  runOp 0x0310 c blk (opMotionVelEnter c.lane c.sender blk) s
def execMotionVelSet (c : Ctx) (blk : List Byte) (s : State) : Out :=
  runOp 0x0311 c blk (opMotionVelSet c.lane c.sender blk) s
def execMotionVelExit (c : Ctx) (blk : List Byte) (s : State) : Out :=
  runOp 0x0312 c blk (opMotionVelExit c.lane c.sender blk) s

/-! ## Torque shares (R177–R180) -/

/-- The value of a ramp now. -/
def Ramp.value (r : Ramp) : Word :=
  let span := (if r.up then qUnit else 0) - r.start.toInt
  let v := roundDiv (r.base.toInt * r.len + r.n * span) (max 1 r.len)
  satQ (if r.up then min v qUnit else max v 0)

/-- One step, over the length now in force: a change of MOTION_SHARE_RAMP applies to the remaining steps. -/
def Ramp.step (r : Ramp) (len : Nat) : Ramp :=
  if r.len = len then { r with n := r.n + 1 }
  else { r with base := r.value, n := 1, len := len }

/-- A ramp has reached its end. -/
def Ramp.ended (r : Ramp) : Bool := r.value == (if r.up then qOne else 0)

/-- A ramp from the present weight. -/
def newRamp (c : Conf) (up : Bool) (w : Word) : Ramp := ⟨up, w, w, 0, c.nat Item.shareRamp⟩

def setWeight (j : LaneId) (w : Word) (r : Option Ramp) (L : LaneSt) : LaneSt :=
  { L with mot := { L.mot with w := L.mot.w.set j w, ramp := L.mot.ramp.set j r } }

/-- A lane's share ends at once (R178); with motion enabled it comes back on a ramp where the loss is one of those of R179. -/
def loseShare (j : LaneId) (ramped : Bool) (L : LaneSt) : LaneSt :=
  let L := setWeight j 0 none L
  { L with mot := { L.mot with rampIn := if ramped && L.mot.enabled then L.mot.rampIn.set j true else L.mot.rampIn } }

/-- A ramp of a withdrawal starts (R180). -/
def startWithdraw (j : LaneId) (L : LaneSt) : LaneSt :=
  if L.mot.w.get j = 0 then L else setWeight j (L.mot.w.get j) (some (newRamp L.host.run false (L.mot.w.get j))) L

/-- SHARE_OUT. -/
def execShareOut (l : LaneId) (from_ : LaneId) (s : State) : Out :=
  onLaneIf l LaneSt.running (fun L => if from_ = l then L else startWithdraw from_ L) s

/-- SHARE_RAMP_END: the withdrawing lane itself clears ENERGISED and turns its gates off. -/
def rampEnd (me j : LaneId) (L : LaneSt) : LaneSt :=
  match L.mot.ramp.get j with
  | some r =>
    if !r.up && r.ended then
      let L := loseShare j true L
      if j = me then
        let L := cancelEnable me (gatesOff L)
        if L.sen.sharingOut then { L with sen := { L.sen with sharingOut := false, source := .none } } else L
      else L
    else L
  | none => L

def execShareRampEnd (l : LaneId) (of_ : LaneId) (s : State) : Out := onLaneIf l LaneSt.running (rampEnd l of_) s

/-- The health flags a lane shows for its share: ENERGISED, BRIDGE_FAULT, STO_ACTIVE. -/
def shareFlags (me : LaneId) (L : LaneSt) (j : LaneId) : Option (Bool × Bool × Bool) :=
  if j = me then some (L.mot.energised, L.ownW me, !L.gate.stoHigh)
  else match L.eng.recs.get j with
    | some h => some (h.r.health.getLsbD 6, h.r.health.getLsbD 7 || L.eng.bridgeDown.get j, h.r.health.getLsbD 12)
    | none => none

/-- The weight of lane j at this fast sample. -/
def weigh (me : LaneId) (L : LaneSt) (j : LaneId) : LaneSt :=
  let off := { L with mot := { L.mot with wasEnergised := L.mot.wasEnergised.set j false } }
  if !L.host.run.hasWinding j then setWeight j 0 none L
  else if !L.eng.healthy.get j then loseShare j true off
  else match shareFlags me L j with
  | none => loseShare j false off
  | some (on, bridge, sto) =>
    let was := L.mot.wasEnergised.get j
    let L := { L with mot := { L.mot with wasEnergised := L.mot.wasEnergised.set j on } }
    if bridge || sto then loseShare j true L
    else if !on then loseShare j was L
    else
      let len := L.host.run.nat Item.shareRamp
      match L.mot.ramp.get j with
      | some r =>
        let r := r.step len
        if r.ended && r.up then setWeight j qOne none L else setWeight j r.value (some r) L
      | none =>
        if was then L
        else if L.mot.rampIn.get j then
          let L := { L with mot := { L.mot with rampIn := L.mot.rampIn.set j false } }
          let r := (newRamp L.host.run true 0).step len
          if r.ended then setWeight j qOne none L else setWeight j r.value (some r) L
        else setWeight j qOne none L

/-- The weights at a fast sample. -/
def weighAll (me : LaneId) (L : LaneSt) : LaneSt :=
  if L.mot.enabled then LaneId.all.foldl (weigh me) L
  else LaneId.all.foldl (fun L j => setWeight j 0 none L)
    { L with mot := { L.mot with rampIn := ⟨false, false, false⟩, wasEnergised := ⟨false, false, false⟩ } }

/-- A withdrawal that began in this fast sample, `L` before its weights: the ramp starts at the first fast sample after the message (R180). A
loss of R178 in this sample stands. -/
def holdFresh (me : LaneId) (fresh : Bool) (L L' : LaneSt) : LaneSt :=
  if fresh && (L'.mot.ramp.get me).isSome then setWeight me (L.mot.w.get me) (L.mot.ramp.get me) L' else L'

/-- share_j (R177). -/
def shareOf (L : LaneSt) (j : LaneId) : Int :=
  let sum := (L.mot.w.toList.map BitVec.toInt).sum
  if sum = 0 then 0 else roundDiv (L.eng.tqAcc.toInt * (L.mot.w.get j).toInt) sum

/-- iq_ref. -/
def iqRefOf (me : LaneId) (L : LaneSt) : Word :=
  let c := L.host.run
  let lim := c.int Item.iqMax
  satQ (clampI (quotQ (shareOf L me) (c.int Item.ktPu)) (-lim) lim)

/-! ## Delivered torque (R181, R182) -/

/-- A current as a record carries it, in s7.24. -/
def recCurrent (i : Half) : Word := BitVec.ofInt 32 (i.toInt * 4096)

/-- The current of a leg, from those of phases A and B. -/
def phaseCurrent (ia ib : Word) : Leg → Word
  | .A => ia
  | .B => ib
  | .C => satQ (-(ia.toInt + ib.toInt))

/-- What a record shows of the currents: IA, IB, POS, whether POS is the lane's own, and HALL_MODE. -/
structure CurrentView where
  ia : Half
  ib : Half
  pos : Word
  posOk : Bool
  hall : Bool

/-- The Hall state whose 60° hold an electrical angle, by its number. -/
def sectorOf (c : Conf) (th : Word) : Nat := (th - c.item Item.hallPhase).toNat * 6 / 4294967296

/-- The measured q-current of a lane (R181): CLARKE and PARK at the angle of POS, or at the voted position where POS is not the lane's own. In
HALL_MODE it is the conducting current of R184, counted in the direction of the share: the current of the leg that POS and the direction
name. -/
def iqMeasured (L : LaneSt) (j : LaneId) (v : CurrentView) : Int :=
  let o := L.obs
  let ia := recCurrent v.ia
  let ib := recCurrent v.ib
  if v.hall then
    let rev := decide (shareOf L j < 0)
    let legs := legsOf (L.host.run.nat Item.hallRot) (sectorOf L.host.run (elecOf o (mechOf o.n v.pos.toNat))) rev
    (if rev then -1 else 1) * (phaseCurrent ia ib legs.1).toInt
  else (iqOf ia ib (elecOf o (if v.posOk then mechOf o.n v.pos.toNat else L.sen.votedPos))).toInt

/-- A lane as its fresh record shows it; this lane as its own record of this sample will. -/
def currentView (me : LaneId) (fresh : LaneId → Bool) (L : LaneSt) (j : LaneId) : Option CurrentView :=
  if j = me then
    some { ia := s312 L.mot.ia, ib := s312 L.mot.ib, pos := posOf L.obs.n L.sen.angle, posOk := L.sen.source == .own,
           hall := L.sen.source == .hall }
  else if !fresh j then none
  else (L.eng.recs.get j).map fun h => { ia := h.r.ia, ib := h.r.ib, pos := h.r.pos, posOk := h.r.posOk, hall := h.r.health.getLsbD 5 }

/-- The deviation of a lane, where its weight is above zero and its record is fresh, and whether it is in HALL_MODE. -/
def tqDevOf (me : LaneId) (fresh : LaneId → Bool) (L : LaneSt) (j : LaneId) : Option (Int × Bool) :=
  if L.mot.w.get j = 0 then none
  else (currentView me fresh L j).map fun v =>
    ((satQ (mulQ (L.host.run.int Item.ktPu) (iqMeasured L j v))).toInt - shareOf L j, v.hall)

def bump (b : Byte) : Byte := satInc b

/-- A count of R181 takes its value; one that reaches its limit is remembered for the check of R182. -/
def setDev (L : LaneSt) (j : LaneId) (b : Byte) : LaneSt :=
  { L with eng := { L.eng with devCnt := L.eng.devCnt.set j b,
                               devHit := L.eng.devHit.set j (L.eng.devHit.get j || L.host.run.nat Item.tqDevCount ≤ b.toNat) } }

/-- The counts of R181 at a vote. A missing record of a lane that carries a share holds its count; the two that are left then are treated as by
01 R24: held while they differ, and started again while they agree. -/
def countTqDev (me : LaneId) (fresh : LaneId → Bool) (L : LaneSt) : LaneSt :=
  let win := L.host.run.int Item.tqDevWin
  let carry := LaneId.all.filter fun j => L.eng.healthy.get j && L.mot.w.get j != 0
  let ds := carry.filterMap fun j => (tqDevOf me fresh L j).map fun d => (j, d)
  let lim := fun (hall : Bool) => if hall then 2 * win else win
  let setCnt := setDev
  let clear := fun (L : LaneSt) (js : List LaneId) => js.foldl (fun L j => setCnt L j 0) L
  if ds.length != carry.length then
    match ds with
    | [(a, x), (b, y)] =>
      if max (lim x.2) (lim y.2) < absI (x.1 - y.1) then L
      else { clear L [a, b] with eng := { (clear L [a, b]).eng with twoDev := 0 } }
    | _ => L
  else
    let L := clear L (LaneId.all.filter fun j => !carry.contains j)
    match ds with
    | [(a, x), (b, y), (c, z)] =>
      let mid := max (min x.1 y.1) (min (max x.1 y.1) z.1)
      let one := fun (L : LaneSt) (j : LaneId) (d : Int × Bool) =>
        setCnt L j (if lim d.2 < absI (d.1 - mid) then bump (L.eng.devCnt.get j) else 0)
      let L := one (one (one L a x) b y) c z
      { L with eng := { L.eng with twoDev := 0 } }
    | [(a, x), (b, y)] =>
      let own := if a = me then some x else if b = me then some y else none
      let L := match own with
        | some d =>
          if L.ox.k != qOne then L
          else setCnt L me (if lim d.2 < absI d.1 then bump (L.eng.devCnt.get me) else 0)
        | none => L
      let L := clear L ([a, b].filter (· != me))
      let w := max (lim x.2) (lim y.2)
      { L with eng := { L.eng with twoDev := if w < absI (x.1 - y.1) then bump L.eng.twoDev else 0 } }
    | _ => { clear L carry with eng := { (clear L carry).eng with twoDev := 0 } }

/-- The lane that an unresolved vote of two lanes takes out (02 R69). -/
def blamed (L : LaneSt) (a b : LaneId) : LaneId :=
  if L.eng.lead = some a then b
  else if L.eng.lead = some b then a
  else if L.eng.standby = some a then b
  else if L.eng.standby = some b then a
  else if a.num < b.num then b else a

/-- A vote stays unresolved (02 R67 M4, R69): Mule mode, and the other lane is excluded. The exclusion belongs to the entry: it is no
fault that occurs in Mule mode (R72). -/
def unresolvedVote (me a b : LaneId) (L : LaneSt) : LaneSt :=
  let was := L.safe.mule
  let L := decideState me { L with safe := { L.safe with unresolved := true } }
  let x := blamed L a b
  if x = me then L
  else
    let L := exclude me x L
    decideState me (if was then L else { L with safe := { L.safe with prevCounted := L.safe.counted } })

/-- Does a lane's own check attribute the deviation to itself, as this lane knows: its own count at the limit, or its W fault? -/
def accusesSelf (me : LaneId) (L : LaneSt) (j : LaneId) : Bool :=
  L.hasFault .winding j || (if j = me then decide (L.host.run.nat Item.tqDevCount ≤ (L.eng.devCnt.get me).toNat)
    else match L.eng.recs.get j with
      | some h => h.r.health.getLsbD 7
      | none => false)

/-- TQ_DEV_COUNT of lane j on this lane: its own count raises a W fault; two lanes that disagree while neither accuses itself
leave the vote unresolved (R182, 01 R39). -/
def tqDevReached (me j : LaneId) (L : LaneSt) : LaneSt :=
  let n := L.host.run.nat Item.tqDevCount
  if j = me && n ≤ (L.eng.devCnt.get me).toNat then
    if L.ownW me then L
    else addW me 0x3B (report me 0x3B 0 0 { L with eng := { L.eng with ucRaised := true } })
  else if n ≤ L.eng.twoDev.toNat then
    match LaneId.all.filter fun k => L.eng.healthy.get k && L.mot.w.get k != 0 with
    | [a, b] => if accusesSelf me L a || accusesSelf me L b then L else unresolvedVote me a b L
    | _ => L
  else L

def execTqDevCount (l : LaneId) (j : LaneId) (s : State) : Out := onLaneIf l LaneSt.running (tqDevReached l j) s

/-- TQ_DEV_ENERGISED_CHECK: 1 ms after lane j's count was reached, whatever the count is since. -/
def tqDevStill (me j : LaneId) (L : LaneSt) : LaneSt :=
  let on := match L.eng.recs.get j with
    | some h => h.r.health.getLsbD 6
    | none => false
  let K := { L with eng := { L.eng with devHit := L.eng.devHit.set j false } }
  if j != me && L.eng.devHit.get j && on then decideState me (exclude me j K) else K

def execTqDevEnergisedCheck (l : LaneId) (j : LaneId) (s : State) : Out := onLaneIf l LaneSt.running (tqDevStill l j) s

/-! ## Six-step (R183–R188) -/

/-- Is the motor above MOTION_REV_SPEED for R188? A Hall speed that is not valid counts as above until the no-edge time. -/
def revFast (L : LaneSt) : Bool :=
  if L.sen.hallSpdValid then
    (L.host.run.nat Item.revSpeed : Int) * qUnit < absI L.sen.speed.toInt * L.host.run.nat Item.baseSpeed
  else !L.mot.revSlow

/-- Does the sign of iq_ref ask for the other direction? -/
def MotEng.turns (m : MotEng) : Bool := m.iqRef != 0 && decide (m.iqRef.toInt < 0) != m.sixDir

/-- One fast sample of the six-step regulator. While the reference asks for the other direction the integrator, built for this one, does not
step: DIR is held and the duty is 0 above MOTION_REV_SPEED, until the update point at which DIR reverses (R188). -/
def sixStepSample (L : LaneSt) : LaneSt :=
  let c := L.host.run
  let m := L.mot
  let lo := c.dMin
  let hi := qUnit - lo
  if m.turns then (if m.dirHeld || revFast L then { L with mot := { m with dirHeld := true, sixDuty := 0 } } else L)
  else
    let cond := match sixLegs (c.nat Item.hallRot) L.sen.hallState m.sixDir with
      | some p => phaseCurrent L.mot.ia L.mot.ib p.1
      | none => 0
    let e := absI m.iqRef.toInt - cond.toInt
    let i := clampI (m.sixI.toInt + mulQ (c.int Item.sixKit) e) lo hi
    let d := clampI (mulQ (c.int Item.sixKp) e + i) lo hi
    { L with mot := { m with dirHeld := false, sixI := satQ i, iCond := cond, sixDuty := satQ d } }

/-- DIR reverses at an update point at which the motor turns at or below MOTION_REV_SPEED, with the integrator from d_min (R188). -/
def turnSix (L : LaneSt) : LaneSt :=
  if L.sen.source == .hall && L.mot.turns && !revFast L then
    let lo := satQ L.host.run.dMin
    { L with mot := { L.mot with dirHeld := false, sixDir := !L.mot.sixDir, sixI := lo, sixDuty := lo } }
  else L

/-- Enter six-step: the integrator starts at d_min (R184), or at |vq| / vdc within the duty range at an enable (R193). -/
def enterSixStep (preset : Bool) (L : LaneSt) : LaneSt :=
  let c := L.host.run
  let lo := c.dMin
  let vq := absI (mulQ (c.int Item.ke) L.sen.speed.toInt)
  let i := if preset then clampI (quotQ vq L.vlnk.toInt) lo (qUnit - lo) else lo
  { L with mot := { L.mot with sixI := satQ i, sixDir := L.mot.iqRef.toInt < 0, dirHeld := false, sixDuty := satQ i } }

/-- HALL_NO_EDGE_TIMEOUT: no Hall edge for 60 / (MOTION_REV_SPEED × POLE_PAIRS × 6) s. -/
def execHallNoEdgeTimeout (l : LaneId) (s : State) : Out :=
  onLaneIf l (fun L => L.running && !L.sen.hallSpdValid)
    (fun L => { L with mot := { L.mot with revSlow := true } }) s

end Sys2Proof.Machine
end

