-- ==== Sys2Proof/Machine/Gate.lean ====
section
/-! DEFINITION. Gate drive and bridge protection (07): STO_N (02 R79–R81), short circuits, undervoltage, the handshake, and BRIDGE_DOWN.
Log entries: 21, 32 (DEDUCED); 3, 10 (DESIGN CHOICE). -/

namespace Sys2Proof.Machine

/-! ## Pins of group 9 (10 R334) -/

/-- An edge on a pin: an arrival, or, while the event controller is not clocked, the latch in PD_AON. -/
def pinEdge (me : LaneId) (src : Byte) (L : LaneSt) : LaneSt :=
  if L.running then arrive me src clsInfo (pay2 L.now 0) L
  else if !L.start.supplied then L
  else
    let p := match Store.find L.ev.latches src.toNat with
      | some p => { p with count := satInc p.count }
      | none => ⟨1, L.now, L.unsync⟩
    { L with ev := { L.ev with latches := Store.put L.ev.latches src.toNat p } }

/-! ## STO_N (02 R79, R80) -/

/-- STO_N low: the six gates go off by the path of the ball, and stay off until the OWNER enables motion. -/
def stoFall (me : LaneId) (L : LaneSt) : LaneSt :=
  let x := if L.start.coltOn && L.start.phase != .full then { L.start with coltAction := .none } else L.start
  let L := { L with gate := { L.gate with stoHigh := false }, mot := { L.mot with stoHold := true }, start := x }
  let L := gatesOff L
  let L := cancelEnable me L
  pinEdge me 0x92 L

/-- STO_N_FALLING with a low pulse of `ns`: below 100 ns it is ignored, from 100 ns to 300 ns it may act. -/
def stoFalling (me : LaneId) (ns : Nat) (L : LaneSt) : LaneSt :=
  if ns < 100 then L
  else if ns < 300 then
    let acts := Config.shortPulseActs L.time.free
    let L := { L with time := { L.time with free := L.time.free + 1 } }
    if acts then stoFall me L else L
  else stoFall me L

def execStoNFalling (l : LaneId) (ns : Nat) (s : State) : Out := onLane l (stoFalling l ns) s

/-- The lanes with a winding that report STO_ACTIVE. -/
def stoLanes (me : LaneId) (L : LaneSt) : List LaneId :=
  LaneId.all.filter fun j => L.eng.healthy.get j && L.host.run.hasWinding j && L.stoOf me j

/-- Some of the lanes with a winding report STO_ACTIVE and others do not. -/
def stoDiffers (me : LaneId) (L : LaneSt) : Bool :=
  !(stoLanes me L).isEmpty
  && LaneId.all.any fun j => L.eng.healthy.get j && L.host.run.hasWinding j && !L.stoOf me j

/-- STO_DISCREPANCY, after 10 ms (02 R81). -/
def stoDiscrepancy (me : LaneId) (L : LaneSt) : LaneSt :=
  if stoDiffers me L then
    let L := report me 0x46 3 0 { L with eng := { L.eng with ucRaised := true } }
    decideState me ((stoLanes me L).foldl (fun L j => addFault { kind := .winding, lane := j, src := 0x46 } L) L)
  else L

def execStoDiscrepancy (l : LaneId) (s : State) : Out := onLaneIf l LaneSt.running (stoDiscrepancy l) s

/-! ## Reports of the gate block (R256) -/

/-- A bridge fault: BRIDGE_DOWN in hardware, the report and the event. Before firmware runs, the report waits for it. -/
def bridgeReport (me : LaneId) (src : Byte) (unit : Nat) (ev : Byte) (L : LaneSt) : LaneSt :=
  let L := send .bridgeDown L
  if L.running then postGate me ev (report me src unit 0 L) else L

/-- How many legs a set names. -/
def legCount (b : BitVec 3) : Nat := b2n (b.getLsbD 0) + b2n (b.getLsbD 1) + b2n (b.getLsbD 2)

/-- LOCATION unit: the leg, or 3 for the lane. -/
def legUnit (b : BitVec 3) : Nat := if b = 1 then 0 else if b = 2 then 1 else if b = 4 then 2 else 3

/-! ## Short circuit (R249–R255) -/

/-- A trip that counts, with the legs it names (R251). -/
def tripLegs (i : TripIn) : BitVec 3 := match i.edge with
  | some l => l.bit
  | none => i.highs

/-- The reaction to a trip (R252–R254). -/
def scReact (legs : BitVec 3) (L : LaneSt) : LaneSt :=
  let g := L.gate
  let two := 2 ≤ legCount (g.sampleLegs ||| legs) || g.vgdUvlo
  let short := g.reaction == .lowSideShort
  let second := short && 2 ≤ legCount (g.scLegs ||| legs)
  let r := if two || short || g.reaction == .allOff || L.host.run.nat Item.scPolicy = 0 then Reaction.allOff else .lowSideShort
  { L with gate := { g with reaction := r, fallback := g.fallback || short, scInShort := g.scInShort || short,
                            scTwoLegs := g.scTwoLegs || two || second, sampleLegs := g.sampleLegs ||| legs } }

/-- A short-circuit trip of the fast or the gross comparator. -/
def trip (me : LaneId) (gross : Bool) (i : TripIn) (L : LaneSt) : LaneSt :=
  if !gross && i.blankEnd && i.grossSince then L
  else
    let legs := tripLegs i
    let src : Byte := if gross then 0x41 else 0x40
    let L := scReact legs L
    let g := L.gate
    let g := if g.scFirst then g else { g with scFirst := true, scLegs := legs, scGross := gross, scTime := L.now }
    let g := { g with scCount := satInc g.scCount, pendSc := g.pendSc.orElse fun _ => some src }
    bridgeReport me src (legUnit legs) 0x40 { L with gate := g }

def execScFastTrip (l : LaneId) (i : TripIn) (s : State) : Out := onLaneIf l (LaneSt.gateLive l) (trip l false i) s
def execScGrossTrip (l : LaneId) (i : TripIn) (s : State) : Out := onLaneIf l (LaneSt.gateLive l) (trip l true i) s

/-! ## Undervoltage (R243, R244) -/

/-- UVLO events of the last 1 s. -/
def uvloRecent (L : LaneSt) : List Word := L.gate.uvloTimes.filter fun t => (L.time.localT - t).toNat < 1000000

/-- A UVLO event: the third within 1 s latches. -/
def uvloEvent (me : LaneId) (src : Byte) (unit : Nat) (L : LaneSt) : LaneSt :=
  let ts := uvloRecent L ++ [L.time.localT]
  let g := { L.gate with uvloCount := satInc L.gate.uvloCount, uvloTimes := ts, uvloLatched := L.gate.uvloLatched || 3 ≤ ts.length,
                         pendUvlo := L.gate.pendUvlo ++ [(src, unit)] }
  bridgeReport me src unit 0x41 { L with gate := g }

/-- VGD below UVLO: a low-side short in force becomes ALL_OFF (R253). -/
def vgdLow (g : GateEng) : GateEng :=
  if g.reaction == .lowSideShort then { g with vgdUvlo := true, reaction := .allOff, fallback := true, scTwoLegs := true }
  else { g with vgdUvlo := true }

def execVgdUvlo (l : LaneId) (s : State) : Out :=
  onLaneIf l (LaneSt.gateLive l) (fun L => uvloEvent l 0x42 3 { L with gate := vgdLow L.gate }) s

def execBootUvlo (l : LaneId) (leg : Leg) (s : State) : Out :=
  onLaneIf l (LaneSt.gateLive l)
    (fun L => uvloEvent l 0x43 leg.num { L with gate := { L.gate with bootUvlo := L.gate.bootUvlo ||| leg.bit } }) s

/-- A UVLO source of a W fault. -/
def isUvlo (src : Byte) : Bool := src == 0x42 || src == 0x43

/-- UVLO_RECOVER: the W fault ends and the share comes back, unless three events came within 1 s or a supply is low. -/
def uvloRecover (me : LaneId) (L : LaneSt) : LaneSt :=
  if L.gate.vgdUvlo || L.gate.bootUvlo != 0 || L.gate.uvloLatched || 3 ≤ (uvloRecent L).length then L
  else
    bringBack me (endFaults (fun f => f.kind == .winding && f.lane == me && isUvlo f.src)
      { L with gate := { L.gate with pendUvlo := [] } })

def execUvloRecover (l : LaneId) (s : State) : Out := onLaneIf l LaneSt.running (uvloRecover l) s

/-! ## Handshake (R240) -/

def execHandshakeTimeout (l : LaneId) (leg : Leg) (s : State) : Out :=
  onLaneIf l (LaneSt.gateLive l) (fun L =>
    bridgeReport l 0x44 leg.num 0x42
      { L with gate := { L.gate with hsFail := L.gate.hsFail ||| leg.bit, hsCount := satInc L.gate.hsCount, pendHs := true } }) s

/-! ## At the next fast sample (R244, R255, R256) -/

/-- The W faults of the bridge faults since the last fast sample, and the gates-off of a standing W fault. -/
def takeBridgeFaults (me : LaneId) (L : LaneSt) : LaneSt :=
  let g := L.gate
  let srcs : List Byte := g.pendSc.toList ++ (g.pendUvlo.map (·.1)).eraseDups ++ (if g.pendHs then [0x44] else []) ++ (if g.pendPre then [0x45] else [])
  let L := { L with gate := { g with pendSc := none, pendUvlo := [], pendHs := false, pendPre := false, sampleLegs := 0 } }
  let L := if srcs.isEmpty then L else { L with eng := { L.eng with ucRaised := true } }
  let L := srcs.foldl (fun L s => addW me s L) L
  if L.ownW me && (L.mot.energised || L.mot.enable != .idle) then cancelEnable me (gatesOff L) else L

/-- BRIDGE_DOWN_SYMBOL. -/
def execBridgeDownSymbol (l : LaneId) (from_ : LaneId) (s : State) : Out :=
  onLaneIf l LaneSt.running
    (fun L => if from_ = l then L else { L with eng := { L.eng with bridgeDown := L.eng.bridgeDown.set from_ true } }) s

/-- GATE_STATUS (R262). -/
def opGateStatus (me : LaneId) (_ : Sender) (blk : List Byte) (L : LaneSt) : LaneSt × Option LaneRes :=
  checked [(noBlock blk, stBadParam)] L
    (L, some (replyRes (le32 (gateReg0 me L) ++ le32 (gateReg1 L) ++ le32 L.gate.scTime)))

def execGateStatus (c : Ctx) (blk : List Byte) (s : State) : Out := runOp 0x0501 c blk (opGateStatus c.lane c.sender blk) s

end Sys2Proof.Machine
end

