-- ==== Sys2Proof/Machine/Sense.lean ====
section
/-! DEFINITION. Position and speed sensing on one lane (06): the interpolator and the amplitude window, the alignment of the period
count, the Halls, the auxiliary inputs, the sensor-loss ladder and the observer.
Log entries: 12, 57, 79 (DEDUCED); 3 (DESIGN CHOICE). -/

namespace Sys2Proof.Machine

/-! ## Which sensors the lane has -/

def LaneSt.hasSc (me : LaneId) (L : LaneSt) : Bool := (L.host.run.item Item.scLanes).getLsbD me.num
def LaneSt.hasHall (me : LaneId) (L : LaneSt) : Bool := (L.host.run.item Item.hallLanes).getLsbD me.num

/-- The own sin/cos is there and not lost. -/
def LaneSt.ownValid (me : LaneId) (L : LaneSt) : Bool := L.hasSc me && !L.sen.scLost && L.sen.started

/-- The lane's converters run. -/
def LaneSt.converts (L : LaneSt) : Bool := L.running && L.dom .ana == .on

/-! ## Correction, window and interpolation (R201, R203, R209) -/

/-- The corrected pair times cos φ × 2⁶⁰: the sine, and the cosine. -/
def correctPair (c : Conf) (s k : BitVec 14) : Int × Int × Int :=
  let phi : Word := BitVec.ofInt 32 (centiDeg (c.int Item.cosPhase))
  let s1 := s.toInt - c.int Item.sinOfs
  (s1 * cos60 phi, (k.toInt - c.int Item.cosOfs) * c.int Item.cosGain * (one60 / qUnit) - s1 * sin60 phi, cos60 phi)

/-- (m × SENSE_SC_NOMINAL × cos φ × 2⁶⁰)². -/
def pairSq (p : Int × Int × Int) : Int := p.1 * p.1 + p.2.1 * p.2.1

/-- Is m below SENSE_AMP_WIN_LO, above SENSE_AMP_WIN_HI? Compared exactly. -/
def ampLow (c : Conf) (p : Int × Int × Int) : Bool :=
  let b := c.int Item.ampWinLo * c.nat Item.scNominal * p.2.2
  decide (pairSq p * (qUnit * qUnit) < b * b)
def ampHigh (c : Conf) (p : Int × Int × Int) : Bool :=
  let b := c.int Item.ampWinHi * c.nat Item.scNominal * p.2.2
  decide (b * b < pairSq p * (qUnit * qUnit))

/-- AMPLITUDE: m × 16,384. -/
def amplitude16 (c : Conf) (p : Int × Int × Int) : Half :=
  let d := (c.nat Item.scNominal * p.2.2.toNat) * (c.nat Item.scNominal * p.2.2.toNat)
  satNat 16 ((isqrt (pairSq p * 1073741824 / d).toNat + 1) / 2)

/-- The codes of LOSS_CAUSE. -/
def lossAmpLow : BitVec 3 := 1
def lossAmpHigh : BitVec 3 := 2
def lossOverspeed : BitVec 3 := 3
def lossPos : BitVec 3 := 4
def lossSpd : BitVec 3 := 5

/-- The own sensor is declared lost (R210): an S fault, raised as UC at once. The position source follows at the next fast sample. A disagreement is raised
on a lane whose sensor is lost already too (R220). -/
def loseSensor (me : LaneId) (cause : BitVec 3) (L : LaneSt) : LaneSt :=
  let dis := cause = lossPos || cause = lossSpd
  if L.sen.scLost then
    (if dis && !L.sen.disagree then postSense me 0x32 clsUc { L with sen := { L.sen with disagree := true } } else L)
  else
    let L := { L with sen := { L.sen with scLost := true, lossCause := cause, aligned := false, clearedS := false, backRun := 0,
                                          disagree := L.sen.disagree || dis },
                      eng := { L.eng with ucRaised := true } }
    let L := addFault { kind := .sensor, lane := me, src := 0x38 } L
    let L := if dis then postSense me 0x32 clsUc L else L
    postSense me 0x30 clsUc (report me 0x38 0 0 L)

/-- Advance the position word and the period count modulo N. -/
def advanceWord (d : Int) (L : LaneSt) : LaneSt :=
  let n := L.obs.n
  let x : Int := (L.sen.phase.toNat : Int) + d
  { L with sen := { L.sen with word := L.sen.word + BitVec.ofInt 32 d, phase := BitVec.ofInt 16 x,
                               period := (((L.sen.period : Int) + x / 65536) % n).toNat } }

/-- A pair outside the window. -/
def pairOutside (me : LaneId) (low : Bool) (t10 : Nat) (L : LaneSt) : LaneSt :=
  let L := if L.sen.started then advanceWord L.sen.prevDelta.toInt L else L
  let L := { L with sen := { L.sen with outRun := L.sen.outRun + 1, lastOut10 := some t10, lastOver := false } }
  if L.sen.outRun = 2 then loseSensor me (if low then lossAmpLow else lossAmpHigh) L else L

/-- The position word with its phase (00 R8): a step that was not added leaves the two apart until the next interpolated pair. -/
def joinWord (x : SenEng) : SenEng := { x with word := (x.word &&& 0xFFFF0000) ||| x.phase.setWidth 32 }

/-- A pair inside the window. -/
def pairInside (me : LaneId) (new : Half) (L : LaneSt) : LaneSt :=
  let L := if L.sen.outRun = 1 then { L with sen := { L.sen with ampGlitch := satInc L.sen.ampGlitch } } else L
  let L := { L with sen := { L.sen with outRun := 0, lastOver := false } }
  if !L.sen.started then
    { L with sen := { L.sen with started := true, phase := new, word := new.setWidth 32, prevDelta := 0 } }
  else
    let d := (new - L.sen.phase).toInt
    if 0x2000 < absI d then
      loseSensor me lossOverspeed { L with sen := { L.sen with phase := new, lastOver := true } }
    else
      let L := advanceWord d { L with sen := joinWord L.sen }
      { L with sen := { L.sen with prevDelta := BitVec.ofInt 16 d } }

/-- Does the lane take its position: from the hand-over on, or while it rejoins? The note after R208 has no lane aligned before
(log entry 12). -/
def LaneSt.located (L : LaneSt) : Bool := L.start.phase == .full || L.eng.rejoin.isSome || L.ox.graphState != .none

/-- Take a period count; becoming aligned posts event 0x34. -/
def setAligned (me : LaneId) (k : Nat) (L : LaneSt) : LaneSt :=
  let was := L.sen.aligned
  let L := { L with sen := { L.sen with period := k, aligned := true } }
  if was then L else postSense me 0x34 clsInfo L

/-- Align from the phase alone, where every period count gives the same electrical angle: at the first conversion (R206). -/
def alignPhase (me : LaneId) (L : LaneSt) : LaneSt :=
  if !L.sen.aligned && L.ownValid me && L.located && Nat.gcd L.obs.pp L.obs.n == L.obs.n then setAligned me 0 L else L

/-- SINCOS_CONVERSION: the pair of one instant. -/
def sincos (me : LaneId) (s k : BitVec 14) (t10 : Nat) (L : LaneSt) : LaneSt :=
  let c := L.host.run
  let p := correctPair c s k
  let L := { L with sen := { L.sen with amplitude := amplitude16 c p } }
  let L := if ampLow c p then pairOutside me true t10 L
    else if ampHigh c p then pairOutside me false t10 L
    else alignPhase me (pairInside me (atan16 p.1 p.2.1) L)
  { L with sen := { L.sen with conv10 := t10 } }

def execSincosConversion (l : LaneId) (sin cos : BitVec 14) (t10 : Nat) (s : State) : Out :=
  onLaneIf l (fun L => L.converts && L.hasSc l) (sincos l sin cos t10) s

/-! ## The own angle (R204) -/

/-- The own count in 1/65,536 period at an instant, with the conversion's delay of 1.0 µs, extrapolated by at most 1.5 µs. -/
def countAt (t10 : Nat) (L : LaneSt) : Int :=
  let span : Int := min 150 ((t10 : Int) - L.sen.conv10 + 100)
  (L.sen.period : Int) * 65536 + L.sen.phase.toNat + roundDiv (L.sen.prevDelta.toInt * span) 50

def ownMech (t10 : Nat) (L : LaneSt) : Word := mechOf L.obs.n (countAt t10 L)

/-- The own position word at an instant. -/
def wordAt (t10 : Nat) (L : LaneSt) : Word :=
  let span : Int := min 150 ((t10 : Int) - L.sen.conv10 + 100)
  L.sen.word + BitVec.ofInt 32 (roundDiv (L.sen.prevDelta.toInt * span) 50)

/-! ## Alignment (R206, R208) -/

/-- The period count whose mechanical angle at the instant lies nearest a given one. -/
def nearestPeriod (t10 : Nat) (th : Word) (L : LaneSt) : Nat :=
  let n := L.obs.n
  let frac := countAt t10 L - (L.sen.period : Int) * 65536
  (roundDiv ((th.toNat * n : Nat) - frac * 65536) 4294967296 % n).toNat

/-- How far the electrical angle of period count `k` lies from an edge angle, in 1/(N × 2⁴⁸) turn. -/
def edgeMiss (o : ObsPar) (frac : Int) (e : Word) (k : Nat) : Int :=
  let turn : Int := o.n * 281474976710656
  let d := o.pp * ((k : Int) * 65536 + frac) * 4294967296 + ((o.ofs.toNat : Int) - e.toNat) * (o.n * 65536)
  absI ((d + turn / 2) % turn - turn / 2)

/-- The first of the period counts with the least miss. -/
def bestPeriod (miss : Nat → Int) : Nat → Nat → Nat
  | 0, best => best
  | k + 1, best => let b := bestPeriod miss k best; if miss k < miss b then k else b

/-- Align from a Hall edge; the alignment fails outside SENSE_ALIGN_TOL. -/
def alignEdge (me : LaneId) (t10 : Nat) (e : Word) (L : LaneSt) : LaneSt :=
  let o := L.obs
  let frac := countAt t10 L - (L.sen.period : Int) * 65536
  let k := bestPeriod (edgeMiss o frac e) o.n 0
  if L.host.run.nat Item.alignTol * (o.n * 281474976710656 : Int) < edgeMiss o frac e k * 36000 then L else setAligned me k L

/-- Align from the vote, or from the phase where a conversion has been (R206). -/
def alignVote (me : LaneId) (t10 : Nat) (L : LaneSt) : LaneSt :=
  if !L.ownValid me || L.sen.aligned || !L.located then L
  else match L.sen.othersPos with
    | some th => setAligned me (nearestPeriod t10 th L) L
    | none => alignPhase me L

/-! ## Halls (R211–R214) -/

/-- A Hall error: the interval and the run of neighbouring transitions start again; the rest follows at the next fast sample. -/
def hallError (L : LaneSt) : LaneSt :=
  { L with sen := { L.sen with hallPending := L.sen.hallPending + 1, hallRun := 0, lastEdge10 := none, edgeDt := none,
                               hallSpdValid := false } }

/-- An edge between neighbouring states: its number, and whether it is in reverse. -/
def hallEdge (me : LaneId) (n : Nat) (rev : Bool) (t10 : Nat) (L : LaneSt) : LaneSt :=
  let e := edgeAngle L.host.run n
  let tol : Int := L.host.run.nat Item.alignTol
  let live := L.ownValid me && L.located
  let meas := elecOf L.obs (ownMech t10 L)
  let L := if live && L.sen.aligned then { L with sen := { L.sen with edgeAngle := meas } } else L
  let dt := match L.sen.lastEdge10 with
    | some t => if L.sen.edgeDir == rev then some (t10 - t) else none
    | none => none
  let L := { L with sen := { L.sen with edgeIndex := BitVec.ofNat 3 n, edgeDir := rev } }
  if live && L.sen.aligned && tol * 4294967296 < absI (wrapDiff meas e) * 36000 then hallError L
  else
    let L := if live && !L.sen.aligned then alignEdge me t10 e L else L
    let x := L.sen
    { L with sen := { x with lastEdge10 := some t10, edgeDt := dt,
                             hallSpdValid := dt.isSome, hallRun := x.hallRun + 1,
                             hallValid := x.hallValid || (2 ≤ x.hallRun + 1 && !x.hallFailed && x.hallPending = 0),
                             extEdge := if x.source == .extrapolating then some e else x.extEdge },
             mot := { L.mot with revSlow := false } }

/-- HALL_STATE_ACCEPTED on the running lane: a state that has held for SENSE_HALL_FILT, with the time of its first sample. -/
def hallAccept (me : LaneId) (h : BitVec 3) (t10 : Nat) (L : LaneSt) : LaneSt :=
  let seen := L.sen.hallSeen
  let prev := if seen then hallIdx L.sen.hallState else none
  let L := { L with sen := { L.sen with hallState := h, hallSeen := true } }
  match prev, hallIdx h with
  | _, none => hallError L
  | none, some _ =>
    { L with sen := { L.sen with hallRun := 0, lastEdge10 := none, edgeDt := none, hallSpdValid := false,
                                 hallValid := L.sen.hallValid || !seen } }
  | some i, some j =>
    if i = j then L
    else if j = (i + 1) % 6 then hallEdge me j false t10 L
    else if i = (j + 1) % 6 then hallEdge me i true t10 L
    else hallError L

/-- HALL_GLITCH. -/
def execHallGlitch (l : LaneId) (s : State) : Out :=
  onLaneIf l (fun L => L.converts && L.hasHall l)
    (fun L => { L with sen := { L.sen with hallGlitch := satInc L.sen.hallGlitch } }) s

/-- The Hall errors since the last fast sample are raised (R212). -/
def takeHallErrors (me : LaneId) (L : LaneSt) : LaneSt :=
  let n := L.sen.hallPending
  if n = 0 then L
  else
    let ts := (L.sen.hallErrTimes.filter fun t => L.time.clk10 < t + 100000000) ++ List.replicate n L.time.clk10
    let failed := L.sen.hallFailed || 3 ≤ ts.length
    let L := { L with sen := { L.sen with hallPending := 0, hallErr := satAdd L.sen.hallErr n, hallErrTimes := ts, hallFailed := failed,
                                          hallValid := 2 ≤ L.sen.hallRun && !failed },
                      eng := { L.eng with ucRaised := true } }
    postSense me 0x31 clsUc (report me 0x39 0 0 L)

/-- The interval that the Hall speed is formed from at an instant: at least the time since the last edge. -/
def hallDt (t10 : Nat) (L : LaneSt) : Option Nat :=
  match L.sen.edgeDt, L.sen.lastEdge10 with
  | some d, some t => some (max 1 (max d (t10 - t)))
  | _, _ => none

/-- The Hall speed in per unit, 0 when it is not valid. -/
def hallSpeed (t10 : Nat) (L : LaneSt) : Word :=
  match hallDt t10 L with
  | some d =>
    let v := hallPu L.host.run L.obs.pp d
    if L.sen.edgeDir then satQ (-v.toInt) else v
  | none => 0

/-- The Hall speed in 2⁻³² turns per fast sample. -/
def hallRate (t10 : Nat) (L : LaneSt) : Int :=
  match hallDt t10 L with
  | some d => (if L.sen.edgeDir then -1 else 1) * hallW L.host.run L.obs.pp d
  | none => 0

/-- The Hall angle: 1/6 turn of electrical angle in each interval. -/
def hallAngle (t10 : Nat) (L : LaneSt) : Word :=
  let c := L.host.run
  match L.sen.lastEdge10 with
  | none => match hallIdx L.sen.hallState with
    | some i => edgeAngle c i + BitVec.ofInt 32 deg30
    | none => Config.hallNoState L.time.clk10
  | some t =>
    let adv := match hallDt t10 L with
      | some d => min deg60 (roundDiv (((t10 - t : Nat) : Int) * 4294967296) (6 * d))
      | none => 0
    edgeAngle c L.sen.edgeIndex.toNat + BitVec.ofInt 32 (if L.sen.edgeDir then -adv else adv)

/-! ## Auxiliary inputs (R228–R230) -/

/-- An auxiliary range fault is raised as UC. -/
def auxRaise (me : LaneId) (L : LaneSt) : LaneSt :=
  postSense me 0x33 clsUc (report me 0x3A 0 0 { L with eng := { L.eng with ucRaised := true } })

/-- The conversions of one input in 1 ms. -/
def auxReturn : Nat := 250

def auxOne (me : LaneId) (code : BitVec 12) (L : LaneSt) : LaneSt :=
  let c := L.host.run
  let x := L.sen
  let out := auxOut code (c.int Item.aux1Lo) (c.int Item.aux1Hi)
  let x := { x with aux1Code := code, aux1Run := if out then x.aux1Run + 1 else 0, aux1Ok := if out then 0 else x.aux1Ok + 1,
                    aux1Held := if out || x.aux1Fault then x.aux1Held else code }
  if out && 2 ≤ x.aux1Run && !x.aux1Fault then auxRaise me { L with sen := { x with aux1Fault := true } }
  else if x.aux1Fault && auxReturn ≤ x.aux1Ok then { L with sen := { x with aux1Fault := false, aux1Held := code } }
  else { L with sen := x }

def auxTwo (me : LaneId) (code : BitVec 12) (L : LaneSt) : LaneSt :=
  let c := L.host.run
  let x := L.sen
  let out := auxOut code (c.int Item.aux2Lo) (c.int Item.aux2Hi)
  let x := { x with aux2Code := code, aux2Run := if out then x.aux2Run + 1 else 0, aux2Ok := if out then 0 else x.aux2Ok + 1,
                    aux2Held := if out || x.aux2Fault then x.aux2Held else code }
  if out && 2 ≤ x.aux2Run && !x.aux2Fault then auxRaise me { L with sen := { x with aux2Fault := true } }
  else if x.aux2Fault && auxReturn ≤ x.aux2Ok then { L with sen := { x with aux2Fault := false, aux2Held := code } }
  else { L with sen := x }

def auxNtc (me : LaneId) (code : BitVec 12) (L : LaneSt) : LaneSt :=
  let x := L.sen
  let out := ntcOut L.host.run code
  let x := { x with ntcCode := code, ntcRun := if out then x.ntcRun + 1 else 0, ntcOk := if out then 0 else x.ntcOk + 1 }
  if out && 2 ≤ x.ntcRun && !x.ntcFault then auxRaise me { L with sen := { x with ntcFault := true } }
  else if x.ntcFault && auxReturn ≤ x.ntcOk then { L with sen := { x with ntcFault := false } }
  else { L with sen := x }

/-- AUX_CONVERSION. -/
def auxConv (me : LaneId) (i : AuxInput) (code : BitVec 12) (L : LaneSt) : LaneSt :=
  match i with
  | .vlnk => { L with sen := { L.sen with vlnkCode := code } }
  | .aux1 => auxOne me code L
  | .aux2 => auxTwo me code L
  | .ntc => auxNtc me code L

def execAuxConversion (l : LaneId) (input : AuxInput) (code : BitVec 12) (s : State) : Out :=
  onLaneIf l LaneSt.converts (auxConv l input code) s

/-! ## The sensor-loss ladder (R222–R226) -/

/-- Is step 3 available, at a speed? -/
def hallStep (speed : Word) (L : LaneSt) : Bool :=
  L.sen.hallValid && absI speed.toInt ≤ L.host.run.int Item.hallMaxSpeed

/-- Extrapolation ends, and its duration is kept. -/
def endExtrap (L : LaneSt) : LaneSt :=
  match L.sen.extrapFrom with
  | some t => { L with sen := { L.sen with extrapLast := satNat 16 ((L.time.clk10 - t) / 100), extrapFrom := none } }
  | none => L

/-- The lane withdraws its share (R180); with no weight there is nothing to withdraw, and it takes step 4. -/
def shareOutNow (me : LaneId) (L : LaneSt) : LaneSt :=
  if L.mot.w.get me = 0 then endExtrap { L with sen := { L.sen with source := .none } }
  else startWithdraw me (send .shareOut { L with sen := { L.sen with sharingOut := true } })

/-- The source changes. -/
def setSource (n : Source) (L : LaneSt) : LaneSt :=
  let L := if L.sen.source == .extrapolating && n != .extrapolating then endExtrap L else L
  let L := if n == .own || n == .borrowed then { L with sen := { L.sen with sharingOut := false } } else L
  { L with sen := { L.sen with source := n } }

/-- The return to the own sensor (R226): the run of samples inside SENSE_POS_WIN of the borrowed angle. -/
def countBack (me : LaneId) (t10 : Nat) (L : LaneSt) : LaneSt :=
  match L.sen.othersPos with
  | some th =>
    if L.sen.clearedS && L.sen.source == .borrowed && L.ownValid me && L.sen.aligned then
      let inside := absI (wrapDiff (ownMech t10 L) th) ≤ (L.host.run.nat Item.posWin : Int)
      let n := if inside then L.sen.backRun + 1 else 0
      { L with sen := { L.sen with backRun := n, clearedS := n < 64 } }
    else L
  | none => L

/-- The step of the ladder at a fast sample. -/
def ladder (me : LaneId) (t10 : Nat) (L : LaneSt) : LaneSt :=
  let L := countBack me t10 L
  let borrow := L.sen.othersPos.isSome
  let old := L.sen.source
  let hs := hallSpeed t10 L
  let L := if old != .extrapolating then endExtrap L else L
  if !L.located then setSource .none L
  else if L.ownValid me && L.sen.aligned && (!L.sen.clearedS || !borrow) then
    let L := setSource .own L
    { L with sen := { L.sen with clearedS := false, backRun := 0 } }
  else if borrow then setSource .borrowed L
  else match old with
    | .own => { L with sen := { L.sen with source := .extrapolating, extrapFrom := some L.time.clk10, extrapCount := satInc L.sen.extrapCount } }
    | .borrowed => { L with sen := { L.sen with source := .extrapolating, extrapFrom := some L.time.clk10, extrapCount := satInc L.sen.extrapCount } }
    | .extrapolating => L
    | .hall =>
      if L.sen.hallFailed then setSource .none L
      else if !L.sen.sharingOut && L.host.run.int Item.hallMaxSpeed < absI hs.toInt then shareOutNow me L
      else L
    | .none => if hallStep hs L then setSource .hall { L with sen := { L.sen with sharingOut := false } } else L

/-- Step 4 is a W fault (R225); it ends when a source returns. -/
def markNoPosition (me : LaneId) (L : LaneSt) : LaneSt :=
  if L.sen.source == .none && L.located then
    addW me 0 { L with sen := { L.sen with noPosition := true } }
  else if L.sen.noPosition then
    endFaults (fun f => f.kind == .winding && f.lane == me && f.src == 0) { L with sen := { L.sen with noPosition := false } }
  else L

/-- EXTRAPOLATION_END: SENSE_EXTRAP_MAX has elapsed with no step 2. -/
def extrapolationEnd (me : LaneId) (L : LaneSt) : LaneSt :=
  if L.sen.source == .extrapolating && !L.sen.sharingOut then
    if hallStep L.sen.speed L then enterSixStep false (setSource .hall L) else shareOutNow me L
  else L

def execExtrapolationEnd (l : LaneId) (s : State) : Out := onLaneIf l LaneSt.running (extrapolationEnd l) s

/-! ## The observer (R215–R217) -/

/-- Of the mechanical angles with an electrical angle, the nearest to the observer's prediction, else the lowest. -/
def mechNear (e : Word) (L : LaneSt) : Word :=
  let o := L.obs
  let b := (e - o.ofs).toNat
  let cands := (List.range o.pp).map fun k => BitVec.ofNat 32 ((b + k * 4294967296) / o.pp)
  let first := cands.headD 0
  if L.sen.haveTh then
    cands.foldl (fun m x => if absI (wrapDiff x L.sen.thPred) < absI (wrapDiff m L.sen.thPred) then x else m) first
  else first

/-- The observer takes its step for the source in force. -/
def observe (t10 : Nat) (L : LaneSt) : LaneSt :=
  let c := L.host.run
  let x := L.sen
  let x := match x.source with
    | .own => track c (ownMech t10 L) x
    | .borrowed => track c (x.othersPos.getD x.thPred) x
    | .extrapolating =>
      let th := match x.extEdge with
        | some e => mechNear e L
        | none => x.thPred
      { x with th := th, angle := th, nValid := if x.nValid < 4 then 0 else x.nValid }
    | .hall =>
      let th := mechNear (hallAngle t10 L) L
      { x with nValid := if x.nValid < 4 then 0 else x.nValid, obsW := BitVec.ofInt 32 (hallRate t10 L), th := th, angle := th, haveTh := true,
               speedValid := x.hallSpdValid }
    | .none => { x with nValid := 0, speedValid := false, haveTh := false }
  let speed := match x.source with
    | .extrapolating => x.speed
    | .hall => hallSpeed t10 L
    | _ => if x.speedValid then speedOf c x.obsW.toInt else 0
  { L with sen := { x with thPred := x.th + x.obsW, speed := speed, extEdge := none, mHist3 := (x.angle :: x.mHist3).take 4 } }
where
  /-- A sample with an OWN or BORROWED source at mechanical angle `m`. -/
  track (c : Conf) (m : Word) (x : SenEng) : SenEng :=
    if x.nValid < 4 then
      let n := x.nValid + 1
      let x := { x with nValid := n, mHist0 := if n = 1 then m else x.mHist0, th := m, angle := m, haveTh := true }
      if n = 4 then { x with obsW := BitVec.ofInt 32 (roundDiv (wrapDiff m x.mHist0) 3), speedValid := true }
      else { x with speedValid := false }
    else
      let e := wrapDiff m x.thPred
      { x with obsW := x.obsW + BitVec.ofInt 32 (mulQ (c.int Item.obsK2) e), th := x.thPred + BitVec.ofInt 32 (mulQ (c.int Item.obsK1) e),
               angle := m, haveTh := true, speedValid := true }

/-! ## Opcodes (R208, R234) -/

/-- Is the own sensor of a healthy lane valid, as this lane knows: on a lane whose loss has been cleared it is again (R208, R210)? -/
def LaneSt.sensorValid (me : LaneId) (L : LaneSt) (l : LaneId) : Bool :=
  L.eng.healthy.get l && (L.host.run.item Item.scLanes).getLsbD l.num
    && (if l = me then L.ownValid me else !L.eng.ownLost.get l || L.eng.ownCleared.get l)

/-- SENSE_ALIGN_SET: every lane whose own sensor is valid takes the period count of the given angle. -/
def opSenseAlignSet (me : LaneId) (_ : Sender) (blk : List Byte) (L : LaneSt) : LaneSt × Option LaneRes :=
  checked [(blk.length == 4, stBadParam),
    (minimalOk 0x0401 L && !L.mot.enabled && (LaneId.all.any (L.sensorValid me)), stNotInState)] L
    (if L.ownValid me then (setAligned me (nearestPeriod L.time.clk10 (rd32 blk 0) L) L, some (resultRes (laneBit me)))
     else (L, some (resultRes 0)))

def execSenseAlignSet (c : Ctx) (blk : List Byte) (s : State) : Out := runOp 0x0401 c blk (opSenseAlignSet c.lane c.sender blk) s

/-- SENSE_LANE_STATUS: SENSE registers 0x000–0x010. -/
def opSenseLaneStatus (me : LaneId) (_ : Sender) (blk : List Byte) (L : LaneSt) : LaneSt × Option LaneRes :=
  let word := fun o => match senRegs me L o with
    | some (v, _) => v
    | none => 0
  checked [(noBlock blk, stBadParam)] L (L, some (replyRes (((List.range 5).map fun i => le32 (word (4 * i))).flatten)))

def execSenseLaneStatus (c : Ctx) (blk : List Byte) (s : State) : Out := runOp 0x0410 c blk (opSenseLaneStatus c.lane c.sender blk) s

end Sys2Proof.Machine
end

