-- ==== Sys2Proof/Machine/Commit.lean ====
section
/-! DEFINITION. Configuration transactions (01 R43–R45, 03 R130–R132, 09 R317–R320, R359): staging, the two phases of a commit, its
effect at the apply sample, and the store to NVM.
Log entries: 25, 49, 62 (DEDUCED); 8, 19, 67 (DESIGN CHOICE). -/

namespace Sys2Proof.Machine

/-! ## CFG_BEGIN, CFG_SET, CFG_ABORT, CFG_GET -/

/-- Some transaction or learning commit is open, or a commit runs, its store included (09 R317, 11 R369). -/
def LaneSt.cfgBusy (L : LaneSt) : Bool := L.host.trans.isSome || L.host.learnCommit || L.host.commitTid.isSome

def opCfgBegin (_ : LaneId) (h : Sender) (blk : List Byte) (L : LaneSt) : LaneSt × Option LaneRes :=
  checked [(noBlock blk, stBadParam), (!L.cfgBusy, stBusy)] L
    ({ L with host := { L.host with trans := some { owner := h, staged := [], want := L.host.committed, structural := false,
                                                    loaded := false } } }, some okRes)

/-- The entries of CFG_SET (R318). -/
def cfgEntries (blk : List Byte) : List (Nat × Word) :=
  (List.range (blk.length / 8)).map fun i => ((rd16 blk (8 * i)).toNat, rd32 blk (8 * i + 4))

/-- Up to 120 entries of 8 bytes, with reserved fields 0. -/
def cfgSetForm (blk : List Byte) : Bool :=
  blk.length % 8 == 0 && blk.length ≤ 960 && (List.range (blk.length / 8)).all fun i => zerosAt blk (8 * i + 2) 2

def opCfgSet (_ : LaneId) (h : Sender) (blk : List Byte) (L : LaneSt) : LaneSt × Option LaneRes :=
  let es := cfgEntries blk
  checked [(cfgSetForm blk && es.all fun e => (itemDef e.1).isSome, stBadParam), ((L.transOf h).isSome, stNotInState)] L
    (match L.transOf h with
     | some t =>
       ({ L with host := { L.host with trans := some { t with staged := es.foldl (fun s e => Store.put s e.1 e.2) t.staged } } },
        some okRes)
     | none => (L, some okRes))

def opCfgAbort (_ : LaneId) (h : Sender) (blk : List Byte) (L : LaneSt) : LaneSt × Option LaneRes :=
  checked [(noBlock blk, stBadParam), ((L.transOf h).isSome, stNotInState)] L (closeTrans L, some okRes)

/-- CFG_GET (R359): an item that is not staged returns its running value. -/
def opCfgGet (_ : LaneId) (_ : Sender) (blk : List Byte) (L : LaneSt) : LaneSt × Option LaneRes :=
  let n := (byteAt blk 1).toNat
  let staged := byteAt blk 0 == 1
  let ids := (List.range n).map fun i => (rd16 blk (4 + 2 * i)).toNat
  let value := fun id =>
    let live := L.host.run.item id
    if staged then (match L.host.trans with
      | some t => (Store.find t.staged id).getD live
      | none => live) else live
  checked [(blk.length == 4 + 2 * n && (byteAt blk 0).toNat < 2 && 1 ≤ n && n ≤ 120 && zerosAt blk 2 2
      && ids.all fun id => (itemDef id).isSome, stBadParam),
    (!staged || L.host.trans.isSome, stNotInState)] L
    (L, some (replyRes ((ids.map fun id => le16 (BitVec.ofNat 16 id) ++ zeros 2 ++ le32 (value id)).flatten)))

/-- CFG_BEGIN. -/
def execCfgBegin (c : Ctx) (blk : List Byte) (s : State) : Out := runOp 0x0701 c blk (opCfgBegin c.lane c.sender blk) s
/-- CFG_SET. -/
def execCfgSet (c : Ctx) (blk : List Byte) (s : State) : Out := runOp 0x0702 c blk (opCfgSet c.lane c.sender blk) s
/-- CFG_ABORT. -/
def execCfgAbort (c : Ctx) (blk : List Byte) (s : State) : Out := runOp 0x0704 c blk (opCfgAbort c.lane c.sender blk) s
/-- CFG_GET. -/
def execCfgGet (c : Ctx) (blk : List Byte) (s : State) : Out := runOp 0x0705 c blk (opCfgGet c.lane c.sender blk) s

/-! ## The FLOCK loads (11 R357, 08 R273) -/

/-- A schedule entry of 4 bytes. -/
def schedEntry (b : List Byte) (o : Nat) : SchedEnt :=
  let f := byteAt b (o + 2)
  { node := rd16 b o, kind := f.setWidth 2, sync := f.getLsbD 2, safe := f.getLsbD 3 }

/-- Its reserved bits are 0, and its KIND is not the reserved 3. -/
def schedEntryOk (b : List Byte) (o : Nat) : Bool :=
  (byteAt b (o + 2)).toNat < 16 && (byteAt b (o + 2)) &&& 3 != 3 && byteAt b (o + 3) == 0

/-- A 20-bit signal ID in bytes 0–2 of a frame's record, most significant byte first, in bits [23:4] (08 R266, Table 8-3). -/
def sigAt (b : List Byte) (o : Nat) : BitVec 20 := ((rd24be b o) >>> 4).setWidth 20

/-- The signal ID of a subscription or publication entry: the same bits, least significant byte first (08 R273). -/
def sigOf (b : List Byte) (o : Nat) : BitVec 20 := ((byteAt b (o + 2) ++ rd16 b o : BitVec 24) >>> 4).setWidth 20

/-- Its reserved bits [3:0] are 0. -/
def sigOk (b : List Byte) (o : Nat) : Bool := byteAt b o &&& 0x0F == 0

def subEntry (b : List Byte) (o : Nat) : SubEnt := { sig := sigOf b o, node := rd16 b (o + 4) }
def subEntryOk (b : List Byte) (o : Nat) : Bool := sigOk b o && byteAt b (o + 3) == 0 && zerosAt b (o + 6) 2

def pubEntry (b : List Byte) (o : Nat) : PubEnt :=
  { sig := sigOf b o, slotA := (rd16 b (o + 4)).setWidth 11, slotB := (rd16 b (o + 6)).setWidth 11 }
def pubEntryOk (b : List Byte) (o : Nat) : Bool :=
  sigOk b o && byteAt b (o + 3) == 0 && (rd16 b (o + 4)).toNat < 2048 && (rd16 b (o + 6)).toNat < 2048

/-- The entries of a load block. -/
def loadEntries {α : Type} (f : List Byte → Nat → α) (size n : Nat) (blk : List Byte) : List α :=
  (List.range n).map fun i => f blk (8 + size * i)

/-- Put entries into a table from an index: FIRST 0 empties it first, and what was never loaded below holds SIG_ID 0. -/
def putEntries {α : Type} (blank : α) (first : Nat) (new old : List α) : List α :=
  let base := if first = 0 then [] else old
  let pad := base ++ List.replicate (first - base.length) blank
  pad.take first ++ new ++ pad.drop (first + new.length)

def opSchedLoad (_ : LaneId) (h : Sender) (blk : List Byte) (L : LaneSt) : LaneSt × Option LaneRes :=
  let ch := byteAt blk 0
  let first := (rd16 blk 2).toNat
  let n := (rd16 blk 4).toNat
  let ok := blk.length == 8 + 4 * n && ch.toNat < 2 && zerosAt blk 1 1 && zerosAt blk 6 2 && 1 ≤ first && 1 ≤ n && n ≤ 238
    && first + n ≤ 1024 && (loadEntries schedEntryOk 4 n blk).all id
  match L.transOf h with
  | some t =>
    let es := loadEntries schedEntry 4 n blk
    let want := if ch = 0 then { t.want with schedA := Store.writes {} t.want.schedA first es }
      else { t.want with schedB := Store.writes {} t.want.schedB first es }
    checked [(ok, stBadParam)] L (stage t want false true L)
  | none => checked [(ok, stBadParam), (false, stNotInState)] L (L, some okRes)

def opSubLoad (_ : LaneId) (h : Sender) (blk : List Byte) (L : LaneSt) : LaneSt × Option LaneRes :=
  let first := (rd16 blk 0).toNat
  let n := (rd16 blk 2).toNat
  let ok := blk.length == 8 + 8 * n && zerosAt blk 4 4 && 1 ≤ n && n ≤ 119 && first + n ≤ 4096 && (loadEntries subEntryOk 8 n blk).all id
  match L.transOf h with
  | some t =>
    checked [(ok, stBadParam)] L
      (stage t { t.want with subs := putEntries ⟨0, 0⟩ first (loadEntries subEntry 8 n blk) t.want.subs } false true L)
  | none => checked [(ok, stBadParam), (false, stNotInState)] L (L, some okRes)

def opPubLoad (_ : LaneId) (h : Sender) (blk : List Byte) (L : LaneSt) : LaneSt × Option LaneRes :=
  let first := (rd16 blk 0).toNat
  let n := (rd16 blk 2).toNat
  let ok := blk.length == 8 + 8 * n && zerosAt blk 4 4 && 1 ≤ n && n ≤ 119 && first + n ≤ 1024 && (loadEntries pubEntryOk 8 n blk).all id
  match L.transOf h with
  | some t =>
    checked [(ok, stBadParam)] L
      (stage t { t.want with pubs := putEntries ⟨0, 0, 0⟩ first (loadEntries pubEntry 8 n blk) t.want.pubs } false true L)
  | none => checked [(ok, stBadParam), (false, stNotInState)] L (L, some okRes)

/-- FLOCK_SCHED_LOAD. -/
def execFlockSchedLoad (c : Ctx) (blk : List Byte) (s : State) : Out := runOp 0x0601 c blk (opSchedLoad c.lane c.sender blk) s
/-- FLOCK_SUB_LOAD. -/
def execFlockSubLoad (c : Ctx) (blk : List Byte) (s : State) : Out := runOp 0x0602 c blk (opSubLoad c.lane c.sender blk) s
/-- FLOCK_PUB_LOAD. -/
def execFlockPubLoad (c : Ctx) (blk : List Byte) (s : State) : Out := runOp 0x0603 c blk (opPubLoad c.lane c.sender blk) s

/-! ## The prepare phase -/

/-- The configuration in force after the COMMIT boundary (01 R461). -/
def nextRun (L : LaneSt) (t : Trans) : Conf :=
  let c := L.host.run.setItems (t.staged.filter fun p => itemIsCommit p.1)
  { c with graph := t.want.graph, table := t.want.table }

/-- The configuration as it will stand, in force after the next full start. -/
def nextCommitted (L : LaneSt) (t : Trans) : Conf := { t.want with items := L.host.committed.items }.setItems t.staged

/-- Does a healthy lane take its position from its own sin/cos, as this lane knows? -/
def someOwn (me : LaneId) (L : LaneSt) : Bool :=
  LaneId.all.any fun j => L.eng.healthy.get j
    && (if j = me then L.sen.source == .own else match L.eng.recs.get j with
        | some h => h.r.health.getLsbD 3
        | none => false)

/-- A staged sensor correction differs from the running one (06 R232). -/
def shiftsPhase (L : LaneSt) (t : Trans) : Bool :=
  [Item.sinOfs, Item.cosOfs, Item.cosGain, Item.cosPhase].any fun i => match Store.find t.staged i with
    | some v => v != L.host.run.item i
    | none => false

/-- This lane's answer in the prepare phase (09 R463). -/
def prepCheck (me : LaneId) (L : LaneSt) (t : Trans) : PrepAns :=
  match checkConf t.staged (nextRun L t) (nextCommitted L t) with
  | some b => .failed stBadParam b.result
  | none =>
    if (t.structural && L.mot.enabled) || (shiftsPhase L t && L.mot.enabled && someOwn me L) then .failed stNotInState 0x0000FF00
    else .ready

/-- The lane that runs the two phases: the lead, else the lowest healthy lane. -/
def LaneSt.coordinator (me : LaneId) (L : LaneSt) : LaneId :=
  match L.eng.lead with
  | some l => l
  | none => (LaneId.all.find? L.eng.healthy.get).getD me

/-- The command that waits for the commit ends with a result. -/
def finishCommit (me : LaneId) (r : LaneRes) (L : LaneSt) : LaneSt :=
  finishOpt me L.host.commitTid r { L with host := { L.host with commitTid := none, learnCommit := false } }

/-- The result of a lane that answered failed. -/
def prepResult : PrepAns → LaneRes
  | .ready => okRes
  | .failed st w => statusRes st w

/-- The coordinator has every answer: apply with the next generation, or nothing. A lane that leads no longer settles nothing (R45). -/
def settleCommit (me : LaneId) (L : LaneSt) : LaneSt :=
  if L.host.prepOpen != some me || L.coordinator me != me then L
  else
    let part := LaneId.all.filter fun l => L.eng.healthy.get l || l == me
    let ans := part.map fun l => L.host.prepAns.get l
    if !(ans.all Option.isSome) then L
    else
      let L' := { L with host := { L.host with prepOpen := none } }
      if ans.all fun a => a == some .ready then
        let g := L.eng.gen + 1
        send (.apply g) { L' with host := { L'.host with applyGen := some g } }
      else
        let own := match L.host.prepAns.get me with
          | some a => prepResult a
          | none => okRes
        finishCommit me own { L' with host := { L'.host with applyWant := none } }

/-- An answer reaches the coordinator. -/
def noteAnswer (me from_ : LaneId) (a : PrepAns) (L : LaneSt) : LaneSt :=
  if L.host.prepOpen = some me then
    settleCommit me { L with host := { L.host with prepAns := L.host.prepAns.set from_ (some a) } }
  else L

/-- A commit command executes: the coordinator opens the prepare phase, any other lane waits for its message. -/
def beginCommit (me : LaneId) (tid : Nat) (t : Trans) (L : LaneSt) : LaneSt × Option LaneRes :=
  let L := { L with host := { L.host with commitTid := some tid } }
  if L.coordinator me = me then
    let L := { L with host := { L.host with applyWant := some t, applyGen := none, prepOpen := some me, prepAns := ⟨none, none, none⟩ } }
    (noteAnswer me me (prepCheck me L t) (send .prepare L), none)
  else
    match L.host.prepOpen, L.host.prepAns.get me with
    | some _, some (.failed st w) =>
      ({ L with host := { L.host with commitTid := none, learnCommit := false, prepOpen := none } }, some (statusRes st w))
    | _, _ => (L, none)

/-- CFG_COMMIT. -/
def opCfgCommit (me : LaneId) (tid : Nat) (h : Sender) (blk : List Byte) (L : LaneSt) : LaneSt × Option LaneRes :=
  checked [(noBlock blk, stBadParam), ((L.transOf h).isSome, stNotInState)] L
    (match L.transOf h with
     | some t => beginCommit me tid t L
     | none => (L, some okRes))

/-- The transaction that installs a proposal as the live table (03 R130). -/
def learnTrans (h : Sender) (L : LaneSt) : Trans :=
  let c := L.host.committed
  let want := match L.learn.proposal with
    | some (n, vs) => { c with table := Store.writes 0 c.table (c.node n).tblBase.toNat vs }
    | none => c
  { owner := h, staged := [], want := want, structural := false, loaded := false }

/-- OX_LEARN_COMMIT: the proposal is the lead's. -/
def opLearnCommit (me : LaneId) (tid : Nat) (h : Sender) (blk : List Byte) (L : LaneSt) : LaneSt × Option LaneRes :=
  let isLead := L.coordinator me == me
  checked [(learnBlock L blk, stBadParam),
    (minimalOk 0x0222 L && (!isLead || L.proposalOn (byteAt blk 0).toNat), stNotInState), (!L.cfgBusy, stBusy)] L
    (beginCommit me tid (learnTrans h L) { L with host := { L.host with learnCommit := true } })

/-- CFG_COMMIT. -/
def execCfgCommit (c : Ctx) (blk : List Byte) (s : State) : Out := runOp 0x0703 c blk (opCfgCommit c.lane c.tid c.sender blk) s
/-- OX_LEARN_COMMIT. -/
def execOxLearnCommit (c : Ctx) (blk : List Byte) (s : State) : Out := runOp 0x0222 c blk (opLearnCommit c.lane c.tid c.sender blk) s

/-- PREPARE_MESSAGE: the staged configuration arrives, is checked and answered; a lane that fails reports it as its result. -/
def prepared (me from_ : LaneId) (want : Option Trans) (L : LaneSt) : LaneSt :=
  match want with
  | none => L
  | some t =>
    if from_ = me || L.coordinator me != from_ then L
    else
      let a := prepCheck me L t
      let L := { L with host := { L.host with applyWant := some t, applyGen := none, prepOpen := some from_,
                                              prepAns := L.host.prepAns.set me (some a) } }
      let L := send (.prepAns a) L
      match a with
      | .ready => L
      | .failed st w =>
        let L := { L with host := { L.host with applyWant := none } }
        if L.host.commitTid.isSome then finishCommit me (statusRes st w) { L with host := { L.host with prepOpen := none } } else L

def execPrepareMessage (l : LaneId) (from_ : LaneId) (s : State) : Out :=
  onLaneIf l LaneSt.running (prepared l from_ (s.lane from_).host.applyWant) s

/-- PREPARE_ANSWER. -/
def execPrepareAnswer (l : LaneId) (from_ : LaneId) (ans : PrepAns) (s : State) : Out :=
  onLaneIf l LaneSt.running (fun L => if from_ = l then L else noteAnswer l from_ ans L) s

/-- APPLY_MESSAGE: the lane applies at its next fast sample. An apply of a lane that it knows to lead no longer is too late (R45). -/
def applyArrived (m : ApplyMsg) (L : LaneSt) : LaneSt :=
  if L.host.applyWant.isSome && m.gen != L.eng.gen && L.eng.healthy.get m.from_ && L.eng.formerLead != some m.from_ then
    { L with host := { L.host with applyGen := some m.gen } }
  else L

def execApplyMessage (l : LaneId) (m : ApplyMsg) (s : State) : Out := onLaneIf l LaneSt.running (applyArrived m) s

/-! ## The store (R320, 13 R394) -/

/-- The Colt record that a store builds (13 R394). -/
def coltOf (me : LaneId) (c : Conf) (gen : BitVec 24) : ColtRec :=
  ColtRec.sealed
  { action := (c.item Item.coltAction).setWidth 2, dir := (c.item Item.coltDir).getLsbD 0, t2 := c.t2,
    halls := (c.item Item.hallLanes).getLsbD me.num, hallRot := (c.item Item.hallRot).setWidth 3,
    hallFilt := (c.item Item.hallFilt).setWidth 8, duty := (c.item Item.coltDuty).setWidth 16, pwmTop := (c.item Item.pwmTop).setWidth 16,
    dead := (c.item Item.gateDead).setWidth 8, gsrc := (c.item Item.gateSrc).setWidth 4, gsink := (c.item Item.gateSink).setWidth 4,
    precharge := (c.item Item.bootPrecharge).setWidth 8, polePairs := BitVec.ofNat 8 c.obs.pp, speed := (c.item Item.coltSpeed).setWidth 16,
    gen := gen }

/-- The image not in use. -/
def StartEng.setUnused (st : StartEng) (i : Option Image) : StartEng := match st.imgInUse with
  | .A => { st with imgB := i } | .B => { st with imgA := i }

/-- A store starts: the image not in use is written, and is not valid until it is complete. -/
def startStore (me : LaneId) (L : LaneSt) : LaneSt :=
  let g := match L.start.image with
    | some i => i.gen + 1
    | none => 1
  { L with host := { L.host with storing := some { gen := g, conf := L.host.committed, colt := coltOf me L.host.committed g } },
           start := L.start.setUnused none }

/-- The words of an image are rewritten by its store, and decode clean (12 Table 12-1). -/
def rewriteImage (img : Nat) (L : LaneSt) : LaneSt :=
  (L.int.poisoned ++ L.int.flipped.map (·.1)).foldl
    (fun L q => if q.1 = 1 && (Config.nvmImage q.2).val = img then cleanWord 1 q.2 L else L) L

/-- CONFIG_STORE_DONE: the new image is marked in use, and what waited for the store completes. -/
def storeDone (me : LaneId) (L : LaneSt) : LaneSt :=
  match L.host.storing with
  | none => L
  | some i =>
    let st := L.start.setUnused (some i)
    let L := rewriteImage (1 - L.start.imgInUse.num) L
    let L := { L with host := { L.host with storing := none }, start := { st with imgInUse := match st.imgInUse with
      | .A => .B | .B => .A } }
    let L := arrive me 0x71 clsInfo (payBytes ([BitVec.ofNat 8 L.start.imgInUse.num] ++ le24 i.gen ++ zeros 4)) L
    let tid := L.host.storeTid
    let L := finishOpt me tid okRes { L with host := { L.host with storeTid := none } }
    finishCommit me okRes L

def execConfigStoreDone (l : LaneId) (s : State) : Out := onLaneIf l LaneSt.running (storeDone l) s

/-- CFG_STORE. -/
def opCfgStore (me : LaneId) (tid : Nat) (_ : Sender) (blk : List Byte) (L : LaneSt) : LaneSt × Option LaneRes :=
  checked [(noBlock blk, stBadParam), (L.host.trans.isNone, stNotInState)] L
    (startStore me { L with host := { L.host with storeTid := some tid } }, none)

def execCfgStore (c : Ctx) (blk : List Byte) (s : State) : Out := runOp 0x0706 c blk (opCfgStore c.lane c.tid c.sender blk) s

/-! ## The apply sample (R43, 03 R121, 04 R141, 10 R341) -/

/-- The proportional gains that a commit changes: the nodes adjust their integrators in their next execution. -/
def keepGains (old : Conf) (L : LaneSt) : LaneSt :=
  (L.host.run.graph.filter fun p => p.2.isPi && (old.node p.1).p 0 != p.2.p 0).foldl
    (fun L p => updNode p.1 (fun s => { s with kpOld := some (s.kpOld.getD ((old.node p.1).p 0)) }) L) L

/-- The staged configuration comes into force, and a commit with a START or COLT item or a loaded table is stored. A claim of a remote
entry that is used no longer ends: an unused entry names no host (01 R57). DESIGN CHOICE (log entry 67): a claim of an entry that gets another
node ID stays, and is the new node's. -/
def applyCommit (me : LaneId) (L : LaneSt) : LaneSt :=
  match L.host.applyGen, L.host.applyWant with
  | some g, some t =>
    let old := L.host.run
    let store := t.loaded || t.staged.any fun p => !itemIsCommit p.1
    let run := nextRun L t
    let com := nextCommitted L t
    let L := { L with
      host := { L.host with run := run, committed := com, applyGen := none, applyWant := none, prepOpen := none,
                            prepAns := ⟨none, none, none⟩, trans := if L.host.learnCommit then L.host.trans else none },
      eng := { L.eng with gen := g }, learn := { L.learn with proposal := if L.host.learnCommit then none else L.learn.proposal } }
    let L := if t.structural then (if L.start.phase == .full then activate me 0 (freezeTrace L) else L) else takeObs (keepGains old L)
    let L := match L.eng.claim with
      | some (.remote n) => if run.remoteUsed n.val then L else endClaim L
      | _ => L
    let L := replay me L
    if store then startStore me L else finishCommit me okRes L
  | _, _ => { L with host := { L.host with applyGen := none } }

/-- A new lead has ended the commit with TIMEOUT after this lane was told to apply: it holds no configuration to apply, and it has not taken
up the generation (R45). -/
def commitEnded (me : LaneId) (peer : LaneId → LaneSt) (L : LaneSt) : Bool :=
  match L.host.applyGen with
  | some g => me.others.any fun j => L.eng.healthy.get j && (peer j).running && (peer j).eng.role == .lead
      && (peer j).host.applyWant.isNone && (peer j).eng.gen != g
  | none => false

/-- Nothing is applied of a commit that the new lead has ended. -/
def dropEnded (me : LaneId) (peer : LaneId → LaneSt) (L : LaneSt) : LaneSt :=
  if commitEnded me peer L then
    finishCommit me (failRes stTimeout) { L with host := { L.host with applyGen := none, applyWant := none, prepOpen := none } }
  else L

/-- The lead has changed while a commit was open (R45): the new lead sends the apply again when some lane has applied, and otherwise
ends the commit with TIMEOUT. -/
def commitTakeover (me : LaneId) (L : LaneSt) : LaneSt :=
  let gens := me.others.filterMap fun j => if L.eng.healthy.get j then (L.eng.recs.get j).map fun h => h.r.gen else none
  if L.host.applyWant.isSome then
    let g := L.eng.gen + 1
    if L.host.applyGen.isSome || gens.contains g then send (.apply g) { L with host := { L.host with applyGen := some g, prepOpen := none } }
    else finishCommit me (failRes stTimeout) { L with host := { L.host with applyWant := none, prepOpen := none } }
  else if gens.any (· != L.eng.gen) then send (.apply L.eng.gen) L
  else L

end Sys2Proof.Machine
end

