-- ==== Sys2Proof/Machine/Herd.lean ====
section
/-! DEFINITION. What arrives on the herdline (01 R16–R22, 00 R9, 02 R63–R65, 13 R420): sample records, times, symbols and orders.
Log entries: 17, 31 (DEDUCED); 3 (DESIGN CHOICE). -/

namespace Sys2Proof.Machine

/-! ## The sample record (01 Table 1-1) -/

/-- Bytes 0–27. -/
def HerdRec.body (r : HerdRec) : List Byte :=
  [BitVec.ofNat 8 (64 * r.lane.toNat + 16 * r.role.toNat + 8 * b2n r.debug + 4 * b2n r.excl + 2 * b2n r.posOk + b2n r.spdOk), r.seq]
  ++ le16 r.health ++ le16 r.ia ++ le16 r.ib ++ le32 r.pos ++ le32 r.speed ++ le32 r.tq ++ le32 r.integ
  ++ [BitVec.ofNat 8 (32 * r.index.toNat), r.gen] ++ le16 r.age

/-- The 32 bytes, with CHECK. -/
def HerdRec.bytes (r : HerdRec) : List Byte := r.body ++ le32 (crc32c r.body)

def HerdRec.ofBytes (b : List Byte) : HerdRec :=
  let x := byteAt b 0
  { lane := (x >>> 6).setWidth 2, role := (x >>> 4).setWidth 2, debug := x.getLsbD 3, excl := x.getLsbD 2, posOk := x.getLsbD 1,
    spdOk := x.getLsbD 0, seq := byteAt b 1, health := rd16 b 2, ia := rd16 b 4, ib := rd16 b 6, pos := rd32 b 8, speed := rd32 b 12,
    tq := rd32 b 16, integ := rd32 b 20, index := (byteAt b 24 >>> 5).setWidth 3, gen := byteAt b 25, age := rd16 b 26 }

/-- A record whose CHECK field is right (R18). -/
def recordOk (b : List Byte) : Bool := b.length == 32 && crc32c (b.take 28) == rd32 b 28

/-- The flags of Table 1-2 that a receiver reads. -/
def HerdRec.energised (r : HerdRec) : Bool := r.health.getLsbD 6
def HerdRec.bridgeFault (r : HerdRec) : Bool := r.health.getLsbD 7
def HerdRec.selfOk (r : HerdRec) : Bool := r.health.getLsbD 0 && r.health.getLsbD 1 && r.health.getLsbD 2
/-- LINKS_RX: the links on which the sender received a record. -/
def HerdRec.linkRx (r : HerdRec) (k : Link) : Bool := r.health.getLsbD (13 + k.num)

/-- The fixed latency of a link. -/
def linkDelay : Nat := Config.linkLatency.val

/-! ## Links (R21) -/

def setUp (k : Link) (b : Bool) (L : LaneSt) : LaneSt :=
  match k with
  | .k01 => { L with eng := { L.eng with up01 := b } }
  | .k12 => { L with eng := { L.eng with up12 := b } }
  | .k20 => { L with eng := { L.eng with up20 := b } }

/-- A record held from one of its ends shows that the link between the two other lanes delivers nothing. -/
def farMissed (me : LaneId) (L : LaneSt) : Bool :=
  me.others.any fun j => match L.eng.recs.get j with
    | some h => !h.r.linkRx (farLink me)
    | none => false

/-- RELAY: the third lane relays while its own links are up and the link between the two others is down, or delivered nothing in the
last sample of one of its ends: a single link down costs no lane. -/
def setRelay (me : LaneId) (L : LaneSt) : LaneSt :=
  { L with eng := { L.eng with relay := (!L.eng.up (farLink me) || farMissed me L) && (ownLinks me).all L.eng.up } }

/-- A link carries valid records again: its K fault ends, and a lane that was isolated starts its 64 samples. -/
def linkUp (me : LaneId) (k : Link) (L : LaneSt) : LaneSt :=
  let L := { L with eng := { L.eng with linkMiss := L.eng.linkMiss.set k.slot 0 } }
  if L.eng.up k then L
  else
    let L := setRelay me (endFaults (fun f => f.kind == .link && f.part == k.num) (setUp k true L))
    if L.eng.isolated && (k.peer me).isSome then
      { L with eng := { L.eng with isolated := false, rejoin := if L.eng.excluded then none else some 0 } }
    else L

/-- A link fault stands that is not explained by the loss of the lane at its far end (02 Table 2-4). -/
def linkBroken (me : LaneId) (L : LaneSt) (k : Link) : Bool :=
  L.hasFault .link k.slot && !k.ends.any fun j => j != me && L.safe.laneFault j

/-- A lane both of whose links are down is isolated: an L fault (02 Table 2-1). It drops its role, stops driving its bridge, and holds what it
knows of the others, on whom it no longer votes. A learning pass of the lead it was is aborted (03 R129). -/
def isolate (me : LaneId) (L : LaneSt) : LaneSt :=
  let L := abortLearn me L
  let e := L.eng
  addFault { kind := .lane, lane := me }
    (cancelEnable me (releaseBge me (gatesOff { L with eng := { e with
      isolated := true, role := .none, rejoin := none, healthy := e.healthy.set me false,
      lead := if e.lead == some me then none else e.lead, standby := if e.standby == some me then none else e.standby } })))

/-- A link is declared down, and a lane that receives on it reports it. Where a lane at its end has announced that it is out of service
the link is no fault of its own. A lane with both of its links down, one of them broken, is isolated. -/
def linkLost (me : LaneId) (k : Link) (L : LaneSt) : LaneSt :=
  if !L.eng.up k then L
  else
    let L := setRelay me (setUp k false L)
    let L := if k.ends.any fun j => j != me && (L.eng.down.get j || L.eng.sleeping.get j) then L
      else
        let L := addFault { kind := .link, lane := k.slot, part := k.num, src := 0x31 } L
        if (k.peer me).isNone then L else report me 0x31 k.num 0 { L with eng := { L.eng with ucRaised := true } }
    let own := ownLinks me
    let L := if !L.eng.isolated && (own.all fun k => !L.eng.up k) && own.any (linkBroken me L) then isolate me L else L
    decideState me L

/-- LINK_DOWN: no valid record for LANE_MISS_COUNT fast samples. -/
def execLinkDown (l : LaneId) (link : Link) (s : State) : Out :=
  onLaneIf l (fun L => L.running && L.host.run.nat Item.missCount ≤ (L.eng.linkMiss.get link.slot).toNat) (linkLost l link) s

/-! ## HERD_SAMPLE_RECORD -/

/-- Hold a record as the newest of its lane. -/
def holdRecord (j : LaneId) (h : Held) (L : LaneSt) : LaneSt :=
  match L.eng.recs.get j with
  | some o => if h.inst10 < o.inst10 then { L with eng := { L.eng with recs := L.eng.recs.set j (some { o with at10 := h.at10 }) } } else { L with eng := { L.eng with recs := L.eng.recs.set j (some h) } }
  | none => { L with eng := { L.eng with recs := L.eng.recs.set j (some h) } }

/-- A record arrives on a link at an instant of the lane's clock. `reg` is the sender's LANE register, which travels with its
status-mirror words. -/
def recordArrives (me : LaneId) (k : Link) (b : List Byte) (at10 : Nat) (reg : LaneId → Word) (L : LaneSt) : LaneSt :=
  match k.peer me with
  | none => L
  | some peer =>
    if !recordOk b then
      report me 0x30 k.num 0 { L with eng := { L.eng with linkErr := L.eng.linkErr.upd k.slot satInc } }
    else
      let r := HerdRec.ofBytes b
      let L := linkUp me k { L with eng := { L.eng with linkSeen := L.eng.linkSeen.set k.slot true } }
      match LaneId.ofNum r.lane.toNat with
      | none => L
      | some j =>
        if j = me then L
        else
          let L := holdRecord j ⟨r, at10 - r.age.toNat - linkDelay, at10⟩ L
          let L := setRelay me { L with eng := { L.eng with laneRegs := L.eng.laneRegs.set j (reg j) } }
          if L.eng.relay && j == peer then send (.record { r with age := satAdd r.age linkDelay }.bytes) L else L

def execHerdSampleRecord (l : LaneId) (link : Link) (bytes : List Byte) (at10 : Nat) (s : State) : Out :=
  onLaneIf l LaneSt.running (recordArrives l link bytes at10 fun j => laneReg0 j (s.lane j)) s

/-! ## TIME_MESSAGE (00 R9) -/

/-- A lane steps its local time to the lead's before it joins the vote, over a difference above 100 µs. -/
def alignTime (t : Word) (L : LaneSt) : LaneSt :=
  if 100 < absI (t - L.time.localT).toInt then { L with time := { L.time with localT := t } } else L

/-- The lane follows the lead's local time, by at most 10 µs in each 1 ms, of whichever lead; a lane outside the vote steps it where it
must. -/
def followTime (me from_ : LaneId) (t : Word) (L : LaneSt) : LaneSt :=
  if from_ = me || L.eng.lead != some from_ then L
  else if !L.eng.healthy.get me && 100 < absI (t - L.time.localT).toInt then alignTime t L
  else if L.time.slewUs < 1000 then L
  else
    let d := (t - L.time.localT).toInt
    { L with time := { L.time with localT := L.time.localT + BitVec.ofInt 32 (clampI d (-10) 10), slewUs := 0 } }

def execTimeMessage (l : LaneId) (from_ : LaneId) (t : Word) (s : State) : Out := onLaneIf l LaneSt.running (followTime l from_ t) s

/-! ## Symbols and orders -/

/-- A lane is known to be out of service from now; it is excluded at the next vote. -/
def knowDown (me j : LaneId) (L : LaneSt) : LaneSt :=
  if j = me then L else { L with eng := { L.eng with down := L.eng.down.set j true } }

/-- LANE_DOWN_SYMBOL (02 R63). -/
def execLaneDownSymbol (l : LaneId) (from_ : LaneId) (s : State) : Out := onLaneIf l LaneSt.running (knowDown l from_) s

/-- EXCLUDE_ORDER (02 R64): the named lane handles it in its next fast sample. -/
def excludeOrdered (me from_ named : LaneId) (L : LaneSt) : LaneSt :=
  if from_ = me then L
  else if named = me then { L with eng := { L.eng with dropNow := true } }
  else knowDown me named L

def execExcludeOrder (l : LaneId) (from_ named : LaneId) (s : State) : Out := onLaneIf l LaneSt.running (excludeOrdered l from_ named) s

/-- KILL_ORDER (02 R65): the decoder of the link interface forces the gates off; the lane stays excluded until it is reset. -/
def killed (me from_ : LaneId) (L : LaneSt) : LaneSt :=
  if L.eng.acceptMask.get from_ then
    let L := releaseBge me (gatesOff (abortLearn me L))
    { L with gate := { L.gate with forcedOff := true },
             eng := { L.eng with killed := true, excluded := true, role := .none, rejoin := none, healthy := L.eng.healthy.set me false } }
  else L

def execKillOrder (l : LaneId) (from_ : LaneId) (s : State) : Out :=
  onLaneIf l (fun L => L.start.supplied && L.start.coreReady) (killed l from_) s

/-- KILL_CHECK (02 R65): 2.9 ms after the exclusion, in 10 ns. -/
def killDelay : Nat := 290000
/-- 1 ms without a record, in 10 ns. -/
def silentTime10 : Nat := 100000

def killCheck (me j : LaneId) (now10 : Nat) (L : LaneSt) : LaneSt :=
  match L.eng.exclAt.get j with
  | none => L
  | some t =>
    if now10 < t + killDelay then L
    else
      let bad := match L.eng.recs.get j with
        | some h => h.r.energised || h.at10 + silentTime10 ≤ now10
        | none => true
      let L := { L with eng := { L.eng with exclAt := L.eng.exclAt.set j none } }
      if bad && L.eng.healthy.get me then send (.kill j) L else L

def execKillCheck (l : LaneId) (named : LaneId) (now10 : Nat) (s : State) : Out := onLaneIf l LaneSt.running (killCheck l named now10) s

/-- TRACE_TRIGGER_MESSAGE (04 R159): `dt10` is the time from the trigger to its transmission. -/
def execTraceTriggerMessage (l : LaneId) (from_ : LaneId) (dt10 at10 : Nat) (s : State) : Out :=
  onLaneIf l LaneSt.running
    (fun L => if from_ = l then L else traceTrigger l 4 from_ (at10 - dt10 - linkDelay) L) s

/-- PLANNED_SLEEP (13 R420): the sender leaves the healthy set, which is not counted as a fault. -/
def sleepsNow (me j : LaneId) (L : LaneSt) : LaneSt :=
  if j = me then L
  else
    let L := { L with eng := { L.eng with sleeping := L.eng.sleeping.set j true } }
    if L.eng.healthy.get j then
      let K := postExcluded me j .lane (dropHealthy me j L)
      decideState me (if L.eng.standby == some j then postRole me 1 K else K)
    else L

def execPlannedSleep (l : LaneId) (from_ : LaneId) (s : State) : Out := onLaneIf l LaneSt.running (sleepsNow l from_) s

end Sys2Proof.Machine
end

