-- ==== Sys2Proof/Machine/Vote.lean ====
section
/-! DEFINITION. The vote at the start of a fast sample (01 R22–R36, 02 R64, 06 R219–R221): which records count, the voted values, the
disagreement counts, the acceptance of the lead's torque command, and the roles.
Log entries: 14, 15, 16, 18, 22, 73 (DEDUCED); 68 (DESIGN CHOICE). -/

namespace Sys2Proof.Machine

/-! ## Which records count -/

/-- A record is fresh at a vote (R22): less than 1.5 Tf + 2 µs old. -/
def Held.fresh (c : Conf) (t10 : Nat) (h : Held) : Bool := 8 * (t10 - h.inst10) < 3 * c.tf25 + 1600

/-- The fresh record of another lane. -/
def LaneSt.freshRec (L : LaneSt) (t10 : Nat) (j : LaneId) : Option HerdRec :=
  match L.eng.recs.get j with
  | some h => if h.fresh L.host.run t10 then some h.r else none
  | none => none

/-- The record a vote compares: of a healthy lane, fresh, and of this lane's configuration generation (R23, R44). -/
def LaneSt.voteRec (L : LaneSt) (t10 : Nat) (j : LaneId) : Option HerdRec :=
  if L.eng.healthy.get j then (L.freshRec t10 j).filter fun r => r.gen == L.eng.gen else none

/-- Healthy lanes carry different generations (R44): the counts are held. -/
def mixedGen (me : LaneId) (t10 : Nat) (L : LaneSt) : Bool :=
  me.others.any fun j => L.eng.healthy.get j && (match L.freshRec t10 j with
    | some r => r.gen != L.eng.gen
    | none => false)

/-! ## Votes over values (R23, R24) -/

/-- The contributing lanes and their values. -/
abbrev Votes := List (LaneId × Int)

/-- The difference of two values: plain, or of two angles on the circle. -/
def plainDist (a b : Int) : Int := absI (a - b)
def angleDist (a b : Int) : Int := absI (BitVec.ofInt 32 (a - b)).toInt

/-- Is a lane's value outside the window of every other contributing lane? -/
def outsideAll (dist : Int → Int → Int) (win : Int) (vs : Votes) (p : LaneId × Int) : Bool :=
  vs.all fun q => q.1 == p.1 || decide (win < dist p.2 q.2)

/-- The lane whose value stands in an unresolved vote: the lead, else the standby, else the lower-numbered. -/
def unresolvedPick (L : LaneSt) (vs : Votes) : Option Int :=
  match vs.find? fun p => L.eng.lead == some p.1 with
  | some p => some p.2
  | none => match vs.find? fun p => L.eng.standby == some p.1 with
    | some p => some p.2
    | none => vs.head?.map (·.2)

/-- The middle of three. -/
def middle (a b c : Int) : Int := max (min a b) (min (max a b) c)

/-- The voted value; the contributors stand in ascending lane number. -/
def voted (dist : Int → Int → Int) (win : Int) (L : LaneSt) (vs : Votes) : Option Int :=
  match vs with
  | [] => none
  | [p] => some p.2
  | [p, q] => if dist p.2 q.2 ≤ win then some (roundDiv (p.2 + q.2) 2) else unresolvedPick L vs
  | p :: q :: r :: _ => some (middle p.2 q.2 r.2)

/-- The counts of a quantity after a vote. `hold`: a healthy lane that could contribute is missing, or generations differ.
DESIGN CHOICE (log entry 68): with one contributing lane its count starts again, and a lane whose value is not valid keeps its count. -/
def countVotes (dist : Int → Int → Int) (win : Int) (hold : Bool) (vs : Votes) (cnt : Tri Byte) : Tri Byte :=
  let far := match vs with
    | [p, q] => decide (win < dist p.2 q.2)
    | _ => false
  if far && hold then cnt
  else vs.foldl (fun cnt p =>
    cnt.set p.1 (if 2 ≤ vs.length && outsideAll dist win vs p then satInc (cnt.get p.1) else 0)) cnt

/-- A healthy lane's record is missing although that lane could contribute, by the newest record held. -/
def missingOne (me : LaneId) (t10 : Nat) (valid : LaneId → HerdRec → Bool) (L : LaneSt) : Bool :=
  me.others.any fun j => L.eng.healthy.get j && (L.freshRec t10 j).isNone
    && (match L.eng.recs.get j with
        | some h => valid j h.r
        | none => true)

/-- The contributors of a quantity: this lane's own value, while it is healthy, and those of the records that count. -/
def contributors (me : LaneId) (t10 : Nat) (own : Option Int) (other : LaneId → HerdRec → Option Int) (L : LaneSt) : Votes :=
  LaneId.all.filterMap fun j =>
    if j = me then (if L.eng.healthy.get me then own.map fun v => (me, v) else none)
    else ((L.voteRec t10 j).bind (other j)).map fun v => (j, v)

/-- The lanes of a vote. -/
def lanesOf (vs : Votes) : Tri Bool := Tri.tab fun j => vs.any fun p => p.1 == j

/-! ## Position (06 R219–R221) -/

/-- A lane whose S fault stands and whose values are disregarded: it takes no part in the counts (R220). -/
def LaneSt.ignored (L : LaneSt) (j : LaneId) : Bool := L.eng.disregard.get j && L.hasFault .sensor j

/-- The mechanical angle of a record, moved forward to this lane's sample instant. -/
def recAngle (t10 : Nat) (L : LaneSt) (j : LaneId) (r : HerdRec) : Option Int :=
  if r.posOk && r.spdOk && !L.ignored j then
    let inst := match L.eng.recs.get j with
      | some h => h.inst10
      | none => t10
    some ((mechOf L.obs.n r.pos.toNat + advanceBy L.host.run r.speed ((t10 : Int) - inst)).toNat : Int)
  else none

/-- Angles as offsets from the first contributor. -/
def offsetsOf (vs : Votes) : Votes :=
  match vs with
  | [] => []
  | p :: _ => vs.map fun q => (q.1, (BitVec.ofInt 32 (q.2 - p.2)).toInt)

/-- The voted angle. -/
def votedAngle (win : Int) (L : LaneSt) (vs : Votes) : Option Word :=
  match vs with
  | [] => none
  | p :: _ => (voted angleDist win L (offsetsOf vs)).map fun o => BitVec.ofInt 32 (p.2 + o)

/-- A lane is disregarded while its S fault stands (R220). Before this lane has seen that fault, and on a lane that never raises it, while a count
for it stands at its limit (DEDUCED, log entry 14). -/
def endDisregard (L : LaneSt) : LaneSt :=
  let c := L.host.run
  let stands := fun (j : LaneId) => L.hasFault .sensor j || c.nat Item.posCount ≤ (L.eng.posCnt.get j).toNat
    || c.nat Item.spdCount ≤ (L.eng.spdCnt.get j).toNat
  { L with eng := { L.eng with disregard := Tri.tab fun j => L.eng.disregard.get j && stands j } }

/-- Three lanes contribute and the counts name another lane: it is disregarded from this vote on (R220). -/
def disregardNow (me : LaneId) (vs : Votes) (cnt : Tri Byte) (lim : Nat) (L : LaneSt) : LaneSt :=
  if vs.length < 3 then L
  else vs.foldl (fun L p =>
    if p.1 != me && lim ≤ (cnt.get p.1).toNat then { L with eng := { L.eng with disregard := L.eng.disregard.set p.1 true } } else L) L

/-- The position vote. -/
def votePos (me : LaneId) (t10 : Nat) (L : LaneSt) : LaneSt :=
  let win : Int := L.host.run.nat Item.posWin
  let own := if L.sen.source == .own && L.ownValid me then some ((ownMech t10 L).toNat : Int) else none
  let vs := contributors me t10 own (recAngle t10 L) L
  let cnt := if mixedGen me t10 L then L.eng.posCnt
    else countVotes angleDist win (missingOne me t10 (fun j r => r.posOk && r.spdOk && !L.ignored j) L) (offsetsOf vs)
      L.eng.posCnt
  let L := disregardNow me vs cnt (L.host.run.nat Item.posCount) { L with eng := { L.eng with posCnt := cnt, posIn := lanesOf vs } }
  let vs := vs.filter fun p => !L.eng.disregard.get p.1
  let v := votedAngle win L vs
  { L with sen := { L.sen with votedPos := v.getD L.sen.votedPos, votedPosOk := v.isSome,
                               othersPos := votedAngle win L (vs.filter fun p => p.1 != me) } }

/-- SPD_OK: SPEED_VALID (06 R216); a lane whose S fault has been cleared shows it again on its return to its own sensor (R220). -/
def SenEng.spdShown (x : SenEng) : Bool := x.speedValid && !x.clearedS

/-- The speed vote. -/
def voteSpd (me : LaneId) (t10 : Nat) (L : LaneSt) : LaneSt :=
  let win := L.host.run.int Item.spdWin
  let ok := fun (j : LaneId) (r : HerdRec) => r.spdOk && !L.ignored j
  let vs := contributors me t10 (if L.sen.spdShown then some L.sen.speed.toInt else none)
    (fun j r => if ok j r then some r.speed.toInt else none) L
  let cnt := if mixedGen me t10 L then L.eng.spdCnt
    else countVotes plainDist win (missingOne me t10 ok L) vs L.eng.spdCnt
  let L := disregardNow me vs cnt (L.host.run.nat Item.spdCount) { L with eng := { L.eng with spdCnt := cnt, spdIn := lanesOf vs } }
  let v := voted plainDist win L (vs.filter fun p => !L.eng.disregard.get p.1)
  { L with sen := { L.sen with votedSpd := (v.map satQ).getD L.sen.votedSpd, votedSpdOk := v.isSome } }

/-! ## The torque command (R29) -/

def tqVotes (me : LaneId) (t10 : Nat) (L : LaneSt) : Votes :=
  contributors me t10 (some L.eng.tqOwn.toInt) (fun _ r => some r.tq.toInt) L

/-- The lead's value, where a lane accepts it: inside the window of another contributor, or with no other contributor. -/
def acceptTq (win : Int) (lead : Option LaneId) (vs : Votes) : Option Int :=
  match vs.find? fun p => lead == some p.1 with
  | none => none
  | some p =>
    let others := vs.filter fun q => q.1 != p.1
    if others.isEmpty || others.any fun q => decide (plainDist p.2 q.2 ≤ win) then some p.2 else none

/-- The torque vote: the counts and the acceptance; the first acceptance of a new lead ends this lane's part of the gap (R33). -/
def voteTq (me : LaneId) (t10 : Nat) (L : LaneSt) : LaneSt :=
  let win := L.host.run.int Item.tqWin
  let vs := tqVotes me t10 L
  let cnt := if mixedGen me t10 L then L.eng.tqCnt
    else countVotes plainDist win (missingOne me t10 (fun _ _ => true) L) vs L.eng.tqCnt
  let L := { L with eng := { L.eng with tqCnt := cnt, tqIn := lanesOf vs } }
  match acceptTq win L.eng.lead vs with
  | some v =>
    let gap := match L.eng.gapFrom with
      | some t => satNat 16 (t10 - t)
      | none => L.eng.lastGap
    { L with eng := { L.eng with tqAcc := satQ v, accepting := true, lastGap := gap, gapFrom := none } }
  | none => { L with eng := { L.eng with accepting := false } }

/-! ## Tracking (R30) -/

/-- The standby sets the loop that the lead's record names. -/
def trackLead (me : LaneId) (t10 : Nat) (L : LaneSt) : LaneSt :=
  match L.eng.lead with
  | none => L
  | some l => match L.voteRec t10 l, L.eng.recs.get l with
    | some r, some h =>
      if l = me || L.eng.role != .standby || !L.eng.accepting || L.eng.trackAt == some h.inst10 then L
      else
        let L := { L with eng := { L.eng with trackAt := some h.inst10 } }
        match L.host.run.graph.find? fun p => p.2.isPi && p.2.tracked && p.2.trackIdx == r.index with
        | some p => updNode p.1 (fun s => { s with herdSet := some r.integ }) L
        | none => L
    | _, _ => L

/-! ## What a record shows (Table 1-1, Table 1-2) -/

/-- A LANE_ROLE_SET that this lane has received waits to execute, or for its fast sample (R31). -/
def LaneSt.rolePending (L : LaneSt) : Bool :=
  L.eng.roleSet.isSome || L.host.tasks.any fun t => t.pkt.opcode == 0x0104 && !t.started && !t.done

/-- A lane is seen to lead that this lane did not take as lead (R33, R34). -/
def learnLead (me j : LaneId) (inst10 : Nat) (L : LaneSt) : LaneSt :=
  let e := L.eng
  let old := e.lead
  let first := old.isNone
  let promote := e.role == .watch && !first && !(L.host.run.t2 && me == .l2)
  let deposed := old == some me
  let role := if deposed then Role.none else if promote then .standby else e.role
  let standby := if promote then some me else if e.standby == some j then none else e.standby
  let L := { L with eng := { e with lead := some j, standby := standby, role := role, formerLead := old, leadSeen := true,
                                    rejoin := if deposed then some 0 else e.rejoin, trackAt := none,
                                    switchCount := if first then e.switchCount else satInc e.switchCount,
                                    gapFrom := if first then none else some inst10 } }
  let L := if deposed then abortLearn me { L with host := { L.host with prepOpen := none } } else L
  let L := renumber me (setAcceptMask me L)
  if first then L else postRole me 1 L

/-- The roles another lane's record shows. -/
def noteRole (me j : LaneId) (inst10 : Nat) (r : HerdRec) (L : LaneSt) : LaneSt :=
  let L := if r.role != 0 && L.eng.formerLead == some j then { L with eng := { L.eng with formerLead := none } } else L
  let L := if r.role != 1 && L.eng.formerStandby == some j then { L with eng := { L.eng with formerStandby := none } } else L
  let out := L.eng.left.get j
  let L := if r.role = 3 then { L with eng := { L.eng with left := L.eng.left.set j true } }
    else if L.eng.healthy.get j then { L with eng := { L.eng with left := L.eng.left.set j false } }
    else L
  if !L.eng.healthy.get j then
    if r.role != 3 && !r.debug && !r.excl && out && !L.eng.electionOpen then
      let L := joinHealthy me j L
      postRole me 3 (if r.role = 1 && L.eng.lead != some j then { L with eng := { L.eng with standby := some j } } else L)
    else L
  else if r.role = 0 then
    if L.eng.lead == some j then { L with eng := { L.eng with leadSeen := true } }
    else if L.eng.formerLead == some j || L.rolePending then L
    else learnLead me j inst10 L
  else if r.role = 1 && L.eng.standby != some j && L.eng.lead != some j && L.eng.formerStandby != some j && !L.rolePending then
    postRole me (if out then 3 else 1) { L with eng := { L.eng with standby := some j } }
  else L

/-- The faults another lane's record shows: its STO, its bridge, its own sensor (02 Table 2-1). With the end of an S fault its lane is
disregarded no longer (06 R220). -/
def noteFlags (j : LaneId) (r : HerdRec) (L : LaneSt) : LaneSt :=
  let L := { L with safe := { L.safe with stoLow := L.safe.stoLow.set j (r.health.getLsbD 12) } }
  let L := if r.bridgeFault then addFault { kind := .winding, lane := j } L
    else endFaults (fun f => f.kind == .winding && f.lane == j && f.src != 0x46) L
  let L := if r.energised then endFaults (fun f => f.kind == .winding && f.lane == j && f.src == 0x46) L
    else { L with eng := { L.eng with devHit := L.eng.devHit.set j false } }
  let own := r.health.getLsbD 3
  if own then
    let back := L.hasFault .sensor j
    endFaults (fun f => f.kind == .sensor && f.lane == j)
      { L with eng := { L.eng with ownSeen := L.eng.ownSeen.set j true, ownLost := L.eng.ownLost.set j false,
                                   ownCleared := L.eng.ownCleared.set j false,
                                   disregard := L.eng.disregard.set j (L.eng.disregard.get j && !back) } }
  else if (L.host.run.item Item.scLanes).getLsbD j.num && L.eng.ownSeen.get j then
    addFault { kind := .sensor, lane := j, src := 0x38 } { L with eng := { L.eng with ownLost := L.eng.ownLost.set j true } }
  else L

/-- The newest record of another lane, at a vote. -/
def noteRecord (me : LaneId) (t10 : Nat) (L : LaneSt) (j : LaneId) : LaneSt :=
  match L.eng.recs.get j with
  | none => L
  | some h =>
    if !h.fresh L.host.run t10 then L
    else
      let r := h.r
      let L := noteRole me j h.inst10 r L
      let L := if L.eng.healthy.get j then noteFlags j r L else L
      if r.debug then exclude me j L
      else if r.excl && L.eng.healthy.get j then declareLost me j L
      else L

/-- A missing record of a healthy lane is counted (R22). -/
def countMiss (t10 : Nat) (L : LaneSt) (j : LaneId) : LaneSt :=
  let n : Byte := if !L.eng.healthy.get j || (L.freshRec t10 j).isSome then 0 else satInc (L.eng.miss.get j)
  { L with eng := { L.eng with miss := L.eng.miss.set j n } }

/-- A lane that announced that it is down is excluded (02 R63). -/
def dropDown (me : LaneId) (L : LaneSt) (j : LaneId) : LaneSt := if L.eng.down.get j then exclude me j L else L

/-! ## Links (R21) -/

/-- The records that arrived since the last sample, and what both ends of the far link show. -/
def countLinks (me : LaneId) (t10 : Nat) (L : LaneSt) : LaneSt :=
  let e := L.eng
  let L := { L with eng := { e with linksRx := e.linkSeen, linkSeen := ⟨false, false, false⟩ } }
  let miss := fun (L : LaneSt) (k : Link) => { L with eng := { L.eng with linkMiss := L.eng.linkMiss.upd k.slot satInc } }
  let L := (ownLinks me).foldl (fun L k => if e.linkSeen.get k.slot then L else miss L k) L
  let k := farLink me
  match me.others.map (L.freshRec t10) with
  | [some a, some b] => if a.linkRx k && b.linkRx k then linkUp me k L else miss L k
  | [some a, none] => if a.linkRx k then L else miss L k
  | [none, some b] => if b.linkRx k then L else miss L k
  | _ => L

/-! ## The lead (R31, R32, R34) -/

/-- The preset of R32 from a torque command. A medium execution in progress that held the ARBITER starts again in this sample (04 R142). -/
def preset (tq : Word) (L : LaneSt) : LaneSt :=
  let again := match L.host.run.arbiter with
    | some (_, r) => r.part == 1 && L.ox.medRun.isSome
    | none => false
  let L := presetLead tq L
  { L with ox := { L.ox with medRestart := L.ox.medRestart || again } }

/-- This lane takes the lead, before its fast partition runs. -/
def takeLead (me : LaneId) (L : LaneSt) : LaneSt :=
  let old := L.eng.lead
  let L := preset L.eng.tqAcc L
  let L := { L with
    eng := { L.eng with role := .lead, lead := some me, standby := none, switchCount := satInc L.eng.switchCount, lastGap := 0,
                        gapFrom := none, formerLead := old, leadSeen := true, accepting := true } }
  renumber me (setAcceptMask me (postRole me 1 (commitTakeover me L)))

/-- What the lead's record shows asks for a switch-over (R31). DESIGN CHOICE (log entry 68): a new lead's ROLE is tested from its first
record that shows it as lead. -/
def leadFails (t10 : Nat) (L : LaneSt) (l : LaneId) : Bool :=
  !L.eng.healthy.get l
  || (match L.freshRec t10 l with
      | some r => !r.selfOk || r.debug || r.excl
          || (r.role == 3 && L.eng.leadSeen) || ((r.role == 1 || r.role == 2) && L.eng.leadSeen && !L.rolePending)
      | none => false)

/-- The switch-overs that a vote sees without a count. -/
def switchOver (me : LaneId) (t10 : Nat) (L : LaneSt) : LaneSt :=
  match L.eng.lead with
  | some l =>
    if l = me then L
    else if L.eng.role == .standby && leadFails t10 L l then takeLead me L
    else if !L.eng.healthy.get l && L.eng.standby.isNone then
      renumber me (postRole me 1 (setAcceptMask me { L with eng := { L.eng with lead := none } }))
    else L
  | none => L

/-- The current lead's TQ: that of its newest record, or the one accepted last where none is held. -/
def LaneSt.leadTq (L : LaneSt) : Word :=
  match L.eng.lead.bind L.eng.recs.get with
  | some h => h.r.tq
  | none => L.eng.tqAcc

/-- A planned hand-over, at this lane's first fast sample after the command (R37). -/
def planned (me : LaneId) (L : LaneSt) : LaneSt :=
  match L.eng.roleSet with
  | none => L
  | some n =>
    let e := { L.eng with roleSet := none }
    let L := { L with eng := e }
    if e.lead == some n || !e.healthy.get n then L
    else
      let old := e.lead
      let standby := old
      let wasWatch := e.standby != some n
      let role := if n = me then Role.lead else if old == some me then .standby
        else if wasWatch && e.role == .standby then .watch else e.role
      let L := if n = me then preset L.leadTq L else L
      let L := if old == some me then abortLearn me L else L
      let L := { L with eng := { L.eng with lead := some n, standby := standby, role := role, formerLead := old,
                                            formerStandby := if wasWatch then e.standby else none, leadSeen := n == me, trackAt := none } }
      renumber me (setAcceptMask me (postRole me 2 (if n = me then commitTakeover me L else L)))

/-! ## Rejoining (R36) -/

/-- A sample of a lane that rejoins: inside the windows it counts, outside it starts again. The first one follows the load of the
configuration from the lead that the lane knew at its start. -/
def countRejoin (me : LaneId) (t10 : Nat) (from_ : Option LaneId) (L : LaneSt) : LaneSt :=
  match L.eng.rejoin with
  | none => L
  | some n =>
    if n = 0 && !from_.any (· != me) then L
    else
      let tqs := (tqVotes me t10 L).filter fun p => p.1 != me
      let tqOk := tqs.any fun p => decide (plainDist p.2 L.eng.tqOwn.toInt ≤ L.host.run.int Item.tqWin)
      let posOk := match L.sen.othersPos with
        | some th => L.sen.source != .own || absI (wrapDiff (ownMech t10 L) th) ≤ (L.host.run.nat Item.posWin : Int)
        | none => true
      let spds := contributors me t10 none (fun _ r => if r.spdOk then some r.speed.toInt else none) L
      let spdOk := !L.sen.speedValid || spds.isEmpty
        || spds.any fun p => decide (plainDist p.2 L.sen.speed.toInt ≤ L.host.run.int Item.spdWin)
      { L with eng := { L.eng with rejoin := some (if tqOk && posOk && spdOk then min 64 (n + 1) else 0) } }

/-! ## The vote -/

/-- Everything a vote does, in its order. -/
def vote (me : LaneId) (t10 : Nat) (L : LaneSt) : LaneSt :=
  let lead := L.eng.lead
  let L := countLinks me t10 L
  let L := me.others.foldl (dropDown me) L
  let L := me.others.foldl (noteRecord me t10) L
  let L := me.others.foldl (countMiss t10) L
  let L := switchOver me t10 (planned me L)
  let L := voteSpd me t10 (votePos me t10 (endDisregard L))
  let L := trackLead me t10 (voteTq me t10 L)
  countRejoin me t10 lead L

/-- A vote is unresolved no longer when no count of two lanes stands at its limit. -/
def settleVotes (L : LaneSt) : LaneSt :=
  let c := L.host.run
  let at_ := fun (t : Tri Byte) (lim : Nat) => LaneId.all.any fun j => L.eng.healthy.get j && lim ≤ (t.get j).toNat
  let stands := at_ L.eng.tqCnt (c.nat Item.tqCount) || at_ L.eng.posCnt (c.nat Item.posCount)
    || at_ L.eng.spdCnt (c.nat Item.spdCount) || c.nat Item.tqDevCount ≤ L.eng.twoDev.toNat
  { L with safe := { L.safe with unresolved := L.safe.unresolved && stands } }

/-! ## The counts at their limits -/

/-- LANE_SILENT: a lane without records for LANE_MISS_COUNT votes is silent, and is excluded; the standby takes the lead from it. -/
def laneSilent (me j : LaneId) (L : LaneSt) : LaneSt :=
  if j = me || L.eng.isolated || !L.eng.healthy.get j || (L.eng.miss.get j).toNat < L.host.run.nat Item.missCount then L
  else
    let L := exclude me j { L with eng := { L.eng with silent := L.eng.silent.set j true } }
    let L := if L.eng.lead == some j && L.eng.role == .standby then takeLead me L else L
    decideState me L

def execLaneSilent (l : LaneId) (j : LaneId) (s : State) : Out := onLaneIf l LaneSt.running (laneSilent l j) s

/-- TQ_DISAGREE_COUNT of lane j: with three contributors the lead is replaced by the standby, the watch only marking it, and any other
lane is excluded; with two the vote is unresolved (R31, R34, R35). -/
def tqDisagree (me j : LaneId) (L : LaneSt) : LaneSt :=
  if (L.eng.tqCnt.get j).toNat < L.host.run.nat Item.tqCount || !L.eng.healthy.get j then L
  else
    match L.eng.tqIn.lanes with
    | [a, b] => unresolvedVote me a b L
    | [_, _, _] =>
      if j = me then L
      else if L.eng.lead == some j then
        if L.eng.role == .standby then decideState me (exclude me j (takeLead me L)) else L
      else decideState me (exclude me j L)
    | _ => L

def execTqDisagreeCount (l : LaneId) (j : LaneId) (s : State) : Out := onLaneIf l LaneSt.running (tqDisagree l j) s

/-- SENSOR_DISAGREE: with three contributors the lane named by its own count loses its sensor, if it has one (R202); with two the vote is
unresolved (06 R220, R221). -/
def sensorDisagree (me j : LaneId) (q : SenseQty) (L : LaneSt) : LaneSt :=
  let (cnt, lim, inn, cause) := match q with
    | .pos => (L.eng.posCnt, L.host.run.nat Item.posCount, L.eng.posIn, lossPos)
    | .spd => (L.eng.spdCnt, L.host.run.nat Item.spdCount, L.eng.spdIn, lossSpd)
  if (cnt.get j).toNat < lim then L
  else
    match inn.lanes with
    | [a, b] => unresolvedVote me a b L
    | [_, _, _] => if j = me && L.hasSc me then decideState me (loseSensor me cause L) else L
    | _ => L

def execSensorDisagree (l : LaneId) (j : LaneId) (q : SenseQty) (s : State) : Out :=
  onLaneIf l LaneSt.running (sensorDisagree l j q) s

end Sys2Proof.Machine
end

