-- ==== Sys2Proof/Machine/Handover.lean ====
section
/-! DEFINITION. The way to full function (13 R399–R407): the boot-cause record, full function reached, and the hand-over from the Colt
action to the graph.
Log entries: 30, 43, 59 (DEDUCED). -/

namespace Sys2Proof.Machine

/-- COLT_FAST, COLT_NO_HALL and COLT_PRECHARGE_FAIL as they stand. -/
def coltFlags (x : StartEng) : BitVec 3 := BitVec.ofNat 3 (b2n x.coltFast + 2 * b2n x.coltNoHall + 4 * b2n x.coltPreFail)

/-- The boot-cause record (13 Table 13-4). In full function the flags of the Colt stage are those it ended with. -/
def bootRecord (L : LaneSt) : List Byte :=
  let x := L.start
  let other := match x.imgInUse with
    | .A => x.goodB.isSome | .B => x.goodA.isSome
  let stage := if x.phase == .full then x.stageFlags else coltFlags x
  [BitVec.ofNat 8 (x.startKind.toNat + 8 * b2n x.cold + 16 * b2n (x.phase == .minimal) + 32 * b2n x.overdue), x.bootRec, x.minReason,
    x.failStep,
    BitVec.ofNat 8 (x.coltAction.code + 4 * b2n x.coltBad + 8 * stage.toNat),
    BitVec.ofNat 8 (x.imgInUse.num + 2 * b2n other + 4 * b2n x.fallback + 8 * b2n x.imageFromLane), x.ovdRead, x.prevFa]
  ++ le32 x.coltTime ++ le32 x.fullTime ++ le32 x.coltEffort ++ zeros 12

/-- Event 0x83 (R407). -/
def postBoot (me : LaneId) (L : LaneSt) : LaneSt := arrive me 0x83 clsInfo (payBytes ((bootRecord L).take 8)) L

/-- The Colt action with a high side on. -/
def coltDrives (L : LaneSt) : Bool := L.start.coltAction == .holdEffort && !L.start.coltFast && !L.start.coltNoHall && !L.start.coltPreFail

/-- The lane reaches full function (R399, R404): the boot counter is written 0. -/
def reachFull (me : LaneId) (L : LaneSt) : LaneSt :=
  if L.start.phase == .full then L
  else
    postBoot me { L with start := { L.start.writeBoot 0 with phase := .full, bootStep := 0, elects := false, stageFlags := coltFlags L.start,
                                                             fullTime := BitVec.ofNat 32 L.start.startClock } }

/-- COLT_EFFORT (R403), from the announcements of the lanes in the election. -/
def coltEffortOf (L : LaneSt) : Word :=
  let c := L.host.run
  let sum := (L.eng.announced.toList.filterMap fun a => a.bind fun x => if x.minimal then none else some x.current.toInt).sum
  let v := mulQ (c.int Item.ktPu) sum
  satQ (if (c.item Item.coltDir).getLsbD 0 then -v else v)

/-- The image generation that a lane announces. -/
def LaneSt.imageGen (L : LaneSt) : BitVec 24 := match L.start.image with
  | some i => i.gen
  | none => 0

/-- The announced lanes that are not minimal. -/
def LaneEng.members (e : LaneEng) : List LaneId :=
  LaneId.all.filter fun l => match e.announced.get l with
    | some a => !a.minimal
    | none => false

/-- The generation that a lane announced, and the highest of several lanes. -/
def LaneEng.genOf (e : LaneEng) (l : LaneId) : Nat := match e.announced.get l with
  | some a => a.gen.toNat
  | none => 0
def LaneEng.topGen (e : LaneEng) (ms : List LaneId) : Nat := ms.foldl (fun m l => max m (e.genOf l)) 0

/-- The hand-over that waited for stores (R401): the lead sends HANDOVER once every lane of the election that still runs holds the image of
the highest generation. -/
def handoverWaited (me : LaneId) (peer : LaneId → LaneSt) (L : LaneSt) : LaneSt :=
  let ms := L.eng.members
  let stored := fun j => let P := if j = me then L else peer j
    !P.running || P.imageGen.toNat == L.eng.topGen ms
  if L.start.handoverDue && ms.all stored then { send .handover L with start := { L.start with handover := true, handoverDue := false } } else L

/-- The first fast sample after HANDOVER (R402): the graph is activated, and the bridge leaves the Colt action at a later update
point; a store of R401 in progress is waited for. Without a graph it goes to MOTION_DISABLE_STATE (03 R462). -/
def handOver (me : LaneId) (L : LaneSt) : LaneSt :=
  if !L.start.handover || L.host.storing.isSome || L.eng.electionOpen then L
  else
    let e := coltEffortOf L
    let drives := coltDrives L && L.gate.demand == .colt
    let L := activate me e { L with start := { L.start with handover := false, coltEffort := e, coltOn := false } }
    let L := leaveColt me (reachFull me L)
    if L.safe.state == .stopped then L
    else if L.host.run.nat Item.startEnabled = 0 || L.ox.graphState != .active then
      { L with mot := { L.mot with enabled := false, disableReq := some (disableEnd L 0) } }
    else
      let L := { L with mot := { L.mot with enabled := true, fly := false } }
      if !L.host.run.hasWinding me || L.mot.stoHold then gatesOff L
      else if drives then { L with mot := { L.mot with enable := .energise } }
      else startPrecharge L

end Sys2Proof.Machine
end

