-- ==== Sys2Proof/Machine/EventOps.lean ====
section
/-! DEFINITION. The EVENT commands (10): arrivals, hold-off timers, host sleep and the counts.
Log entries: 54 (DEDUCED); 56 (DESIGN CHOICE). -/

namespace Sys2Proof.Machine

/-! ## EVENT_ARRIVAL (R325–R336) -/

/-- The sources that a block of the lane can ring: a completion is no arrival (R329), sources from 0xC0 are reserved, and 0x95 and 0x96 exist
only on a lane that has the RXD ball of the channel (R326). -/
def ringable (me : LaneId) (src : Byte) : Bool :=
  0x10 ≤ src.toNat && src.toNat < 0xC0 && (src != 0x95 || receives me .A) && (src != 0x96 || receives me .B)

/-- The pin sources of group 9 (R334). -/
def pinSource (src : Byte) : Bool := groupOf src == 9

/-- A source rings the doorbell; an edge of a pin goes to its latch while the controller is not clocked. -/
def ring (me : LaneId) (src : Byte) (cls : BitVec 3) (payload : BitVec 64) (L : LaneSt) : LaneSt :=
  if !ringable me src then L
  else if pinSource src then pinEdge me src L
  else arrive me src cls payload L

def execEventArrival (l : LaneId) (src : Byte) (cls : BitVec 3) (payload : BitVec 64) (s : State) : Out :=
  onLane l (ring l src cls payload) s

/-! ## HOLDOFF_TIMER_EXPIRY (R338) -/

/-- The timer of a group stops, and HIRQ_N is asserted if the queue still holds records. -/
def holdoffExpired (g : Fin 16) (L : LaneSt) : LaneSt :=
  if L.ev.holdRunning.getLsbD g.val then
    let L := { L with ev := { L.ev with holdRunning := L.ev.holdRunning &&& ~~~(1#16 <<< g.val) } }
    if L.host.eqHeld != 0 then raiseIrq L else L
  else L

def execHoldoffTimerExpiry (l : LaneId) (g : Fin 16) (s : State) : Out := onLaneIf l LaneSt.running (holdoffExpired g) s

/-! ## Latches (R334) -/

/-- A latch posts one arrival with its count and first-edge time. -/
def postLatch (me : LaneId) (L : LaneSt) (p : Nat × PinLatch) : LaneSt :=
  arriveAt me (BitVec.ofNat 8 p.1) p.2.count.toNat clsInfo (pay2 p.2.first 0) p.2.first (p.2.unsync || L.unsync) L

/-- The event controller's clock returns: every latch posts, in ascending source number, and clears. -/
def postLatches (me : LaneId) (L : LaneSt) : LaneSt :=
  L.ev.latches.foldl (postLatch me) { L with ev := { L.ev with latches := [] } }

/-! ## Opcodes -/

/-- HOST_SLEEP (R339). -/
def opHostSleep (_ : LaneId) (h : Sender) (blk : List Byte) (L : LaneSt) : LaneSt × Option LaneRes :=
  checked [(blk.length == 4 && zerosAt blk 2 2, stBadParam), (h.lane?.isSome && L.host.eqHeld == 0, stNotInState)] L
    ({ L with host := { L.host with asleep := true }, ev := { L.ev with wakeMask := rd16 blk 0 } }, some okRes)

/-- EVENT_COUNTS: the 256 counts, and the pending bitmap. -/
def opEventCounts (_ : LaneId) (_ : Sender) (blk : List Byte) (L : LaneSt) : LaneSt × Option LaneRes :=
  let bits := (List.range 32).map fun i =>
    BitVec.ofNat 8 (((List.range 8).map fun b => if L.ev.pending.contains (8 * i + b) then 2 ^ b else 0).sum)
  checked [(noBlock blk, stBadParam)] L (L, some (replyRes (Store.reads 0 L.ev.cnt 0 256 ++ bits)))

def execHostSleep (c : Ctx) (blk : List Byte) (s : State) : Out := runOp 0x0710 c blk (opHostSleep c.lane c.sender blk) s
def execEventCounts (c : Ctx) (blk : List Byte) (s : State) : Out := runOp 0x0801 c blk (opEventCounts c.lane c.sender blk) s

end Sys2Proof.Machine
end

