-- ==== Sys2Proof/Machine/Sample.lean ====
section
/-! DEFINITION. The fast sample (04 R134–R142): what it takes, converts, votes and executes, and its release point.
Log entries: 15, 16, 18, 29, 30, 31, 66, 74 (DEDUCED); 8, 71, 76 (DESIGN CHOICE). -/

namespace Sys2Proof.Machine

/-! ## Beginning -/

/-- The lane samples: its logic, its Ox engine and its converters run (13 Table 13-7). -/
def LaneSt.samples (L : LaneSt) : Bool :=
  L.running && L.dom .ox == .on && L.dom .ana == .on
  && (L.start.phase == .announced || L.start.phase == .full || L.start.phase == .minimal)

/-- Take a step only while the lane is not lost. -/
def whileUp (f : LaneSt → LaneSt) (L : LaneSt) : LaneSt := if L.running then f L else L

/-- The sample count, the ages of the check events, and the lockstep comparison of the lane sequencer pair (12 Table 12-4). -/
def beginSample (me : LaneId) (i : FastIn) (L : LaneSt) : LaneSt :=
  let o := L.ox
  let L := { L with
    time := { L.time with clk10 := max L.time.clk10 i.t10 },
    ox := { o with inst10 := i.t10, fastCount := if o.counting then o.fastCount + 1 else 0, counting := true,
                   events := (o.events.map (· + 1)).filter (· < 100),
                   staged := { duties := none, poisoned := false, sinks := o.sinksNext }, sinksNext := [] },
    mot := { L.mot with gatesOffSample := false } }
  if i.lockstepOk then L else goFatal me 0x20 0 0xFF { L with eng := { L.eng with lockstepOk := false, ucRaised := true } }

/-! ## The PWM update point (05 R164–R168, R191, R195) -/

/-- A compare value in 1/16 tick. -/
def compare16 (c : Conf) (d : Word) : BitVec 18 := BitVec.ofInt 18 (roundDiv (d.toInt * c.nat Item.pwmTop * 16) qUnit)

/-- The duty range of R172. -/
def clampDuty (c : Conf) (d : Word) : Word := satQ (clampI d.toInt c.dMin (qUnit - c.dMin))

/-- The released duties are loaded: at the valley for the half that counts up, at the peak for the other, with one update at the
valley for both. A poisoned duty is not loaded, and the gates are off for the sample. -/
def loadDuties (me : LaneId) (L : LaneSt) : LaneSt :=
  let c := L.host.run
  let valley := c.nat Item.updates = 1 || !L.mot.valley
  let L := { L with mot := { L.mot with valley := valley, clamped := false } }
  match L.mot.staged with
  | none => L
  | some d =>
    if L.mot.stagedPoison then
      let n := match c.sinks 2 with
        | p :: _ => p.1
        | [] => 0
      reportPoison me 0x08 0 n
        { L with mot := { L.mot with staged := none, gatesOffSample := true }, eng := { L.eng with ucRaised := true } }
    else
      let d' := d.map (clampDuty c)
      let x := d'.map (compare16 c)
      let up := if valley then x else L.mot.up
      let down := if c.nat Item.updates = 1 || !valley then x else L.mot.down
      { L with mot := { L.mot with staged := none, up := up, down := down, clamped := d' != d, depth := L.mot.depth || d' != d } }

/-- The bridge takes the disable state of a MOTION_DISABLE, and the duties released before are discarded (R195, Table 5-3); a bridge that an end state or the Colt stage governs keeps it. -/
def takeDisable (me : LaneId) (L : LaneSt) : LaneSt :=
  match L.mot.disableReq with
  | none => L
  | some e =>
    let L := { L with mot := { L.mot with disableReq := none, staged := none } }
    if L.safe.state == .stopped || L.safe.state == .colt then L
    else
      let L := bridgeTo me e L
      { L with mot := { L.mot with drive := .disable } }

/-- The bridge is released, or moves from the Colt action to the graph: without a flying start, six-step begins with its integrator at d_min
(05 R184). The hand-over of 13 R402 is no enable, and does not wait for SPEED_VALID. The share returns, which ends the lane's own STO
discrepancy (02 R59). -/
def releaseBridge (me : LaneId) (L : LaneSt) : LaneSt :=
  if L.mot.enable == .release || L.mot.enable == .energise then
    if L.mayDrive me && (L.drivePos || (L.mot.enable == .energise && L.sen.source == .hall && L.sen.hallValid)) then
      let L := if L.sen.source == .hall && !L.mot.fly then enterSixStep false L else L
      let L := endFaults (fun f => f.kind == .winding && f.lane == me && f.src == 0x46) L
      finishEnable me true
        { L with mot := { L.mot with energised := true, enable := .idle, fly := false, flyDue := false } }
    else cancelEnable me (gatesOff L)
  else L

/-- An energised bridge follows the PWM sink, or six-step in the Hall step (06 Table 6-1), where the Hall state and DIR switch the conducting
phases at the update point (05 R186). -/
def driveBridge (L : LaneSt) : LaneSt :=
  if L.mot.energised then
    let hall := L.sen.source == .hall
    { L with gate := { L.gate with demand := if hall then .sixStep else .pwm },
             mot := { L.mot with drive := if hall then .sixStep else .foc,
                                 legs := if hall then sixLegs (L.host.run.nat Item.hallRot) L.sen.hallState L.mot.sixDir else none } }
  else { L with mot := { L.mot with legs := none } }

def updatePoint (me : LaneId) (L : LaneSt) : LaneSt := driveBridge (turnSix (releaseBridge me (loadDuties me (takeDisable me L))))

/-! ## Conversions -/

/-- The winding currents, and the latched position word (R134, 05 R170, 06 R204). -/
def convert (me : LaneId) (i : FastIn) (L : LaneSt) : LaneSt :=
  let c := L.host.run
  let ia := currentOf c i.codeA L.mot.offA
  let ib := currentOf c i.codeB L.mot.offB
  let L := { L with mot := { L.mot with ia := ia, ib := ib } }
  if L.hasSc me && L.sen.started then { L with sen := { L.sen with position := wordAt i.t10 L } } else L

/-- A drive that may not go on is ended. -/
def checkDrive (me : LaneId) (L : LaneSt) : LaneSt :=
  if L.mot.enable != .idle && !L.mayDrive me then cancelEnable me L else L

/-! ## What waits for the fast sample -/

/-- OX_DEBUG_ENTER and the debug port (04 R151): the lane is excluded, and its trace freezes. OX_DEBUG_EXIT (R154): its graph is
activated again, and the lane rejoins, but for one that a kill order keeps excluded until its reset (02 R65). DESIGN CHOICE (log entry 71): GRAPH of a
DEBUG_ACTIVE lane without a graph shows debug. -/
def takeDebug (me : LaneId) (L : LaneSt) : LaneSt :=
  match L.eng.debugReq with
  | none => L
  | some true =>
    let L := beExcluded me (abortLearn me (freezeTrace (cancelEnable me L)))
    { L with eng := { L.eng with debug := true, debugReq := none }, ox := { L.ox with graphState := .debug } }
  | some false =>
    let L := activate me 0 { L with eng := { L.eng with debug := false, excluded := L.eng.killed, debugReq := none } }
    { L with eng := { L.eng with rejoin := if L.eng.killed then none else some 0 } }

/-- An EXCLUDE order that names this lane (02 R64). -/
def takeDrop (me : LaneId) (L : LaneSt) : LaneSt :=
  if !L.eng.dropNow then L
  else
    let L := { L with eng := { L.eng with dropNow := false } }
    if L.eng.excluded then L else beExcluded me (abortLearn me (cancelEnable me L))

/-- LANE_STO at its fast sample (11 R368). -/
def takeSto (me : LaneId) (L : LaneSt) : LaneSt :=
  if L.safe.stoReq then stoNow me 0x23 { L with safe := { L.safe with stoReq := false } } else L

/-- The counts of wrong keys of another lane, their instants moved to this lane's clock (01 R54). -/
def keysOf (P L : LaneSt) : List KeyCount :=
  P.eng.claimCount.map fun k => { k with times := k.times.map fun t => t + L.time.clk10 - P.time.clk10 }

/-- What the healthy lanes hold in common by the commands they execute: the claim and the counts of wrong keys (01 R54), the open
transaction (09 R317), the replication numbers, and whether motion is enabled. -/
def takeShared (P : LaneSt) (l : LaneId) (L : LaneSt) : LaneSt :=
  { L with
    eng := { L.eng with gen := P.eng.gen, claim := P.eng.claim, nextRn := max L.eng.nextRn P.eng.nextRn,
                        numbered := P.eng.numbered.set l P.host.nextTid,
                        claimCount := keysOf P L },
    host := { L.host with trans := P.host.trans },
    mot := { L.mot with enabled := P.mot.enabled, vel := P.mot.vel },
    safe := { L.safe with muleRemain := P.safe.muleRemain, muleUs := P.safe.muleUs } }

/-- A lane that rejoins loads from the lead the configuration of the current generation, with the items in force there, the Mule budget, what
the lanes hold in common, and the local time (01 R36, R54, 02 R70, 00 R9). A new configuration starts its Welor engine again. -/
def loadFromLead (me : LaneId) (peer : LaneId → LaneSt) (L : LaneSt) : LaneSt :=
  match L.eng.rejoin, L.eng.lead with
  | some _, some l =>
    if l = me then L
    else
      let P := peer l
      let same := P.host.run == L.host.run && P.host.committed == L.host.committed && (L.ox.graphState != .none || L.host.run.graph.isEmpty)
      let L := alignTime P.time.localT (takeShared P l L)
      if same then L
      else
        let node := L.host.run.nat Item.nodeId
        let L := activate me 0 { L with host := { L.host with run := P.host.run, committed := P.host.committed } }
        if L.host.run.nat Item.nodeId = node then L else initFlock me false L
  | _, _ => L

/-- Everything that waited for this fast sample. A graph activated here has its first execution in this sample, with count 0
(03 R92). -/
def takeWaiting (me : LaneId) (peer : LaneId → LaneSt) (L : LaneSt) : LaneSt :=
  let L := handOver me (handoverWaited me peer (loadFromLead me peer L))
  let L := settleCommit me (applyCommit me (dropEnded me peer L))
  let L := armProbes (takeSto me (takeDrop me (takeDebug me L)))
  { L with ox := { L.ox with counting := true } }

/-! ## Presets of the current loops (05 R191, 06 R224) -/

/-- The IPARK that feeds the SVM of the bridge. -/
def Conf.ipark (c : Conf) : Option NodeRec :=
  match c.svm with
  | none => none
  | some v =>
    let r := c.node v
    (List.range 2).findSome? fun i =>
      let p := c.node (r.input i).node.toNat
      if r.conn i && p.t == tIpark then some p else none

/-- Preset the loop that drives an input of a node, if it is a PI or PID. -/
def presetInput (r : NodeRec) (i : Nat) (v : Word) (L : LaneSt) : LaneSt :=
  let x := r.input i
  if r.conn i && x.word == 0 && (L.host.run.node x.node.toNat).isPi then
    updNode x.node.toNat (fun s => { s with devPreset := some v }) L
  else L

/-- The d loop gets output 0, the q loop MOTION_KE × ω_e at a speed. -/
def presetCurrents (speed : Word) (L : LaneSt) : LaneSt :=
  match L.host.run.ipark with
  | none => L
  | some r => presetInput r 1 (satQ (mulQ (L.host.run.int Item.ke) speed.toInt)) (presetInput r 0 0 L)

/-- The winning loop of the ARBITER gets the output that gives TQ = 0. -/
def presetWinner (L : LaneSt) : LaneSt :=
  match L.host.run.arbiter with
  | none => L
  | some (a, r) => presetInput r ((L.nst a).cur.o2.toInt / qUnit).toNat 0 L

/-- A speed that is not valid is preset from the position difference over the last four samples. -/
def presetSpeed (L : LaneSt) : LaneSt :=
  if L.sen.speedValid then L
  else match L.sen.mHist3 with
    | [a, _, _, d] =>
      let w := roundDiv (wrapDiff a d) 3
      { L with sen := { L.sen with obsW := BitVec.ofInt 32 w, speed := speedOf L.host.run w, speedValid := true, nValid := 4,
                                   thPred := L.sen.th + BitVec.ofInt 32 w } }
    | _ => L

/-- The presets of MOTION_ENABLE; the bridge is released at the next update point. In the Hall step no current loop drives the bridge, and the
six-step integrator is preset in their place (R191, R193). -/
def enablePresets (L : LaneSt) : LaneSt :=
  if L.mot.enable != .presets then L
  else
    let L := if L.sen.source == .hall then enterSixStep true (presetWinner L)
      else presetCurrents (presetSpeed L).sen.speed (presetWinner (presetSpeed L))
    { L with mot := { L.mot with enable := .release } }

/-! ## Position -/

/-- The position source and the observer; a lane that leaves the Hall step has its current loops preset from the Hall speed (06 R224), and
one whose Hall input becomes invalid there turns its gates off. -/
def sense (me : LaneId) (t10 : Nat) (L : LaneSt) : LaneSt :=
  let hall := L.sen.source == .hall
  let speed := hallSpeed t10 L
  let L := markNoPosition me (ladder me t10 (alignVote me t10 L))
  let now := L.sen.source
  let L := if hall && (now == .own || now == .borrowed) then presetCurrents speed L else L
  let L := if now == .hall && !L.sen.hallValid && L.mot.energised then gatesOff L else L
  let L := if now == .none && L.mot.energised then gatesOff L else L
  observe t10 L

/-! ## The partitions -/

/-- The CLK_OX period in units of 2.5 ns; none at OP3, where no graph executes (04 R139). -/
def oxPeriod (L : LaneSt) : Option Nat := if L.pow.op = 1 then some 2 else if L.pow.op = 2 then some 4 else none

/-- STATUS and PUBLISH sinks of a partition: node, value, poison mark. -/
def sinkValues (c : Conf) (part : Nat) (ns : Nodes) : List (Nat × Word × Bool) :=
  ((c.sinks 3 ++ c.sinks 4).filter fun p => p.2.part.toNat == part).map fun p =>
    let s := Nodes.st ns p.1
    (p.1, s.h0, s.cur.poison.getLsbD 0)

/-- The duties of the PWM sink, and whether one is poisoned. -/
def pwmDuties (c : Conf) (ns : Nodes) : Option (Tri Word × Bool) :=
  match c.sinks 2 with
  | p :: _ =>
    let s := Nodes.st ns p.1
    some (⟨s.h0, s.h1, s.h2⟩, s.cur.poison.getLsbD 0)
  | [] => none

/-- Take a torque command before the release point; a poisoned one is reported. -/
def takeArbiter (me : LaneId) (part : Nat) (v : Option (Word × Bool)) (L : LaneSt) : LaneSt :=
  let L := takeTq v L
  match v, L.host.run.arbiter with
  | some (_, true), some (n, _) => reportPoison me 0x09 part n { L with eng := { L.eng with ucRaised := true } }
  | _, _ => L

/-- The modulation-depth factor of a passed fast execution; 1 where no SVM feeds the bridge (03 R112). DEPTH_LIMIT of the sample is that of
the factor, or of a duty clamped at its update point (05 R167, R174). -/
def takeDepth (L : LaneSt) : LaneSt :=
  let k := match L.host.run.svm with
    | some v => (L.nst v).cur.o4
    | none => qOne
  { L with ox := { L.ox with k := k }, mot := { L.mot with depth := L.mot.clamped || k.toInt < qUnit } }

/-- The fast execution: passed, its outputs are staged; failed, it is rolled back (R135, R147). -/
def fastExec (me : LaneId) (i : FastIn) (L : LaneSt) : LaneSt :=
  let c := L.host.run
  let e := envOf me 0 i.poisonedTable L
  let old := L.ox.nodes
  let done := runNodes e L.ox.order old
  let us := i.fastFault ++ badStates L
  let L := noteStates me (c.partNodes 0) i.fastFault (noteReads me i.poisonedTable (tableWords e old done L.ox.order) L)
  match checkOf c 0 L.ox.order done us (badDelays e old done L.ox.order) with
  | some f => rollback me 0 i.checkpointPoisoned f L
  | none =>
    let ns := mapPart c 0 (fun n s => { s.consume with herdSet := if (Nodes.st old n).devPreset.isSome then (Nodes.st old n).herdSet else none }) done
    let d := pwmDuties c done
    let L := takeDepth (wroteStates 0 { L with ox := { L.ox with nodes := ns, fastFresh := true, staged :=
      { duties := d.map (·.1), poisoned := (d.map (·.2)).getD false, sinks := L.ox.staged.sinks ++ sinkValues c 0 done } } })
    afterPass me e old done (takeArbiter me 0 (arbiterTq c 0 done) L)

/-- A medium or slow execution that R92 schedules: one still unfinished is an overrun (R140). -/
def schedulePart (me : LaneId) (part : Nat) (i : FastIn) (L : LaneSt) : LaneSt :=
  let L := if (partRun part L).isSome then
      recordProbes me part (rollback me part i.checkpointPoisoned { kind := .overrun, node := 0xFF } (abandonPart part L))
    else L
  startPart me part (if part = 1 then i.medFault else i.slowFault) i.poisonedTable L

/-- The Welor cycle, or the stand-in for it, that the slow partition is locked to: its number and the µs since its start (03 R92). -/
def lockedCycle (L : LaneSt) : Nat × Nat :=
  if L.time.synced then (2 * L.flock.cycles + 1, (L.time.flock - L.flock.cycleStart).toNat)
  else
    let n := max 1 (L.host.run.nat Item.cycleLen)
    (2 * (L.time.localT.toNat / n), L.time.localT.toNat % n)

/-- The cycle before a locked cycle, if an execution was due in it: before the stand-in cycle 0 lies the one that the wrap of the local time
ended, where the execution was due only if its instant came before the wrap (03 R92). -/
def cycleBefore (c : Conf) (k : Nat) : Option Nat :=
  let n := max 1 (c.nat Item.cycleLen)
  let p := 4294967295 / n
  if 2 ≤ k then some (k - 2)
  else if k = 0 && p * n + c.nat Item.slowFlockOfs < 4294967296 then some (2 * p) else none

/-- Does a medium execution that is scheduled now take a slow one with it? The answer names the cycle it serves, when locked: this one from its
offset on, and before it the last one, where that is still unserved and of the same kind, flock or stand-in. -/
def slowDueNow (L : LaneSt) : Option (Option Nat) :=
  let c := L.host.run
  let div := c.nat Item.slowDiv
  if div ≠ 0 then (if L.ox.medCount % div = 0 then some none else none)
  else
    let (k, t) := lockedCycle L
    if L.ox.cycleSeen = some k then none
    else if c.nat Item.slowFlockOfs ≤ t then some (some k)
    else match L.ox.cycleSeen, cycleBefore c k with
      | some s, some q => if s % 2 = k % 2 && s ≠ q then some (some q) else none
      | _, _ => none

/-- What R92 schedules in this sample; after a switch-over preset the medium execution starts again (R142). -/
def scheduleParts (me : LaneId) (i : FastIn) (L : LaneSt) : LaneSt :=
  if L.ox.fastCount % max 1 (L.host.run.nat Item.medDiv) = 0 then
    let slow := slowDueNow L
    let L := schedulePart me 1 i { L with ox := { L.ox with medRestart := false } }
    let L := { L with ox := { L.ox with medCount := L.ox.medCount + 1 } }
    match slow with
    | some s => schedulePart me 2 i { L with ox := { L.ox with cycleSeen := s.orElse fun _ => L.ox.cycleSeen } }
    | none => L
  else if L.ox.medRestart then schedulePart me 1 i { L with ox := { L.ox with medRestart := false } }
  else L

/-- What happens after the release point speaks in the next record released (04 R147): the flags of the record now due keep their values. -/
def deferFlags (f : LaneSt → LaneSt) (L : LaneSt) : LaneSt :=
  let M := f { L with eng := { L.eng with checkOk := true, residueOk := true, ucRaised := false } }
  { M with eng := { M.eng with checkOk := L.eng.checkOk, residueOk := L.eng.residueOk, ucRaised := L.eng.ucRaised,
                               lateCheckBad := M.eng.lateCheckBad || !M.eng.checkOk, lateResidueBad := M.eng.lateResidueBad || !M.eng.residueOk,
                               lateUc := M.eng.lateUc || M.eng.ucRaised } }

/-- An execution ends `at25` after the sample instant: what it gives counts for this record when that is before the release point
(R136), and otherwise for the next one. -/
def completePart (me : LaneId) (part : Nat) (cp : Option Nat) (before : Bool) (L : LaneSt) : LaneSt :=
  let ok := match partRun part L with
    | some r => r.fault.isNone
    | none => false
  let L := if before then endPart me part cp L else deferFlags (endPart me part cp) L
  if !ok || L.ox.graphState != .active then L
  else
    let c := L.host.run
    let tq := arbiterTq c part L.ox.nodes
    let sinks := sinkValues c part L.ox.nodes
    if before then
      takeArbiter me part tq { L with ox := { L.ox with staged := { L.ox.staged with sinks := L.ox.staged.sinks ++ sinks } } }
    else { L with ox := { L.ox with tqNext := tq.orElse fun _ => L.ox.tqNext, sinksNext := L.ox.sinksNext ++ sinks } }

/-- Work `n` cycles of a slice on a partition: the cycles left, after the execution has ended. -/
def workPart (me : LaneId) (part q start25 rel25 : Nat) (cp : Option Nat) (total n : Nat) (L : LaneSt) : Nat × LaneSt :=
  match partRun part L with
  | none => (n, L)
  | some r =>
    if r.cycles ≤ n then
      (n - r.cycles, completePart me part cp (decide (start25 + q * (total - n + r.cycles) < rel25)) L)
    else (0, setRun part (some { r with cycles := r.cycles - n }) L)

/-- The end of the fast check, the release point, and the slice between the check and the end of the sample (R135, R137, R139). -/
def runSlices (me : LaneId) (q : Nat) (cp : Option Nat) (L : LaneSt) : LaneSt :=
  let c := L.host.run
  let end25 := c.fastEnd25 q
  let rel25 := if c.nat Item.fastRelease = 0 then end25 else 40 * c.nat Item.fastRelease
  let e16 : Half := satNat 16 ((end25 + 3) / 4)
  let L := { L with ox := { L.ox with fastEnd := e16, fastEndMax := if L.ox.fastEndMax.toNat < e16.toNat then e16 else L.ox.fastEndMax,
                                      release := satNat 16 ((rel25 + 3) / 4) } }
  let s := (c.tf25 - 80 - end25) / q
  let (left, L) := workPart me 1 q end25 rel25 cp s s L
  (workPart me 2 q end25 rel25 cp s left L).2

/-- One fast sample of a debug run (04 R153): the run begins in the sample of the schedule that the next node belongs to. -/
def debugSample (me : LaneId) (i : FastIn) (L : LaneSt) : LaneSt :=
  match L.ox.dbgRun with
  | none => L
  | some (n, done, brk) =>
    let at_ := if done = 0 then (dbgSettle L).ox.dbgCount else L.ox.dbgAt + 1
    let (L, broke) := dbgSample me (i.fastFault ++ i.medFault ++ i.slowFault) brk 1024 { L with ox := { L.ox with dbgAt := at_ } }
    let k := done + 1
    if broke then endRun me true done L
    else if n ≤ k then endRun me false k L
    else { L with ox := { L.ox with dbgRun := some (n, k, brk) } }

/-- The Ox engine in this sample. -/
def runOx (me : LaneId) (i : FastIn) (L : LaneSt) : LaneSt :=
  if L.ox.graphState == .debug then (if L.eng.halted then L else debugSample me i L)
  else if L.ox.graphState != .active then L
  else match oxPeriod L with
  | none => L
  | some q => whileUp (runSlices me q i.checkpointPoisoned) (whileUp (scheduleParts me i) (fastExec me i L))

/-! ## The status mirror (09 R306) -/

/-- Does the graph have a STATUS sink for slot `n`? -/
def hasStatus (c : Conf) (n : Nat) : Bool := (c.sinks 4).any fun p => fieldOf p.2.attr 8 5 == n

/-- The value of STATUS slot `n`: 0 where the graph has no STATUS sink for it (09 R306). -/
def statusSlot (L : LaneSt) (n : Nat) : Word := if hasStatus L.host.run n then Store.read 0 L.ox.status n else 0

/-- LANE_n: the register last received, 0 once the lane has sent no record for LANE_MISS_COUNT samples. -/
def mirrorLane (me : LaneId) (L : LaneSt) (j : LaneId) : Word :=
  if j = me then laneReg0 me L
  else match L.eng.recs.get j with
    | some h => if 4 * (L.ox.inst10 - h.inst10) < (L.host.run.nat Item.missCount + 1) * L.host.run.tf25 + 800 then L.eng.laneRegs.get j else 0
    | none => 0

def updateMirror (me : LaneId) (L : LaneSt) : LaneSt :=
  let h := L.host
  let n := h.mirrorCount + 1
  let slots := (List.range 32).map (statusSlot L)
  let bad := (List.range 32).filter fun n => hasStatus h.run n && Store.read false L.ox.statusPoison n
  let new := slots ++ LaneId.all.map (mirrorLane me L) ++ [safeReg0 L, safeReg1 me L, L.safe.stateTime, L.now, n]
  let lost := L.writeHits fun m w => m == 5 && 32 ≤ w && w < 52
  let keep := fun (k : Nat) => lost.any fun h => h.control && h.word == 32 + k / 2
  let L := wrotePlace (fun m w => m == 5 && 32 ≤ w && w < 52)
    { L with host := { h with mirrorCount := n, mirrorPoison := bad,
                              mirror := if lost.isEmpty then new else new.zipIdx.map fun x => if keep x.2 then h.mirror.getD x.2 0 else x.1 } }
  bad.foldl (fun L k => if keep k then L else poisonWord 5 (32 + k / 2) L) L

/-! ## FAST_SAMPLE -/

/-- The values of the sample that the graph takes, after the vote. -/
def afterVote (me : LaneId) (t10 : Nat) (L : LaneSt) : LaneSt :=
  let L := match L.ox.tqNext with
    | some v => takeArbiter me 1 (some v) { L with ox := { L.ox with tqNext := none } }
    | none => L
  let out := L.sen.sharingOut
  let L := showAll (sense me t10 L)
  let L := holdFresh me (!out && L.sen.sharingOut) L (weighAll me L)
  let L := { L with eng := { L.eng with bridgeDown := ⟨false, false, false⟩ } }
  let th := elecOf L.obs L.sen.angle
  let L := { L with mot := { L.mot with iqRef := iqRefOf me L, iqMeas := iqOf L.mot.ia L.mot.ib th } }
  let L := countTqDev me (fun j => (L.voteRec t10 j).isSome) L
  let L := enablePresets L
  let L := if L.sen.source == .hall then sixStepSample L else { L with mot := { L.mot with dirHeld := false } }
  bringBack me L

/-- What the lead's fresh record shows of the device's state. -/
def followLead (me : LaneId) (t10 : Nat) (peer : LaneId → LaneSt) (L : LaneSt) : LaneSt :=
  match L.eng.lead with
  | some j =>
    match L.freshRec t10 j with
    | some r => if j = me then L else followMule me r (peer j).safe.muleCause L
    | none => L
  | none => L

/-- A fast sample. -/
def fastSample (me : LaneId) (i : FastIn) (peer : LaneId → LaneSt) (L : LaneSt) : LaneSt :=
  let L := beginSample me i L
  let L := i.mem.foldl (fun L e => whileUp (fun L => memEvent me L e) L) (whileUp (payReports me) L)
  let L := whileUp (updatePoint me) L
  let L := whileUp (fun L => checkDrive me (takeBridgeFaults me (takeHallErrors me L))) L
  let L := whileUp (convert me i) L
  let L := whileUp (takeWaiting me peer) L
  let L := whileUp (fun L => followLead me i.t10 peer (decideState me (settleVotes (vote me i.t10 L)))) L
  let L := whileUp (afterVote me i.t10) L
  let L := whileUp (runOx me i) L
  whileUp (fun L => updateMirror me (checkPass me (decideState me (settleVotes L)))) L

def execFastSample (l : LaneId) (i : FastIn) (s : State) : Out :=
  onLaneIf l LaneSt.samples (fastSample l i s.lane) s

/-! ## RELEASE_POINT -/

/-- A STATUS or PUBLISH sink is released (03 Table 3-5); a poisoned PUBLISH value is reported (12 Table 12-2). -/
def releaseSink (me : LaneId) (L : LaneSt) (x : Nat × Word × Bool) : LaneSt :=
  let (n, v, bad) := x
  let r := L.host.run.node n
  if r.kind = 4 then
    let slot := fieldOf r.attr 8 5
    { L with ox := { L.ox with status := Store.write 0 L.ox.status slot v, statusPoison := Store.write false L.ox.statusPoison slot bad } }
  else
    let L := { L with ox := { L.ox with publish := Store.put L.ox.publish n (v, bad) } }
    if bad then reportPoison me 0x0A r.part.toNat n { L with eng := { L.eng with ucRaised := true } } else L

/-- The tracked integrators in the order of their indices (01 R20, 03 R118). -/
def trackedNodes (c : Conf) : List (Nat × NodeRec) :=
  ((List.range 8).filterMap fun k => c.graph.find? fun p => p.2.isPi && p.2.tracked && p.2.trackIdx.toNat == k)

/-- The integrator that a record carries. -/
def nextInteg (L : LaneSt) : BitVec 3 × Word :=
  let ts := trackedNodes L.host.run
  match ts[L.ox.integIdx % max 1 ts.length]? with
  | some (n, r) => (r.trackIdx, integQ (L.nst n).integ)
  | none => (0, 0)

/-- HEALTH (01 Table 1-2). -/
def healthOf (me : LaneId) (L : LaneSt) : Half :=
  let b := fun (n : Nat) (x : Bool) => (n, b2n x)
  (packWord [b 0 L.eng.lockstepOk, b 1 (L.eng.checkOk && !L.ox.tqPoison), b 2 L.eng.residueOk, b 3 (L.sen.source == .own),
    b 4 (L.sen.source == .borrowed), b 5 (L.sen.source == .hall), b 6 L.mot.energised, b 7 (L.ownW me), b 8 L.mot.depth, b 9 L.eng.ucRaised,
    b 10 L.safe.mule, b 11 L.safe.ss1.isSome, b 12 (!L.gate.stoHigh), (13, L.eng.linksRx.mask)]).setWidth 16

/-- The sample record (01 Table 1-1), sent at an instant. -/
def sampleRecord (me : LaneId) (t10 : Nat) (L : LaneSt) : HerdRec :=
  let (idx, integ) := nextInteg L
  { lane := BitVec.ofNat 2 me.num, role := BitVec.ofNat 2 L.eng.role.code, debug := L.eng.debug, excl := L.eng.excluded,
    posOk := L.sen.source == .own, spdOk := L.sen.spdShown, seq := BitVec.ofNat 8 L.ox.fastCount, health := healthOf me L,
    ia := s312 L.mot.ia, ib := s312 L.mot.ib, pos := posOf L.obs.n L.sen.angle, speed := L.sen.speed, tq := L.eng.tqOwn,
    integ := integ, index := idx, gen := L.eng.gen, age := satNat 16 (t10 - L.ox.inst10) }

/-- What has been said in a record is said: the flags of the checks start again, with what came after the release point. -/
def clearFlags (L : LaneSt) : LaneSt :=
  { L with
           eng := { L.eng with lockstepOk := true, checkOk := !L.eng.lateCheckBad, residueOk := !L.eng.lateResidueBad, ucRaised := L.eng.lateUc,
                               lateCheckBad := false, lateResidueBad := false, lateUc := false },
           ox := { L.ox with tqPoison := false, integIdx := L.ox.integIdx + 1 } }

/-- The record is put together in its word of CPU SRAM and goes out on both links, unless that word arrives poisoned: the word is then the origin
of the poison until the next record is put together (log entry 76). -/
def sendRecord (me : LaneId) (t10 : Nat) (bad : Bool) (L : LaneSt) : LaneSt :=
  let w := Config.recordWord me
  let L := wrotePlace (fun m x => m == 2 && x == w) L
  let (L, found) := readPlace me (fun m x => m == 2 && x == w) (if bad then poisonWord 2 w L else L)
  if found then reportPoison me 0x0B 0 0 L
  else clearFlags (send (.record (sampleRecord me t10 L).bytes) L)

/-- The release point: duties, sinks, fast probes and the record. -/
def releasePoint (me : LaneId) (t10 : Nat) (bad : Bool) (L : LaneSt) : LaneSt :=
  let x := L.ox.staged
  let L := { L with ox := { L.ox with staged := { duties := none, poisoned := false } } }
  let L := match x.duties with
    | some d => { L with mot := { L.mot with staged := some d, stagedPoison := x.poisoned } }
    | none => L
  let L := x.sinks.foldl (releaseSink me) L
  let L := if L.ox.graphState == .active then recordProbes me 0 L else L
  sendRecord me t10 bad L

def execReleasePoint (l : LaneId) (t10 : Nat) (recordPoisoned : Bool) (s : State) : Out :=
  onLaneIf l LaneSt.samples (releasePoint l t10 recordPoisoned) s

/-! ## REJOIN_COMPLETE (01 R36) -/

/-- A lane that joins the vote takes the device's safe state from the lead, with the bridge of an end state; a lead that still is in the
Colt state leaves its own to the tests of 02 R67. -/
def adoptState (me : LaneId) (P L : LaneSt) : LaneSt :=
  if P.safe.state == .colt then (if L.safe.state == .colt then leaveColt me L else L)
  else
    let s := P.safe
    let L := { L with safe := { L.safe with mule := s.mule, muleCause := s.muleCause, ss1 := s.ss1, ss1Req := s.ss1Req, netHold := s.netHold,
                                            netStale := s.netStale, stopCause := s.stopCause, endState := s.endState, leadMule := s.mule,
                                            unresolved := s.unresolved, startOne := false, m2 := s.m2 } }
    let L := if s.state == .stopped then bridgeTo me s.endState L else L
    keepConds me (setSafe me s.state L)

/-- The Colt state or a restart ends with the rejoin: the lane takes its role and the device's state. -/
def rejoinComplete (me : LaneId) (peer : LaneId → LaneSt) (L : LaneSt) : LaneSt :=
  if L.eng.rejoin != some 64 then L
  else
    let L := loadFromLead me peer L
    let may := L.eng.standby.isNone && !(L.host.run.t2 && me == .l2)
    let L := reachFull me (joinHealthy me me L)
    let L := { L with eng := { L.eng with rejoin := none, role := if may then .standby else .watch, excluded := false,
                                          standby := if may then some me else L.eng.standby } }
    let L := match L.eng.lead with
      | some l => adoptState me (peer l) L
      | none => if L.safe.state == .colt then leaveColt me L else L
    let L := decideState me (postRole me 3 L)
    bringBack me { L with mot := { L.mot with offsetsDue := !L.mot.energised } }

def execRejoinComplete (l : LaneId) (s : State) : Out :=
  onLaneIf l (fun L => L.running && (L.ox.graphState == .active || L.host.run.graph.isEmpty)) (rejoinComplete l s.lane) s

end Sys2Proof.Machine
end

