-- ==== Sys2Proof/Machine/Timers.lean ====
section
/-! DEFINITION. The timers of the safe states (02 R70–R75) and of setpoints (03 R124): what each does when it runs out.
Log entries: 75 (DEDUCED). -/

namespace Sys2Proof.Machine

/-- Mule mode without a stop running (R70). -/
def LaneSt.inMule (L : LaneSt) : Bool := L.safe.mule && L.safe.state == .mule && L.safe.ss1.isNone

/-- MULE_TIMER_EXPIRY: the budget is spent, and SS1 starts with MULE_EXPIRED. -/
def muleExpired (me : LaneId) (L : LaneSt) : LaneSt :=
  if L.inMule then startSs1 me 0x20 (postMule me { L with safe := { L.safe with muleRemain := 0 } }) else L

def execMuleTimerExpiry (l : LaneId) (s : State) : Out := onLaneIf l LaneSt.running (muleExpired l) s

/-- MULE_EVENT_TICK: a second of Mule time has passed, or 10 s remain. -/
def execMuleEventTick (l : LaneId) (s : State) : Out := onLaneIf l (fun L => L.running && L.inMule) (postMule l) s

/-- MULE_EXIT: none of M1–M6 has held for 1 s (R71). -/
def muleExit (me : LaneId) (L : LaneSt) : LaneSt :=
  if L.inMule && muleConds me L = 0 then
    setSafe me (restState L) { L with safe := { L.safe with mule := false } }
  else L

def execMuleExit (l : LaneId) (s : State) : Out := onLaneIf l LaneSt.running (muleExit l) s

/-- NET_STALE_EXPIRY: the network has been lost for LANE_NET_STALE_TIME (R75). -/
def netStale (me : LaneId) (L : LaneSt) : LaneSt :=
  if L.safe.netHold then decideState me { L with safe := { L.safe with netStale := true } } else L

def execNetStaleExpiry (l : LaneId) (s : State) : Out := onLaneIf l LaneSt.running (netStale l) s

/-- Is a HOST_SP node bound to a safe signal (R122)? -/
def NodeRec.safeBound (r : NodeRec) : Bool := r.t == tSrc && r.kind == 1 && r.bindKind == 4

/-- Is a node fed from the flock: bound to a safe signal or to a remote entry? -/
def NodeRec.flockFed (r : NodeRec) : Bool := r.t == tSrc && r.kind == 1 && (r.bindKind == 3 || r.bindKind == 4)

/-- SETPOINT_STALE: the node goes stale, and event 0x54 is posted. For a node fed from the flock staleness is not counted in NET_HOLD and while
the network is lost (03 R124, 02 R75). -/
def setpointStale (me : LaneId) (node : Byte) (L : LaneSt) : LaneSt :=
  let r := L.host.run.node node.toNat
  let s := L.nst node.toNat
  if r.t == tSrc && r.kind == 1 && r.p 0 != 0 && s.spFresh && !(r.flockFed && (L.flock.netLost || L.safe.netHold)) && L.ox.graphState != .none then
    arrive me 0x54 clsUc (payBytes [node, 0, 0, 0, 0, 0, 0, 0]) (updNode node.toNat (fun s => { s with spFresh := false }) L)
  else L

def execSetpointStale (l : LaneId) (node : Byte) (s : State) : Out := onLaneIf l LaneSt.running (setpointStale l node) s

end Sys2Proof.Machine
end

