-- ==== Sys2Proof/Machine/Flock.lean ====
section
/-! DEFINITION. The Welor link (08): frames, the states of a lane on the flock, losses of a channel and of the network, and what
a lane sends in its static slots.
Log entries: 26, 47, 49, 51 (DEDUCED). -/

namespace Sys2Proof.Machine

/-! ## Channels (R264) -/

def rxChannels (me : LaneId) : List Channel := bothChannels.filter (receives me)

def FlockEng.ch (f : FlockEng) : Channel → ChanEng
  | .A => f.chA | .B => f.chB

def FlockEng.setCh (f : FlockEng) (ch : Channel) (x : ChanEng) : FlockEng :=
  match ch with
  | .A => { f with chA := x } | .B => { f with chB := x }

/-- A lane's engine of a channel. -/
def LaneSt.chan (L : LaneSt) (ch : Channel) : ChanEng := L.flock.ch ch

/-- Change it. -/
def updChan (ch : Channel) (f : ChanEng → ChanEng) (L : LaneSt) : LaneSt :=
  { L with flock := L.flock.setCh ch (f (L.flock.ch ch)) }

/-- Change the engine. -/
def updFlock (f : FlockEng → FlockEng) (L : LaneSt) : LaneSt := { L with flock := f L.flock }

def LinkState.synced (s : LinkState) : Bool := s == .sync || s == .singleSync
def ChanEng.synced (c : ChanEng) : Bool := c.state.synced

/-- The node ID of the device. -/
def Conf.nodeId (c : Conf) : Half := BitVec.ofNat 16 (c.nat Item.nodeId)

/-- The protocol engine of a lane works on a channel. -/
def LaneSt.onFlock (me : LaneId) (ch : Channel) (L : LaneSt) : Bool :=
  L.running && L.dom .flock == .on && receives me ch && (L.chan ch).state != .off

/-- The lane has a clock of the flock: synchronised, integrating after its first sync frame, or in an attempt. -/
def LaneSt.clocked (L : LaneSt) : Bool := L.time.synced || L.flock.integStep != 0 || L.flock.attemptCycle.isSome

/-- The entry of a static slot; an absent one is UNUSED (R273). -/
def Conf.schedEnt (c : Conf) (ch : Channel) (slot : Nat) : SchedEnt :=
  match (c.slots ch).find? fun p => p.1 == slot with
  | some p => p.2
  | none => {}

/-- The device's first SYNC slot on a channel (R276). -/
def Conf.syncSlot (c : Conf) (ch : Channel) : Option Nat :=
  ((c.slots ch).find? fun p => p.2.sync && c.ownSlot ch p.1).map (·.1)

/-! ## Frames (R265, R266) -/

/-- The flags and fields of a frame. -/
structure Frame where
  startup : Bool := false
  sync : Bool := false
  null : Bool := false
  claim : Bool := false
  safe : Bool := false
  slot : Nat
  cycle : Nat
  source : Half
  payload : List Byte
  deriving DecidableEq, Repr

def be24 (x : BitVec 24) : List Byte := (le24 x).reverse

/-- The bytes of a frame, with HCRC and FCRC. -/
def Frame.bytes (f : Frame) : List Byte :=
  let flags := 32768 * b2n f.startup + 16384 * b2n f.sync + 8192 * b2n f.null + 4096 * b2n f.claim + 2048 * b2n f.safe
  let head := be16 (BitVec.ofNat 16 (flags + f.slot % 2048)) ++ [BitVec.ofNat 8 (f.cycle % 64), BitVec.ofNat 8 f.payload.length]
    ++ be16 f.source
  let body := head ++ be16 (crc16 head) ++ f.payload
  body ++ be24 (crc24 body)

/-- The frame that bytes spell. -/
def Frame.ofBytes (b : List Byte) : Frame :=
  let h := rd16be b 0
  { startup := h.getLsbD 15, sync := h.getLsbD 14, null := h.getLsbD 13, claim := h.getLsbD 12, safe := h.getLsbD 11,
    slot := h.toNat % 2048, cycle := (byteAt b 2).toNat % 64, source := rd16be b 4, payload := (b.drop 8).take (byteAt b 3).toNat }

/-- HCRC and FCRC are right over the bytes of a whole frame. -/
def frameCrcOk (b : List Byte) : Bool :=
  b.length == 11 + (byteAt b 3).toNat && crc16 (b.take 6) == rd16be b 6 && crc24 (b.take (b.length - 3)) == rd24be b (b.length - 3)

/-- A sync frame carries a sync unit. -/
def Frame.isSync (f : Frame) : Bool := f.sync && 8 ≤ f.payload.length

/-- Where the payload after any sync unit begins. -/
def Frame.bodyAt (f : Frame) : Nat := if f.sync then 8 else 0

/-- The levels of TXD for a frame, one a bit time of 100 ns, while TxEN enables the transmitter (R265): the start gap and the start mark, each
byte with its start bit, most significant bit first, and its stop bit, and the end mark. -/
def codeFrame (b : List Byte) : List Bool :=
  List.replicate 6 false ++ List.replicate 2 true
    ++ (b.map fun x => [false] ++ ((List.range 8).map fun i => x.getLsbD (7 - i)) ++ [true]).flatten ++ [false]

/-- The levels of TXD for a CAS: 30 low bits (R265). -/
def codeCas : List Bool := List.replicate 30 false

/-! ## States -/

/-- The link state of a channel changes: event 0x60, and 0x61 in single-sync mode. -/
def setLink (me : LaneId) (ch : Channel) (n : LinkState) (L : LaneSt) : LaneSt :=
  if (L.chan ch).state = n then L
  else
    let L := postFlock me 0x60 clsInfo (updChan ch (fun c => { c with state := n }) L)
    if n = .singleSync then postFlock me 0x61 clsInfo L else L

def setLinks (me : LaneId) (n : LinkState) (L : LaneSt) : LaneSt := (rxChannels me).foldl (fun L ch => setLink me ch n L) L

/-- The lane stops and begins again to integrate, or to listen (R276, R279): it has no clock of the flock. -/
def dropClock (me : LaneId) (n : LinkState) (L : LaneSt) : LaneSt :=
  let f := L.flock
  let clear := fun (c : ChanEng) => { c with claiming := none, backoff := none, sent := false, txThis := false, syncQuiet := 2, bge := false }
  setLinks me n
    { L with time := { L.time with synced := false },
             flock := { f with bellSelf := false, integStep := 0, integGot := false, integBad := false, devs := [], measured := [],
                               measuredCycles := 0, noSync := 0, attemptCycle := none, collisionWait := false,
                               chA := clear f.chA, chB := clear f.chB } }

/-- R282, R284, R296: the lane stops transmitting and integrates under R279. -/
def reintegrate (me : LaneId) (L : LaneSt) : LaneSt := dropClock me .integrating L

/-! ## Losses (R289, R290) -/

/-- What another lane shows, and this lane itself. -/
def viewOf (me : LaneId) (peer : LaneId → LaneSt) (L : LaneSt) (j : LaneId) : LaneSt := if j = me then L else peer j

/-- No lane that receives a channel, synchronised or not, has accepted a frame from another node for two cycles. -/
def rxLostNow (me : LaneId) (peer : LaneId → LaneSt) (L : LaneSt) (ch : Channel) : Bool :=
  (LaneId.all.filter fun j => receives j ch && L.eng.healthy.get j).all fun j =>
    let P := viewOf me peer L j
    !P.onFlock j ch || 2 ≤ (P.chan ch).rxQuiet

/-- The transmitting lane is healthy but not synchronised, or has read back none of its frames for two cycles. -/
def txLostNow (me : LaneId) (peer : LaneId → LaneSt) (L : LaneSt) (ch : Channel) : Bool :=
  L.eng.healthy.get (txLane ch)
  && (let P := viewOf me peer L (txLane ch)
      !(P.chan ch).synced || 2 ≤ (P.chan ch).txQuiet)

/-- The C fault of a channel begins or ends. -/
def noteChannel (me : LaneId) (ch : Channel) (rx tx : Bool) (L : LaneSt) : LaneSt :=
  let old := (L.chan ch).rxLost || (L.chan ch).txLost
  let L := updChan ch (fun c => { c with rxLost := rx, txLost := tx }) L
  if !old && (rx || tx) then
    let L := addFault { kind := .channel, lane := txLane ch, part := ch.num, src := 0x50 } { L with eng := { L.eng with ucRaised := true } }
    postFlock me 0x62 clsUc (report me 0x50 ch.num 0 L)
  else if old && !(rx || tx) then
    postFlock me 0x62 clsInfo (endFaults (fun f => f.kind == .channel && f.part == ch.num) L)
  else L

/-- The network is lost, or comes back (R290, 02 R75). -/
def noteNetwork (me : LaneId) (L : LaneSt) : LaneSt :=
  let dead := fun (ch : Channel) => (L.chan ch).txLost || !L.eng.healthy.get (txLane ch)
  let lost := (L.flock.chA.rxLost && L.flock.chB.rxLost)
    || (dead .A && dead .B)
  if lost && !L.flock.netLost then
    let L := postFlock me 0x63 clsUc (updFlock (fun f => { f with netLost := true }) L)
    if L.host.run.nat Item.netRequired = 1 then decideState me { L with safe := { L.safe with netHold := true } } else L
  else if !lost && L.flock.netLost then
    { updFlock (fun f => { f with netLost := false }) L with safe := { L.safe with netHold := false, netStale := false } }
  else L

/-- Losses are recognised once the device has been synchronised on some channel. -/
def noteLosses (me : LaneId) (peer : LaneId → LaneSt) (L : LaneSt) : LaneSt :=
  if LaneId.all.any fun j => (viewOf me peer L j).flock.everSynced then
    noteNetwork me (bothChannels.foldl (fun L ch => noteChannel me ch (rxLostNow me peer L ch) (txLostNow me peer L ch) L) L)
  else L

/-! ## What a static slot carries (R266–R269) -/

/-- The sync unit. -/
def syncUnit (L : LaneSt) : List Byte :=
  be32 L.flock.cycleStart ++ [BitVec.ofNat 8 (L.host.run.nat Item.coldstartRank), L.flock.syncNodes, 0, 0]

/-- A safe-signal record (Table 8-3). -/
def safeRecord (node : Half) (sig : BitVec 20) (valid : Bool) (seq : Half) (v : Word) : List Byte :=
  let id : BitVec 24 := sig ++ (0#4)
  let body := be24 id ++ [BitVec.ofNat 8 (b2n valid)] ++ be16 seq ++ [0, 0] ++ be32 v
  body ++ be32 (crc32c (be16 node ++ body))

/-- SEQ of the cycle. -/
def seqNow (L : LaneSt) : Half := BitVec.ofNat 16 (L.flock.cycleStart.toNat / max 1 (L.host.run.nat Item.cycleLen))

/-- The value of a publication: of the PUBLISH sink of its signal, VALID clear and 0 where it is poisoned, was never released, or the
graph is not active. -/
def pubRecord (L : LaneSt) (p : PubEnt) : List Byte :=
  let c := L.host.run
  let v := match (c.sinks 3).find? fun s => fieldOf s.2.attr 8 20 == p.sig.toNat with
    | some s => Store.find L.ox.publish s.1
    | none => none
  match v with
  | some (x, false) =>
    if L.ox.graphState == .active then safeRecord c.nodeId p.sig true (seqNow L) x else safeRecord c.nodeId p.sig false (seqNow L) 0
  | _ => safeRecord c.nodeId p.sig false (seqNow L) 0

/-- The publications of a slot; 0x7FF is the slot that the device claims. -/
def Conf.pubsOf (c : Conf) (ch : Channel) (slot : Nat) : List PubEnt :=
  let own := c.ownSlot ch slot
  c.pubs.filter fun p => p.slot ch == slot || (!own && p.slot ch == 0x7FF)

/-- The array words of the mirror that are sent in the first `n` bytes of its words 0–15. -/
def mirrorPlace (n m w : Nat) : Bool := m == 5 && 32 ≤ w && w < 40 && 8 * (w - 32) < n

/-- Does the mirror hold poison among the words that are sent? -/
def mirrorBad (L : LaneSt) (n : Nat) : Bool := L.int.poisoned.any fun q => mirrorPlace n q.1 q.2

/-- The frame of a slot, and whether poison made it NULL; `spoiled` says that a word of its buffer arrives poisoned. -/
def staticFrame (ch : Channel) (slot : Nat) (startup claim spoiled : Bool) (L : LaneSt) : Frame × Bool :=
  let c := L.host.run
  let e := c.schedEnt ch slot
  let p := c.payload ch
  let unit := if e.sync then syncUnit L else []
  let rest := p - unit.length
  let f : Frame := { startup := startup, sync := e.sync, claim := claim, safe := e.safe, slot := slot, cycle := L.flock.cycle.toNat,
                     source := c.nodeId, payload := [] }
  if e.safe then
    let recs := ((c.pubsOf ch slot).take (recordsFit p e.sync)).map (pubRecord L)
    ({ f with payload := fitBytes p (unit ++ recs.flatten) }, false)
  else if spoiled || mirrorBad L rest then ({ f with null := !e.sync, payload := fitBytes p unit }, true)
  else if L.host.mirrorCount = 0 then ({ f with null := !e.sync, payload := fitBytes p unit }, false)
  else ({ f with payload := fitBytes p (unit ++ (((L.host.mirror.take 16).map be32).flatten.take rest)) }, false)

/-- Put a symbol on the lane's channel: the bytes that it carries, and the levels of TXD. -/
def putOut (ch : Channel) (b : List Byte) (bits : List Bool) (L : LaneSt) : LaneSt :=
  updChan ch (fun c => { c with sent := true }) { L with flockTx := L.flockTx ++ [(ch, b)], txd := L.txd ++ [(ch, bits)] }

/-- Put a frame on the lane's channel. -/
def transmit (ch : Channel) (b : List Byte) (L : LaneSt) : LaneSt := putOut ch b (codeFrame b) L

/-- Send the frame of a slot. The frame is built from its buffer, and where it is of the mirror from the mirror's words, which decode as they are
read (12 R373); poisoned ones are reported (12 Table 12-2). -/
def sendStatic (me : LaneId) (ch : Channel) (slot : Nat) (startup claim : Bool) (L : LaneSt) : LaneSt :=
  let safe := (L.host.run.schedEnt ch slot).safe
  let (L, bad1) := readPlace me (fun m w => m == 6 && Config.frameWord ch slot w) L
  let (L, bad2) := if safe then (L, false) else readPlace me (mirrorPlace (L.host.run.payload ch)) L
  let (f, bad) := staticFrame ch slot startup claim (bad1 || bad2) L
  let L := transmit ch f.bytes L
  if bad then reportPoison me 0x0D ch.num 0 { L with eng := { L.eng with ucRaised := true } } else L

/-! ## Start-up attempts (R276, R277) -/

/-- The CAS is a symbol without bytes. -/
def casSymbol : List Byte := []

/-- The lane begins an attempt: the CAS, and the attempt frame in its first SYNC slot of cycle 0. Lane 2, which sends nothing, takes cycle 0
from that frame. -/
def beginAttempt (me : LaneId) (L : LaneSt) : LaneSt :=
  let L := setLinks me .coldstart (updFlock (fun f => { f with collisionWait := false, attemptCycle := none }) L)
  match (rxChannels me).filter fun ch => txLane ch == me with
  | ch :: _ =>
    match L.host.run.syncSlot ch with
    | some s =>
      let t := (s - 1) * L.host.run.slotLen ch + L.host.run.nat Item.apOffset
      let L := { L with time := { L.time with flock := BitVec.ofNat 32 t - 4 },
                        flock := { L.flock with cycle := 0, cycleStart := 0, attemptCycle := some 0, bellSelf := true, rate16 := 0,
                                                start16 := 16 * ((L.time.clk10 : Int) - 100 * ((t : Int) - 4)),
                                                bellwether := L.host.run.nodeId, devs := [], measured := [], syncNodes := 0 } }
      sendStatic me ch s true false (putOut ch casSymbol codeCas L)
    | none => dropClock me .integrating L
  | [] => L

/-- The attempt collides (R277): the lane stops transmitting and waits, or gives up after FLOCK_COLDSTART_TRIES collisions. -/
def collide (me : LaneId) (L : LaneSt) : LaneSt :=
  let n := L.flock.attempts + 1
  let L := updFlock (fun f => { f with attempts := n, collisions := satInc f.collisions, attemptCycle := none, bellSelf := false }) L
  if L.host.run.nat Item.coldstartTries ≤ n then
    postFlock me 0x66 clsInfo (dropClock me .integrating (updFlock (fun f => { f with giveUp := true }) L))
  else updFlock (fun f => { f with collisionWait := true }) L

/-- The lane is in cycle 0 or 1 of an attempt. -/
def LaneSt.attempting (L : LaneSt) : Bool := match L.flock.attemptCycle with
  | some k => k ≤ 1
  | none => false

/-- A collision that another lane of the device saw is agreed over the herdline. -/
def shareCollision (me : LaneId) (peer : LaneId → LaneSt) (L : LaneSt) : LaneSt :=
  if L.attempting && me.others.any fun j => L.flock.attempts < (peer j).flock.attempts then collide me L else L

/-- The lane may transmit (R289). Lane 2 transmits nothing, and follows an attempt whatever its own state. -/
def maySend (me : LaneId) (L : LaneSt) : Bool := me == .l2 || L.eng.healthy.get me

/-- No other lane of the device that takes part on the flock has heard a CAS or a frame while it listened: one that has integrates (R276, R277). -/
def othersSilent (me : LaneId) (peer : LaneId → LaneSt) (L : LaneSt) : Bool :=
  me.others.all fun j => !L.eng.healthy.get j || (rxChannels j).all fun ch =>
    let st := ((peer j).chan ch).state
    !(peer j).onFlock j ch || st == .listen || st == .coldstart

/-- COLDSTART_LISTEN_EXPIRY: the device has listened on both channels, and the period was silent; else the lane integrates. The expiry is
the instant that the lanes have agreed on. -/
def listenExpired (me : LaneId) (peer : LaneId → LaneSt) (L : LaneSt) : LaneSt :=
  if !(rxChannels me).all (fun ch => (L.chan ch).state == .listen) || L.flock.giveUp || !maySend me L then L
  else if othersSilent me peer L then beginAttempt me L else dropClock me .integrating L

def flockRuns (me : LaneId) (L : LaneSt) : Bool := (rxChannels me).any fun ch => L.onFlock me ch

def execColdstartListenExpiry (l : LaneId) (s : State) : Out := onLaneIf l (flockRuns l) (listenExpired l s.lane) s

/-- COLLISION_WAIT_EXPIRY: where no lane of the device has heard anything, a new attempt begins without listening; else the lane integrates. -/
def collisionExpired (me : LaneId) (peer : LaneId → LaneSt) (L : LaneSt) : LaneSt :=
  let L := shareCollision me peer L
  if !L.flock.collisionWait || !maySend me L then L
  else if othersSilent me peer L then beginAttempt me L else dropClock me .integrating L

def execCollisionWaitExpiry (l : LaneId) (s : State) : Out := onLaneIf l (flockRuns l) (collisionExpired l s.lane) s

/-- CAS_RECEIVED: a node that listens, or waits after a collision, integrates; lane 2 of a device that begins its own attempt opens Gander
for it (R283). -/
def casHeard (me : LaneId) (peer : LaneId → LaneSt) (ch : Channel) (L : LaneSt) : LaneSt :=
  let st := (L.chan ch).state
  if me = .l2 && st = .coldstart && L.flock.attemptCycle.isNone && (peer (txLane ch)).flock.attemptCycle == some 0 then
    let L := updFlock (fun f => { f with collisionWait := false }) L
    updChan ch (fun c => { c with bge := !c.bgeReleased && L.eng.healthy.get (txLane ch) }) L
  else if st = .listen || L.flock.collisionWait then dropClock me .integrating L
  else L

def execCasReceived (l : LaneId) (ch : Channel) (s : State) : Out := onLaneIf l (LaneSt.onFlock l ch) (casHeard l s.lane ch) s

end Sys2Proof.Machine
end

