-- ==== Sys2Proof/Machine/FlockRx.lean ====
section
/-! DEFINITION. Receiving on the Welor link (08 R270, R274, R277–R279, R286–R288): static frames, safe-signal records, integration, and
spare-slot claims.
Log entries: 46, 48, 49 (DEDUCED); 8 (DESIGN CHOICE). -/

namespace Sys2Proof.Machine

/-! ## Safe-signal records (R268, R270) -/

/-- The 16-byte records of a payload. -/
def recordsOf (b : List Byte) : List (List Byte) := (List.range (b.length / 16)).map fun i => (b.drop (16 * i)).take 16

/-- The value goes to every HOST_SP node bound to the signal; not during SS1 (03 R125) and not while the network is lost (03 R124). -/
def deliverSafe (sig : Nat) (v : Word) (L : LaneSt) : LaneSt :=
  if L.safe.ss1.isSome || L.flock.netLost then L
  else
    (L.host.run.graph.filter fun p => p.2.safeBound && p.2.bindNum == sig).foldl
      (fun L p => updNode p.1 (fun s => { s with spNew := some v }) L) L

/-- A record of a signal in the subscription table: checked, told from a duplicate by SEQ, delivered and forwarded. -/
def takeSafe (b : List Byte) (L : LaneSt) : LaneSt :=
  let sig := sigAt b 0
  if b.length ≠ 16 || sig = 0 then L
  else match L.host.run.subs.find? fun e => e.sig == sig with
  | none => L
  | some e =>
    if crc32c (be16 e.node ++ b.take 12) ≠ rd32be b 12 then updFlock (fun f => { f with safeBad := satInc f.safeBad }) L
    else
      let seq := rd16be b 4
      if Store.find L.flock.seqs sig.toNat = some seq then L
      else
        let L := updFlock (fun f => { f with seqs := Store.put f.seqs sig.toNat seq }) L
        let L := if (byteAt b 3).getLsbD 0 then deliverSafe sig.toNat (rd32be b 8) L else L
        send (.safeRecord b) L

/-- FORWARDED_SAFE_RECORD: the rule applies to it unchanged. -/
def execForwardedSafeRecord (l : LaneId) (rec : List Byte) (s : State) : Out := onLaneIf l LaneSt.running (takeSafe rec) s

/-! ## Claims (R286–R288) -/

def ChanEng.claimOf (c : ChanEng) (slot : Nat) : Option ClaimEnt := c.claims.find? fun e => e.slot == slot

/-- Put an entry into the claim table, in slot order. -/
def putClaim (e : ClaimEnt) : List ClaimEnt → List ClaimEnt
  | [] => [e]
  | a :: r => if e.slot < a.slot then e :: a :: r else if e.slot = a.slot then e :: r else a :: putClaim e r

/-- May a frame from a node pass in a SPARE slot: with CLAIM unless another node holds the slot, without it from the holder? -/
def claimOk (c : ChanEng) (f : Frame) : Bool :=
  match c.claimOf f.slot with
  | some e => if e.holder then e.node == f.source else f.claim
  | none => f.claim

/-- An accepted frame in a SPARE slot: a claimant, and the holder after CLAIM frames in two consecutive cycles. -/
def noteClaim (ch : Channel) (f : Frame) (L : LaneSt) : LaneSt :=
  let now := L.flock.cycles
  updChan ch (fun c =>
    let old := c.claimOf f.slot
    let mine := old.filter fun e => e.node == f.source
    let holder := match mine with
      | some e => e.holder || (f.claim && e.lastClaim.map (· + 1) == some now)
      | none => false
    let last := if f.claim then some now else mine.bind (·.lastClaim)
    { c with frames := insertNat f.slot c.frames, claims := putClaim ⟨f.slot, f.source, holder, last, 0⟩ c.claims }) L

/-- A claim frame that read back invalid, or another node's frame in the slot: the claim stops, and the claimant waits. The wait is counted
in the starts of cycles, the one in progress not counted. -/
def claimCollides (ch : Channel) (L : LaneSt) : LaneSt :=
  let c := L.host.run
  let b := 1 + (Config.claimDraw (BitVec.ofNat 32 c.nodeId.toNat) L.time.flock L.flock.draws).val
  updChan ch (fun x => { x with claiming := none, backoff := some (b + 1) })
    (updFlock (fun f => { f with collisions := satInc f.collisions, draws := f.draws + 1 }) L)

/-- The slot that the lane is claiming. -/
def ChanEng.claimSlot (c : ChanEng) : Option Nat := c.claiming.map (·.1)

/-- The lowest free SPARE slot: without a valid frame in the last two cycles, a holder or a claimant. -/
def freeSpare (c : Conf) (ch : Channel) (x : ChanEng) : Option Nat :=
  ((c.slots ch).find? fun p => p.2.spare && !(x.framesPrev.contains p.1) && !(x.framesOld.contains p.1) && (x.claimOf p.1).isNone).map (·.1)

/-- The transmitting lane chooses a slot, and announces its claim over the herdline (R283). -/
def chooseSlot (me : LaneId) (ch : Channel) (L : LaneSt) : LaneSt :=
  let x := L.chan ch
  if txLane ch != me || !x.synced || !(L.host.run.item Item.flockClaim).getLsbD ch.num || x.held != 0 || x.claiming.isSome || x.backoff.isSome
  then L
  else match freeSpare L.host.run ch x with
  | some s => send (.claim ch s) (updChan ch (fun c => { c with claiming := some (s, 0, false) }) L)
  | none => L

/-- CLAIM_BACKOFF_EXPIRY: after b cycles the claimant chooses again. -/
def claimAgain (me : LaneId) (ch : Channel) (L : LaneSt) : LaneSt :=
  if (L.chan ch).backoff = some 0 then chooseSlot me ch (updChan ch (fun c => { c with backoff := none }) L) else L

def execClaimBackoffExpiry (l : LaneId) (ch : Channel) (s : State) : Out := onLaneIf l (LaneSt.onFlock l ch) (claimAgain l ch) s

/-- The cycles after which a silent holder is removed. -/
def silentCycles : Nat := 16

/-- CLAIM_HOLDER_SILENT. -/
def holderSilent (ch : Channel) (slot : Nat) (L : LaneSt) : LaneSt :=
  match (L.chan ch).claimOf slot with
  | some e =>
    if silentCycles ≤ e.silent then
      updChan ch (fun c => { c with claims := c.claims.filter (fun x => x.slot != slot),
                                    held := if c.held.toNat = slot then 0 else c.held }) L
    else L
  | none => L

def execClaimHolderSilent (l : LaneId) (ch : Channel) (slot : Nat) (s : State) : Out :=
  onLaneIf l (LaneSt.onFlock l ch) (holderSilent ch slot) s

/-! ## Sync frames (R279, R280) -/

/-- The start of a frame against the action point, in 10 ns: the falling edge less FLOCK_DELAY_COMP (R274). -/
def devOf (c : Conf) (x : RxFrame) : Int := x.dev - c.nat Item.delayComp

/-- How far the cycle is, in 10 ns, when a frame of a slot has ended whose measured start lies on the action point: its falling edge was
FLOCK_DELAY_COMP later, and F(P) before the end. -/
def intoCycle (c : Conf) (ch : Channel) (f : Frame) : Nat :=
  100 * ((f.slot - 1) * c.slotLen ch + c.nat Item.apOffset) + 10 * frameTenths f.payload.length + c.nat Item.delayComp

/-- Set the clock of the flock: the cycle that started at flock time `t0` is `into` × 10 ns old. -/
def setClock (t0 : Word) (into : Nat) (L : LaneSt) : LaneSt :=
  { L with time := { L.time with flock := t0 + BitVec.ofNat 32 (into / 100) },
           flock := { L.flock with cycleStart := t0, start16 := 16 * ((L.time.clk10 : Int) - into) } }

/-- Step 1 of R279: the clock is set from the first sync frame of another node. The command comes as the frame ends, F(P) after its start. -/
def startInteg (me : LaneId) (ch : Channel) (f : Frame) (L : LaneSt) : LaneSt :=
  let L := setClock (rd32be f.payload 0) (intoCycle L.host.run ch f) (dropClock me .integrating L)
  { L with flock := { L.flock with cycle := BitVec.ofNat 6 f.cycle, integStep := 1, measured := [f.source], rate16 := 0,
                                   bellwether := if f.startup then f.source else 0 } }

/-- Take the deviation of a sync frame: one a cycle from each node and channel. -/
def measure (ch : Channel) (f : Frame) (dev : Int) (L : LaneSt) : LaneSt :=
  let x := L.flock
  let x := { x with measured := if x.measured.contains f.source then x.measured else x.measured ++ [f.source],
                    bellwether := if f.startup then f.source else x.bellwether, integGot := x.integGot || x.integStep == 2 }
  let x := if x.devs.any fun d => d.1 == f.source && d.2.1 == ch then x else { x with devs := x.devs ++ [(f.source, ch, dev)] }
  { L with flock := x }

/-! ## STATIC_FRAME_RECEIVED (R274) -/

/-- Does the source of a frame belong into its slot? -/
def sourceOk (c : Conf) (ch : Channel) (x : ChanEng) (f : Frame) : Bool :=
  let e := c.schedEnt ch f.slot
  if e.owned then e.node == f.source && !f.claim else e.spare && claimOk x f

def countBoundary (L : LaneSt) : LaneSt := updFlock (fun f => { f with slotBoundary := satInc f.slotBoundary }) L
def countCrc (L : LaneSt) : LaneSt := updFlock (fun f => { f with crcErr := satInc f.crcErr }) L
def countMismatch (L : LaneSt) : LaneSt := updFlock (fun f => { f with mismatch := satInc f.mismatch }) L

/-- What an accepted static frame brings, which is stored in its buffer (12 Table 12-1): a lane that integrates has accepted it too (R279, R289), and takes no safe signal from it yet. -/
def acceptStatic (me : LaneId) (ch : Channel) (f : Frame) (dev : Int) (peer : LaneId → LaneSt) (L : LaneSt) : LaneSt :=
  let c := L.host.run
  let own := f.source == c.nodeId
  let L := wrotePlace (fun m w => m == 6 && Config.frameWord ch f.slot w) L
  let L := if f.isSync then updChan ch (fun x => { x with syncThis := true }) L else L
  let L := if own then updChan ch (fun x => { x with txThis := true, txQuiet := 0 }) L else L
  let L := if f.isSync && !own then measure ch f dev L else L
  let L := if (c.schedEnt ch f.slot).spare then noteClaim ch f L else L
  let L := if own then L else updChan ch (fun x => { x with rxThis := true, rxQuiet := 0 }) L
  let L := if !L.time.synced || own || f.null || !f.safe then L else (recordsOf (f.payload.drop f.bodyAt)).foldl (fun L r => takeSafe r L) L
  if (L.chan ch).rxLost || (L.chan ch).txLost then noteLosses me peer L else L

/-- What came in the slot of the own attempt frame is not that frame, valid: the attempt collides (R277). -/
def attemptBad (me : LaneId) (ch : Channel) (slot : Nat) (L : LaneSt) : LaneSt :=
  if txLane ch == me && L.flock.attemptCycle == some 0 && L.host.run.syncSlot ch == some slot then collide me L else L

/-- A frame that could not be read, in a slot of this device: its own attempt frame collides (R277), its own claim collides (R287). -/
def readBackBad (me : LaneId) (ch : Channel) (slot : Nat) (L : LaneSt) : LaneSt :=
  attemptBad me ch slot (if (L.chan ch).claimSlot == some slot then claimCollides ch L else L)

/-- A valid frame in a SPARE slot keeps it from being free, whoever sent it (R286). -/
def noteFrame (ch : Channel) (slot : Nat) (L : LaneSt) : LaneSt :=
  if (L.host.run.schedEnt ch slot).spare then updChan ch (fun c => { c with frames := insertNat slot c.frames }) L else L

/-- A frame on a lane that has a clock, tested in the order of R274. -/
def testStatic (me : LaneId) (ch : Channel) (x : RxFrame) (peer : LaneId → LaneSt) (L : LaneSt) : LaneSt :=
  let c := L.host.run
  let f := Frame.ofBytes x.bytes
  let dev := devOf c x
  if absI dev > c.nat Item.precision then
    let bad := frameCrcOk x.bytes && f.isSync && L.flock.measured.contains f.source && L.flock.integStep != 0
    let L := countBoundary (updFlock (fun y => { y with integBad := y.integBad || bad }) L)
    if frameCrcOk x.bytes then attemptBad me ch x.slot L else readBackBad me ch x.slot L
  else if !frameCrcOk x.bytes then readBackBad me ch x.slot (countCrc L)
  else
    let L := if f.source != c.nodeId && (L.chan ch).claimSlot == some f.slot then claimCollides ch L else L
    if f.slot != x.slot || f.cycle != L.flock.cycle.toNat || f.payload.length != c.payload ch || !x.endsInSlot
      || !sourceOk c ch (L.chan ch) f then attemptBad me ch x.slot (countMismatch (noteFrame ch x.slot L))
    else acceptStatic me ch f dev peer L

/-- The attempt frame of the own device: lane 2 times cycle 0 from it (R283). -/
def takeOwnStart (ch : Channel) (f : Frame) (L : LaneSt) : LaneSt :=
  let L := setClock (rd32be f.payload 0) (intoCycle L.host.run ch f) L
  { L with flock := { L.flock with cycle := BitVec.ofNat 6 f.cycle, attemptCycle := some 0, bellSelf := true, rate16 := 0,
                                   bellwether := f.source, devs := [], measured := [], syncNodes := 0 } }

/-- A static frame on a lane of any state. -/
def staticRx (me : LaneId) (ch : Channel) (x : RxFrame) (peer : LaneId → LaneSt) (L : LaneSt) : LaneSt :=
  let c := L.host.run
  let f := Frame.ofBytes x.bytes
  let own := f.source == c.nodeId
  let valid := x.decodable && frameCrcOk x.bytes
  if !x.decodable then readBackBad me ch x.slot (countCrc L)
  else if valid && f.startup && !own && L.attempting then collide me L
  else if L.clocked then testStatic me ch x peer L
  else if !valid then countCrc L
  else if own then
    if me = .l2 && (L.chan ch).state = .coldstart && !L.flock.collisionWait && f.startup && f.isSync && f.cycle = 0 then takeOwnStart ch f L else L
  else if f.isSync then startInteg me ch f L
  else if (L.chan ch).state = .listen || L.flock.collisionWait then dropClock me .integrating L
  else L

def execStaticFrameReceived (l : LaneId) (ch : Channel) (f : RxFrame) (s : State) : Out :=
  onLaneIf l (LaneSt.onFlock l ch) (staticRx l ch f s.lane) s

/-! ## STATIC_SLOT_ACTION_POINT (R267) -/

/-- What the lane does in a static slot at its action point: it sends in an own slot, with STARTUP in the SYNC slot of cycles 1–3 of an
attempt, and in a slot it claims or holds. A lane that is not healthy, or not synchronised, transmits nothing (R289). -/
def slotPoint (me : LaneId) (ch : Channel) (slot : Nat) (peer : LaneId → LaneSt) (L : LaneSt) : LaneSt :=
  let L := shareCollision me peer L
  let c := L.host.run
  let x := L.chan ch
  if txLane ch != me || !L.eng.healthy.get me then L
  else match L.flock.attemptCycle with
  | some k => if 1 ≤ k && c.syncSlot ch == some slot then sendStatic me ch slot true false L else L
  | none =>
    if !x.synced then L
    else if c.ownSlot ch slot then sendStatic me ch slot false false L
    else if (c.schedEnt ch slot).spare && x.claimSlot == some slot then
      sendStatic me ch slot false true (updChan ch (fun y => { y with claiming := y.claiming.map fun k => (k.1, k.2.1, true) }) L)
    else if (c.schedEnt ch slot).spare && slot != 0 && x.held.toNat == slot then sendStatic me ch slot false false L
    else L

def execStaticSlotActionPoint (l : LaneId) (ch : Channel) (slot : Nat) (s : State) : Out :=
  onLaneIf l (LaneSt.onFlock l ch) (slotPoint l ch slot s.lane) s

end Sys2Proof.Machine
end

