-- ==== Sys2Proof/Machine/FlockCycle.lean ====
section
/-! DEFINITION. The start of a Welor cycle (08 R271): the checks of the cycle that ends (R278–R282, R285, R289), the progress of claims (R286),
and Gander (R283–R285).
Log entries: 46, 47, 48 (DEDUCED). -/

namespace Sys2Proof.Machine

/-! ## The clock (R280–R282) -/

/-- The deviations of a cycle, one a node, in 2.5 ns: the mean of A and B where both are there. -/
def nodeDevs (ds : List (Half × Channel × Int)) : List Int :=
  ((ds.map (·.1)).eraseDups).map fun n =>
    match (ds.filter fun d => d.1 == n).map (·.2.2) with
    | [a] => 4 * a
    | a :: b :: _ => 2 * (a + b)
    | [] => 0

/-- Insert into an ascending list. -/
def insertInt (x : Int) : List Int → List Int
  | [] => [x]
  | a :: r => if x ≤ a then x :: a :: r else a :: insertInt x r

def sortInts (l : List Int) : List Int := l.foldr insertInt []

/-- Twice the fault-tolerant midpoint of deviations. -/
def midpoint2 (ds : List Int) : Int :=
  let s := sortInts ds
  let n := if s.length ≤ 2 then 0 else if s.length ≤ 6 then 1 else 2
  let k := (s.drop n).take (s.length - 2 * n)
  k.headD 0 + k.getLastD 0

/-- A lane becomes synchronised at the start of a cycle: its stamps take flock time, and a claim that its table still shows as held goes
on (R288). -/
def becomeSynced (me : LaneId) (n : LinkState) (L : LaneSt) : LaneSt :=
  let c := L.host.run
  let L := { L with time := { L.time with synced := true, flock := L.flock.cycleStart },
                    flock := { L.flock with everSynced := true, integStep := 0, noSync := 0, attemptCycle := none } }
  let L := (rxChannels me).foldl (fun L ch => updChan ch (fun x =>
    { x with syncQuiet := 0, unsynced := 0, bgeReleased := x.bgeReleased && L.barsBge, bgeMiss := 0, txQuiet := 0, rxQuiet := 0,
             held := if x.claims.any fun e => e.holder && e.node == c.nodeId && e.slot == x.held.toNat then x.held else 0 }) L) L
  setLinks me n L

/-- The correction of a synchronised lane (R281): M lengthens the NIT of the cycle that ends, and c, in 1/16 of 10 ns a cycle, the next. -/
def correct (m2 : Int) (L : LaneSt) : LaneSt :=
  let c := L.host.run
  let lim : Int := (16 * (c.nat Item.cycleLen * c.nat Item.rateLimit) / 10000 : Nat)
  let r := clampI (L.flock.rate16 + m2) (-lim) lim
  updFlock (fun f => { f with offset := BitVec.ofInt 16 (roundDiv m2 8), rate16 := r, rate := BitVec.ofInt 16 (roundDiv r 16),
                              start16 := f.start16 + 2 * m2 }) L

/-- The checks of a synchronised lane at the end of a cycle (R278, R280–R282). -/
def checkSync (me : LaneId) (L : LaneSt) : LaneSt :=
  let ds := nodeDevs L.flock.devs
  let k := ds.length
  let single := (rxChannels me).any fun ch => (L.chan ch).state == .singleSync
  let L := updFlock (fun f => { f with syncNodes := satNat 8 k, measuredCycles := if k = 0 then 0 else f.measuredCycles + 1,
                                       noSync := if k = 0 then f.noSync + 1 else 0 }) L
  if k = 0 then (if !single && 2 ≤ L.flock.noSync then reintegrate me L else L)
  else
    let m2 := midpoint2 ds
    let L := correct m2 L
    if absI m2 > 8 * (L.host.run.nat Item.precision : Int) then
      reintegrate me (report me 0x51 (if me = .l1 then 1 else 0) 0 { L with eng := { L.eng with ucRaised := true } })
    else if single && 2 ≤ L.flock.measuredCycles then setLinks me .sync L
    else L

/-- A cycle of an attempt has ended (R278): from cycle 4 the node is the bellwether, alone or not. -/
def checkAttempt (me : LaneId) (k : Nat) (L : LaneSt) : LaneSt :=
  let other := L.flock.integGot || (2 ≤ k && !L.flock.devs.isEmpty)
  let L := updFlock (fun f => { f with attemptCycle := some (k + 1), integGot := other, syncNodes := satNat 8 (nodeDevs f.devs).length }) L
  if k + 1 < 4 then L
  else
    let L := updFlock (fun f => { f with integGot := false, measuredCycles := 0, attempts := 0 }) L
    becomeSynced me (if other then .sync else .singleSync) L

/-- A cycle of the integration has ended (R279). A cold-start node whose integration failed listens again (R276). -/
def checkInteg (me : LaneId) (L : LaneSt) : LaneSt :=
  if L.flock.integStep = 1 then updFlock (fun f => { f with integStep := 2 }) L
  else if L.flock.integGot && !L.flock.integBad then
    becomeSynced me .sync (updFlock (fun f => { f with integGot := false, syncNodes := satNat 8 (nodeDevs f.devs).length }) L)
  else dropClock me (if L.host.run.nat Item.coldstartRank ≠ 0 && !L.flock.giveUp then .listen else .integrating) L

/-! ## Channels at the end of a cycle -/

/-- The claim of a channel: held after two frames that read back, given up after one that did not. -/
def checkClaim (me : LaneId) (ch : Channel) (L : LaneSt) : LaneSt :=
  let x := L.chan ch
  match x.claiming with
  | some (s, n, true) =>
    if x.frames.contains s && (x.claimOf s).any fun e => e.node == L.host.run.nodeId then
      if n = 1 then
        postFlock me 0x64 clsInfo (updChan ch (fun c => { c with claiming := none, held := BitVec.ofNat 16 s }) L)
      else updChan ch (fun c => { c with claiming := some (s, 1, false) }) L
    else claimCollides ch L
  | _ => L

/-- The counts of a channel over a cycle. -/
def countCycle (ch : Channel) (L : LaneSt) : LaneSt :=
  updChan ch (fun c =>
    let claims := c.claims.map fun e => { e with silent := if c.frames.contains e.slot then 0 else min silentCycles (e.silent + 1) }
    { c with rxQuiet := if c.rxThis then 0 else c.rxQuiet + 1, txQuiet := if c.txThis then 0 else if c.sent then c.txQuiet + 1 else c.txQuiet,
             syncQuiet := if c.syncThis then 0 else c.syncQuiet + 1, rxThis := false, txThis := false, sent := false, syncThis := false,
             claims := if L.clocked then claims else c.claims, framesOld := c.framesPrev, framesPrev := c.frames, frames := [],
             backoff := c.backoff.map (· - 1), slotCounter := 0, mini := 0, dynFrameEnd := none }) L

/-- Lane 2 is synchronised on a channel while its clock is and sync frames come on it; a lane that transmits follows its clock. When lane 2
alone has lost a channel for two cycles it releases BGE there (R285). -/
def followChannel (me : LaneId) (peer : LaneId → LaneSt) (ch : Channel) (L : LaneSt) : LaneSt :=
  if me != .l2 then L
  else
    let x := L.chan ch
    let L := if L.time.synced then
        let other := if ch = .A then (L.chan .B).state else (L.chan .A).state
        if x.syncQuiet < 2 && !x.synced then setLink me ch (if other == .singleSync then .singleSync else .sync) L
        else if 2 ≤ x.syncQuiet && x.synced then setLink me ch .integrating (updChan ch (fun c => { c with bge := false }) L) else L
      else L
    let x := L.chan ch
    if x.synced then updChan ch (fun c => { c with unsynced := 0, bgeReleased := c.bgeReleased && L.barsBge }) L
    else if ((peer (txLane ch)).chan ch).synced then
      let n := x.unsynced + 1
      let L := updChan ch (fun c => { c with unsynced := n }) L
      if n = 2 && !x.bgeReleased then
        report me 0x54 ch.num 0 (updChan ch (fun c => { c with bge := false, bgeReleased := true }) { L with eng := { L.eng with ucRaised := true } })
      else L
    else updChan ch (fun c => { c with unsynced := 0 }) L

/-! ## FLOCK_CYCLE_START -/

/-- The next cycle of the lane's clock: T_(k+1) = T_k + L (R271). The cycle that ends has lasted L and its rate correction; the correction of
the NIT follows with the check of the cycle (R281). -/
def nextCycle (L : LaneSt) : LaneSt :=
  let L := updFlock (fun f => { f with cycles := f.cycles + 1 }) L
  if L.clocked then
    let t := L.flock.cycleStart + BitVec.ofNat 32 (L.host.run.nat Item.cycleLen)
    { L with time := { L.time with flock := t }, flock := { L.flock with cycle := L.flock.cycle + 1, cycleStart := t,
                                                                         start16 := L.flock.start16 + 1600 * L.host.run.nat Item.cycleLen + L.flock.rate16 } }
  else L

/-- A cycle starts. On a lane without a clock of the flock the cycle is a nominal one. -/
def cycleStarts (me : LaneId) (peer : LaneId → LaneSt) (L : LaneSt) : LaneSt :=
  let L := nextCycle (shareCollision me peer L)
  let L := if L.time.synced then checkSync me L
    else match L.flock.attemptCycle with
      | some k => checkAttempt me k L
      | none => if L.flock.integStep = 0 then L else checkInteg me L
  let L := (rxChannels me).foldl (fun L ch => followChannel me peer ch (countCycle ch (checkClaim me ch L))) L
  let L := updFlock (fun f => { f with devs := [], seenMsgs := f.seenMsgs.filter fun m => f.cycles < m.2.2 + 16 }) L
  let L := (rxChannels me).foldl (fun L ch => chooseSlot me ch L) L
  let L := noteLosses me peer L
  if L.time.synced then cycleTrigger me L.flock.cycle.toNat L else L

def execFlockCycleStart (l : LaneId) (s : State) : Out := onLaneIf l (flockRuns l) (cycleStarts l s.lane) s

/-! ## Gander (R283–R285) -/

/-- A claim that the transmitting lane announces: Gander opens for the slot. -/
def execClaimAnnounce (l : LaneId) (ch : Channel) (slot : Nat) (s : State) : Out :=
  onLaneIf l (fun L => L.running && l == .l2) (updChan ch (fun c => { c with announcedSlots := [slot] })) s

/-- The static slots of a channel that are the device's own, or a SPARE slot whose claim has been announced (R283). -/
def Conf.openSlot (c : Conf) (ch : Channel) (x : ChanEng) (slot : Nat) : Bool :=
  c.ownSlot ch slot || ((c.schedEnt ch slot).spare && x.announcedSlots.contains slot)

/-- The window of an own static slot, in 0.1 µs of the cycle. -/
def slotWindow (c : Conf) (ch : Channel) (slot : Nat) (t : Int) : Bool :=
  10 * ((slot - 1 : Nat) * c.slotLen ch : Int) - 20 ≤ t && t < 10 * (slot * c.slotLen ch : Int) + 20

/-- The minislot at whose start the own dynamic slot comes: the one where the counter has reached it, or the next one if the channel stays idle.
The latest-start test is that of a frame without payload, as lane 2 does not know the length. -/
def Conf.dynMinislot (c : Conf) (ch : Channel) (x : ChanEng) : Option Nat :=
  let d := c.nat Item.dynSlot
  if d = 0 then none
  else if x.mini != 0 && x.slotCounter = d then some x.counterMini
  else if x.mini = 0 && c.statics ch + 1 = d then some 1
  else if x.mini != 0 && x.slotCounter + 1 = d then some (x.mini + 1)
  else none

/-- The window of the own dynamic slot. -/
def dynWindow (c : Conf) (ch : Channel) (x : ChanEng) (t : Int) : Bool :=
  match c.dynMinislot ch x with
  | some j =>
    let s : Int := 10 * (c.statics ch * c.slotLen ch + (j - 1) * c.nat Item.minislotLen : Nat)
    fitsSegment c ch j 0 && s - 20 ≤ t
      && t < s + 10 * c.nat Item.minislotAp + frameTenths (c.nat Item.dynPayload) + (c.nat Item.precision + 9) / 10 + 20
  | none => false

/-- Does an own window stand open by lane 2's flock time (R283)? In the symbol window none does (R271). -/
def ownWindow (ch : Channel) (L : LaneSt) : Bool :=
  let c := L.host.run
  let x := L.chan ch
  let t : Int := 10 * (L.time.flock - L.flock.cycleStart).toNat
  let before := t - 10 * c.nat Item.cycleLen
  let sym : Int := 10 * c.laterEnd
  let slots := (c.slots ch).map (·.1)
  !(sym ≤ t && t < sym + 10 * c.nat Item.symbolLen)
    && (slots.any (fun s => c.openSlot ch x s && (slotWindow c ch s t || slotWindow c ch s before)) || dynWindow c ch x t)

/-- May BGE go high: lane 2 is synchronised on the channel, the transmitting lane is healthy, and an own window stands open? -/
def mayOpen (ch : Channel) (L : LaneSt) : Bool :=
  ((L.chan ch).synced || L.flock.attemptCycle.isSome) && L.eng.healthy.get (txLane ch) && ownWindow ch L

/-- A frame was cut at the end of an own window. -/
def cutFrame (me : LaneId) (ch : Channel) (L : LaneSt) : LaneSt :=
  let L := updChan ch (fun c => { c with cuts := satInc c.cuts }) { L with eng := { L.eng with ucRaised := true } }
  send (.cut ch) (postFlock me 0x65 clsUc (report me 0x52 ch.num 0 L))

/-- A window edge of lane 2: it drives BGE, and reads the ball back. -/
def windowEdge (me : LaneId) (ch : Channel) (opens active readback : Bool) (L : LaneSt) : LaneSt :=
  let x := L.chan ch
  if me != .l2 || x.bgeReleased then L
  else
    let was := x.bge
    let drive := opens && mayOpen ch L
    let L := updChan ch (fun c => { c with bge := drive }) L
    let L := if was && !drive && active then cutFrame me ch L else L
    if readback = drive then updChan ch (fun c => { c with bgeMiss := 0 }) L
    else
      let L := updChan ch (fun c => { c with bgeMiss := c.bgeMiss + 1 }) L
      if 2 ≤ (L.chan ch).bgeMiss then goFatal me 0x53 ch.num 0 { L with eng := { L.eng with ucRaised := true } } else L

def execGanderWindowEdge (l : LaneId) (ch : Channel) (opens active readback : Bool) (s : State) : Out :=
  onLaneIf l (LaneSt.onFlock l ch) (windowEdge l ch opens active readback) s

/-- GANDER_CUT_MESSAGE: the transmitting lane stops and re-integrates. -/
def execGanderCutMessage (l : LaneId) (ch : Channel) (s : State) : Out :=
  onLaneIf l (LaneSt.onFlock l ch) (fun L => if txLane ch = l then noteLosses l s.lane (reintegrate l L) else L) s

/-! ## Opcodes (R296, 11 R358) -/

/-- FLOCK_STATUS: FLOCK registers 0x000–0x01C. -/
def opFlockStatus (_ : LaneId) (_ : Sender) (blk : List Byte) (L : LaneSt) : LaneSt × Option LaneRes :=
  let word := fun o => match flockRegs L o with
    | some (v, _) => v
    | none => 0
  checked [(noBlock blk, stBadParam)] L (L, some (replyRes (((List.range 8).map fun i => le32 (word (4 * i))).flatten)))

/-- An entry of the claim table as FLOCK_CLAIM_READ returns it. -/
def claimBytes (x : ChanEng) (slot : Nat) : List Byte :=
  match x.claimOf slot with
  | some e => le16 (BitVec.ofNat 16 slot) ++ le16 e.node ++ [if e.holder then 2 else 1, BitVec.ofNat 8 e.silent, 0, 0]
  | none => le16 (BitVec.ofNat 16 slot) ++ zeros 6

/-- FLOCK_CLAIM_READ. -/
def opClaimRead (_ : LaneId) (_ : Sender) (blk : List Byte) (L : LaneSt) : LaneSt × Option LaneRes :=
  let ch := if byteAt blk 0 = 0 then Channel.A else .B
  let start := (rd16 blk 2).toNat
  let slots := (((L.host.run.slots ch).filter fun p => p.2.spare && start ≤ p.1).map (·.1)).take 32
  checked [(blk.length == 4 && (byteAt blk 0).toNat < 2 && zerosAt blk 1 1 && 1 ≤ start && start ≤ 1023, stBadParam)] L
    (L, some (replyRes ((slots.map (claimBytes (L.chan ch))).flatten)))

/-- FLOCK_REJOIN: refused while the other channel's transmission or reception is lost. -/
def opFlockRejoin (me : LaneId) (_ : Sender) (blk : List Byte) (L : LaneSt) : LaneSt × Option LaneRes :=
  let ch := if byteAt blk 0 = 0 then Channel.A else .B
  let other := L.chan (if ch = .A then .B else .A)
  checked [(blk.length == 4 && (byteAt blk 0).toNat < 2 && zerosAt blk 1 3, stBadParam),
    (minimalOk 0x0620 L && !other.txLost && !other.rxLost, stNotInState)] L
    ((if txLane ch = me && L.onFlock me ch then reintegrate me L else L), some okRes)

def execFlockStatus (c : Ctx) (blk : List Byte) (s : State) : Out := runOp 0x0610 c blk (opFlockStatus c.lane c.sender blk) s
def execFlockClaimRead (c : Ctx) (blk : List Byte) (s : State) : Out := runOp 0x0611 c blk (opClaimRead c.lane c.sender blk) s
def execFlockRejoin (c : Ctx) (blk : List Byte) (s : State) : Out := runOp 0x0620 c blk (opFlockRejoin c.lane c.sender blk) s

end Sys2Proof.Machine
end

