-- ==== Sys2Proof/Machine/IntegOps.lean ====
section
/-! DEFINITION. The INTEGRITY opcodes (11 R362, R363; 12 R390, R392): reading and clearing fault records.
Log entries: 22 (DEDUCED); 3 (DESIGN CHOICE). -/

namespace Sys2Proof.Machine

/-- INTEG_FAULT_READ. -/
def opFaultRead (_ : LaneId) (_ : Sender) (blk : List Byte) (L : LaneSt) : LaneSt × Option LaneRes :=
  let i := L.int
  checked [(noBlock blk, stBadParam)] L
    (L, some (replyRes (recBytes i.ce ++ recBytes i.uc ++ recBytes i.fa ++ [i.ovf.setWidth 8, 0, 0, 0])))

/-- INTEG_COUNTS: registers 0x000–0x03C. -/
def opIntegCounts (_ : LaneId) (_ : Sender) (blk : List Byte) (L : LaneSt) : LaneSt × Option LaneRes :=
  let word := fun o => match intRegs L o with
    | some (v, _) => v
    | none => 0
  checked [(noBlock blk, stBadParam)] L (L, some (replyRes (((List.range 16).map fun i => le32 (word (4 * i))).flatten)))

/-! ## When a cause is gone (12 Table 12-7) -/

/-- The word that LAST_DED names is not poisoned. -/
def originClean (L : LaneSt) (w : Word) : Bool := !w.getLsbD 21 || !L.int.poisoned.contains (fieldOf w 18 3, fieldOf w 0 18)

/-- No comparator shows a short at the clear (07 R257). -/
def shuntClear (me : LaneId) (L : LaneSt) : Bool := !Config.shuntHigh me L.time.clk10

/-- No gate of a failed leg reads above 2.0 V while held off (07 R257). -/
def legsClear (me : LaneId) (L : LaneSt) : Bool := gatesSensed me L &&& L.gate.failed == 0

/-- No supply of the gate drive is below its rising threshold (07 R257). -/
def suppliesUp (me : LaneId) (L : LaneSt) : Bool := !L.gate.vgdUvlo && L.gate.bootUvlo == 0 && !Config.supplyLow me L.time.clk10

/-- A lost sensor may be cleared (06 R210): no pair outside the window in the last 1 ms, and no overspeed that goes on. -/
def sensorClear (L : LaneSt) : Bool :=
  let x := L.sen
  (match x.lastOut10 with
   | some t => t + 100000 < L.time.clk10
   | none => true)
  && !(x.lossCause == lossOverspeed && x.lastOver)

/-- A Hall input without error (06 R212). -/
def hallClear (L : LaneSt) : Bool := if L.sen.hallFailed then L.sen.hallState != 0 && L.sen.hallState != 7 else L.sen.hallValid

/-- A channel that carries frames from and to the device. -/
def channelClear (ch : Nat) (L : LaneSt) : Bool :=
  let c := if ch = 0 then L.flock.chA else L.flock.chB
  !c.rxLost && !c.txLost

/-- Is the cause of a UC source gone? `unit` and `cell` are of its LOCATION, `origin` its DETAIL_A. The fault of a failed wake (0x63) stands as
long as its FA record (11 R363). -/
def ucGone (me : LaneId) (src : Byte) (unit cell : Nat) (origin : Word) (L : LaneSt) : Bool :=
  let n := src.toNat
  if n = 0 then !L.sen.noPosition
  else if n = 0x03 || n = 0x05 then !L.int.poisoned.contains (unit, cell)
  else if n = 0x06 then L.sbeIn1s unit < L.host.run.nat Item.sbeLimit
  else if 0x08 ≤ n && n < 0x10 then originClean L origin
  else if n = 0x31 then (allLinks.find? fun k => k.num == unit).all L.eng.up
  else if n = 0x38 then sensorClear L
  else if n = 0x39 then hallClear L
  else if n = 0x3A then !L.sen.aux1Fault && !L.sen.aux2Fault && !L.sen.ntcFault
  else if n = 0x3B then L.eng.devCnt.get me == 0
  else if n = 0x40 || n = 0x41 then shuntClear me L
  else if n = 0x44 then legsClear me L
  else if n = 0x42 || n = 0x43 || n = 0x45 then suppliesUp me L
  else if n = 0x46 then !stoDiffers me L
  else if 0x50 ≤ n && n < 0x58 then channelClear unit L
  else if n = 0x5A then !L.host.hCrc && !L.host.hSilent
  else if n = 0x63 then L.int.fa.isNone
  else if n = 0x64 then !L.start.overdue
  else true

/-- A FA record's cause is gone when the lane has been reset and has passed its start tests since (12 R388). -/
def faGone (r : FaultRec) (L : LaneSt) : Bool := !L.start.fa && !L.start.startTests.isEmpty && (L.int.faSaved.map (·.stamp)) == some r.stamp

/-- The cause of a record is gone, and it is not in handling. -/
def recordGone (me : LaneId) (r : FaultRec) (L : LaneSt) : Bool :=
  r.handled && (if r.cls = 2 then true else if r.cls = 4 then faGone r L
    else ucGone me r.source (fieldOf r.location 20 8) (fieldOf r.location 0 20) r.detailA L)

/-! ## INTEG_FAULT_CLEAR (11 R363) -/

/-- Clear the record of a class, or keep it. -/
def clearRecord (me : LaneId) (cls : BitVec 3) (L : LaneSt) : LaneSt × Bool :=
  match L.int.slot cls with
  | none => (L, false)
  | some r =>
    if recordGone me r L then
      let i := { L.int.setSlot cls none with ovf := L.int.ovf &&& ~~~ovfBit cls }
      ({ L with int := if cls = 4 then { i with faSaved := none } else i }, false)
    else (L, true)

/-- The records of the named classes; the answer says whether one stays. -/
def clearRecords (me : LaneId) (classes : Byte) (L : LaneSt) : LaneSt × Bool :=
  [(0, 2#3), (1, 3#3), (2, 4#3)].foldl (fun p c =>
    if classes.getLsbD c.1 then let (L, b) := clearRecord me c.2 p.1; (L, p.2 || b) else p) (L, false)

/-- The reaction of the gate block ends (07 R257). -/
def clearGate (L : LaneSt) : LaneSt :=
  { L with gate := { L.gate with reaction := .none, fallback := false, hsFail := 0, uvloLatched := false, prechargeFail := false, scLegs := 0,
                                 scGross := false, scTwoLegs := false, scInShort := false, scFirst := false } }

/-- The sources of the bridge's own faults. -/
def isBridge (src : Byte) : Bool := 0x40 ≤ src.toNat && src.toNat ≤ 0x45

/-- The standing winding faults of this lane whose cause is gone end; with none of the bridge left its reaction ends, and the share comes back
(05 R179). -/
def clearWinding (me : LaneId) (L : LaneSt) : LaneSt :=
  let gone := fun (f : Standing) => f.kind == .winding && ((f.lane == me && f.src != 0x46 && ucGone me f.src 0 0 0 L)
    || (f.src == 0x46 && !stoDiffers me L))
  if !L.safe.faults.any gone then L
  else
    let L := endFaults gone L
    let L := if L.safe.faults.any fun f => f.kind == .winding && f.lane == me && isBridge f.src then L else clearGate L
    if L.ownW me then L else bringBack me L

/-- A standing fault of this lane's bridge or sensor whose cause is present at the clear stands, and the clear says so, whatever record it was
merged into (07 R257, 06 R210). -/
def causeStands (me : LaneId) (L : LaneSt) : Bool :=
  (L.safe.faults.any fun f => f.kind == .winding && f.lane == me && f.src != 0 && f.src != 0x46 && f.src != 0x63 && !ucGone me f.src 0 0 0 L)
  || (L.sen.scLost && !sensorClear L)

/-- A lost sensor is found again (06 R210): the lane returns to it under R224. -/
def clearSensor (me : LaneId) (L : LaneSt) : LaneSt :=
  if L.sen.scLost && sensorClear L then
    endFaults (fun f => f.kind == .sensor && f.lane == me)
      { L with sen := { L.sen with scLost := false, lossCause := 0, disagree := false, clearedS := true, backRun := 0 },
               eng := { L.eng with posCnt := L.eng.posCnt.set me 0, spdCnt := L.eng.spdCnt.set me 0 } }
  else L

/-- HALL_FAILED is reset; the two revalidating transitions are counted from here (06 R212). -/
def clearHall (L : LaneSt) : LaneSt :=
  if L.sen.hallFailed && hallClear L then { L with sen := { L.sen with hallFailed := false, hallErrTimes := [], hallRun := 0 } } else L

/-- What a clear of class UC ends with the record: the standing faults of this lane whose causes are gone. Where the record stays, nothing
ends. -/
def clearFaults (me : LaneId) (L : LaneSt) : LaneSt :=
  if L.int.uc.isSome then L else clearHall (clearSensor me (clearWinding me L))

/-- An excluded lane whose fault is cleared, with no UC record left, rejoins (01 R36). -/
def clearExclusion (L : LaneSt) : LaneSt :=
  if L.eng.excluded && !L.eng.killed && !L.eng.debug && L.int.uc.isNone then
    { L with eng := { L.eng with excluded := false, rejoin := if L.eng.isolated then none else some 0 } }
  else L

/-- The other lanes count the named lanes' sensors from the start. Where an S fault stands there, the lane is disregarded until its
records show the end of it (06 R220). -/
def clearOthers (me : LaneId) (lanes : Byte) (L : LaneSt) : LaneSt :=
  (me.others.filter fun j => lanes.getLsbD j.num).foldl (fun L j =>
    { L with eng := { L.eng with ownCleared := L.eng.ownCleared.set j (L.eng.ownLost.get j), disregard := L.eng.disregard.set j (L.eng.disregard.get j && L.hasFault .sensor j), posCnt := L.eng.posCnt.set j 0, spdCnt := L.eng.spdCnt.set j 0 } }) L

/-- The clear on a named lane. RESULT has the lane's bit where a record of it stays (11 Table 11-2). -/
def clearLane (me : LaneId) (classes : Byte) (L : LaneSt) : LaneSt × Option LaneRes :=
  let (L, kept) := clearRecords me classes L
  let stays := kept || L.eng.killed || (classes.getLsbD 1 && causeStands me L)
  let L := if classes.getLsbD 1 then clearFaults me L else L
  let L := if stays || !classes.getLsbD 1 then L else clearExclusion L
  let L := decideState me L
  (L, some (if stays then statusRes stCausePresent (if kept then laneBit me else 0) else okRes))

/-- INTEG_FAULT_CLEAR. -/
def opFaultClear (me : LaneId) (_ : Sender) (blk : List Byte) (L : LaneSt) : LaneSt × Option LaneRes :=
  let lanes := byteAt blk 0
  let classes := byteAt blk 1
  checked [(blk.length == 4 && zerosAt blk 2 2 && lanes != 0 && lanes.toNat < 8 && classes != 0 && classes.toNat < 8, stBadParam)] L
    (let L := if classes.getLsbD 1 then clearOthers me lanes L else L
     if lanes.getLsbD me.num then clearLane me classes L else (decideState me L, some okRes))

def execIntegFaultRead (c : Ctx) (blk : List Byte) (s : State) : Out := runOp 0x0901 c blk (opFaultRead c.lane c.sender blk) s
def execIntegFaultClear (c : Ctx) (blk : List Byte) (s : State) : Out := runOp 0x0902 c blk (opFaultClear c.lane c.sender blk) s
def execIntegCounts (c : Ctx) (blk : List Byte) (s : State) : Out := runOp 0x0903 c blk (opIntegCounts c.lane c.sender blk) s

end Sys2Proof.Machine
end

