-- ==== Sys2Proof/Machine/Reset.lean ====
section
/-! DEFINITION. Resets of a lane (13 R393, R408, R410, R414, R425; 14 R442, R443): what each keeps, and the commands that cause them.
Log entries: 4, 36, 37, 39, 45, 61, 75 (DEDUCED); 3 (DESIGN CHOICE). -/

namespace Sys2Proof.Machine

/-! ## What a reset keeps -/

/-- Every domain On. -/
def allOn : Store Rung := Domain.all.foldl (fun p d => Store.write .off p d.num .on) []

/-- The NVM of a lane: its images, boot counter, overdue count and last self-test record (R404, R431, R432; 09 R320). -/
def StartEng.nvm (x : StartEng) : StartEng :=
  { imgA := x.imgA, imgB := x.imgB, imgInUse := x.imgInUse, bootCount := x.bootCount, bootRing := x.bootRing, ovdCount := x.ovdCount,
    testResult := x.testResult }

/-- The words of the memories that keep their contents, with the errors in them. -/
def IntEng.kept (i : IntEng) (keeps : Nat → Bool) : IntEng :=
  { poisoned := i.poisoned.filter fun q => keeps q.1, flipped := i.flipped.filter fun e => keeps e.1.1 }

/-- A lane without supply keeps its ROM and NVM; its pins keep their levels, and the model its clock and its draws. -/
def coldLane (L : LaneSt) : LaneSt :=
  { time := { clk10 := L.time.clk10, free := L.time.free },
    int := L.int.kept (· < 2),
    flock := { draws := L.flock.draws },
    gate := { stoHigh := L.gate.stoHigh }, mot := { stoHold := !L.gate.stoHigh },
    start := { L.start.nvm with testEn := L.start.testEn, wakePin := L.start.wakePin, trstHigh := L.start.trstHigh } }

/-- The newest FA record, which PD_AON keeps (12 R388). -/
def keptFa (L : LaneSt) : Option FaultRec := L.int.fa.orElse fun _ => L.int.faSaved

/-- What PD_AON keeps of the START engine across a lane reset (Table 13-7). -/
def StartEng.aon (x : StartEng) : StartEng :=
  { x.nvm with supplied := x.supplied, vinGood := x.vinGood, coreReady := x.coreReady, testEn := x.testEn, wakePin := x.wakePin,
               coltRec := x.coltRec, coltBad := x.coltBad, coltHall := x.coltHall, coltEdge := x.coltEdge, coltDt := x.coltDt,
               bootStep := x.bootStep, bootFound := x.bootFound, said := x.said, ovdRead := x.ovdRead, overdue := x.overdue, tap := x.tap, trstHigh := x.trstHigh,
               tapReg := x.tapReg, tdo := x.tdo, phase := .fwStart }

/-- What PD_AON keeps of the POWER engine (R425). The lane is at OP2, with the core at its voltage, which a PMIC keeps until its next
command, and every domain is On. -/
def PowEng.aon (p : PowEng) : PowEng :=
  { pd := allOn, opRestore := p.opRestore, vinWarn := p.vinWarn, corePmbus := p.corePmbus, wakeFailed := p.wakeFailed, failStep := p.failStep,
    failDomain := p.failDomain, pmbusErr := p.pmbusErr, vin := p.vin, vcore := if p.corePmbus then p.vcore else 800,
    refuseDomain := p.refuseDomain, refuseReason := p.refuseReason }

/-- The memories that a lane reset does not initialise: the ROM, the NVM, the trace SRAM and the save RAM. -/
def keptMem (m : Nat) : Bool := m < 2 || m == 4 || m == 7

/-- A lane reset: LANE_DOWN is sent, all gates go off, and everything outside PD_AON and the NVM starts again (02 R63). CE and UC
records are lost, and the FA record is kept (12 R388). The accept mask of the kill-order decoder stays frozen (02 R65). Trace memory and the
probe descriptors stay, with what was ARMED or TRIGGERED FROZEN (04 R161). -/
def resetWith (kind : BitVec 3) (p : PowEng) (L : LaneSt) : LaneSt :=
  let L := if L.alive then send .laneDown L else L
  { time := { localT := L.time.localT, clk10 := L.time.clk10, free := L.time.free },
    eng := { acceptMask := L.eng.acceptMask },
    safe := { muleRemain := L.safe.muleRemain, muleUs := L.safe.muleUs },
    mot := { stoHold := L.mot.stoHold || !L.gate.stoHigh },
    gate := { stoHigh := L.gate.stoHigh, extest := L.gate.extest },
    flock := { draws := L.flock.draws },
    trace := { (freezeTrace L).trace with setup := none, armReq := false },
    ev := { latches := L.ev.latches },
    int := { L.int.kept keptMem with stamps := L.int.stamps, faSaved := keptFa L, faCount := L.int.faCount, aonWord := L.int.aonWord },
    pow := p, start := { L.start.aon with startKind := kind, inReset := true },
    herdTx := L.herdTx, flockTx := L.flockTx, txd := L.txd }

def resetLane (kind : BitVec 3) (L : LaneSt) : LaneSt := resetWith kind L.pow.aon L

/-- START_KIND of Table 13-4. -/
def kindSupply : BitVec 3 := 0
def kindWake : BitVec 3 := 1
def kindNrst : BitVec 3 := 2
def kindFa : BitVec 3 := 3
def kindVin : BitVec 3 := 4
def kindFull : BitVec 3 := 5
def kindCpu : BitVec 3 := 6

/-- The lane is in its shutdown self-test or powered down: it waits for supply removal or a WAKE rise (R429). -/
def LaneSt.shut (L : LaneSt) : Bool := L.start.phase == .shutdownTest || L.start.phase == .poweredDown

/-- NRST_N and TEST_EN reach a lane whose core is supplied, in its shutdown self-test too, but not one that has powered down (14 R443, R451). -/
def LaneSt.resets (L : LaneSt) : Bool := L.start.supplied && L.start.coreReady && L.start.phase != .poweredDown

/-- The core is supplied, and the lane is not shut down. -/
def LaneSt.powered (L : LaneSt) : Bool := L.start.supplied && L.start.coreReady && !L.shut

/-! ## The commands -/

/-- SUPPLY_LOSS: VIN below 3.0 V. -/
def execSupplyLoss (l : LaneId) (s : State) : Out := onLane l coldLane s

/-- NRST_N (14 Table 14-10): below 200 ns it is ignored, from 1 µs on it acts, and between the two it may act. -/
def nrst (ns : Nat) (L : LaneSt) : LaneSt :=
  if ns < 200 then L
  else if ns < 1000 then
    let acts := Config.shortPulseActs L.time.free
    let L := { L with time := { L.time with free := L.time.free + 1 } }
    if acts then resetLane kindNrst L else L
  else resetLane kindNrst L

def execNrstN (l : LaneId) (ns : Nat) (s : State) : Out := onLaneIf l LaneSt.resets (nrst ns) s

/-- TEST_EN (14 R443): high for 10 ms without a break, it holds the lane in reset; shorter pulses are ignored. A length of 0 is the
ball low again. -/
def testEnPin (us : Nat) (L : LaneSt) : LaneSt :=
  if us = 0 then { L with start := { L.start with testEn := false } }
  else if us < 10000 then L
  else
    let L := if L.resets then resetLane kindNrst L else L
    { L with start := { L.start with testEn := true } }

def execTestEn (l : LaneId) (us : Nat) (s : State) : Out := onLaneIf l (fun L => L.start.supplied) (testEnPin us) s

/-- A fatal fault that resets the lane. -/
def fatalReset (me : LaneId) (src : Byte) (kind : BitVec 3) (L : LaneSt) : LaneSt := resetLane kind (goFatal me src 0 0 L)

/-- VIN_RESET (R425): the lane restarts when VIN is good again. VIN below the reset level is below the warning level. -/
def vinReset (me : LaneId) (mv : Half) (L : LaneSt) : LaneSt :=
  let L := { L with pow := { L.pow with vin := mv, vinWarn := true }, start := { L.start with vinGood := false } }
  if L.powered then fatalReset me 0x61 kindVin L else L

def execVinReset (l : LaneId) (mv : Half) (s : State) : Out := onLaneIf l (fun L => L.start.supplied) (vinReset l mv) s

/-- VCORE_LOW (R414). -/
def execVcoreLow (l : LaneId) (mv : Half) (s : State) : Out :=
  onLaneIf l LaneSt.powered (fun L => fatalReset l 0x61 kindVin { L with pow := { L.pow with vcore := mv } }) s

/-- CLOCK_LOSS (R395, R410): the lane goes FA, with its gates off. -/
def execClockLoss (l : LaneId) (s : State) : Out := onLaneIf l LaneSt.powered (goFatal l 0x62 0 0) s

/-! ## The test access port (04 R151, 14 R442) -/

/-- A halt through the port: from the next fast sample the lane is DEBUG_ACTIVE. -/
def halt (L : LaneSt) : LaneSt :=
  if L.running then { L with eng := { L.eng with debugReq := some true, halted := true } } else L

/-- DEBUG_HALT: through a TAP that is not held in reset. -/
def execDebugHalt (l : LaneId) (s : State) : Out := onLaneIf l (fun L => L.start.trstHigh) halt s

/-- The bits of IDCODE, the first out first: 1, the manufacturer, the part number 0x7264, and the step as the version (00 R4). -/
def tapIdcode : List Bool := (List.range 32).map ((2#4 ++ 0x7264#16 ++ Config.tapMaker ++ 1#1 : BitVec 32).getLsbD)

/-- What the selected data register captures. -/
def tapCapture (me : LaneId) (L : LaneSt) : List Bool :=
  match L.start.tap with
  | .bypass => [false]
  | .idcode => tapIdcode
  | _ => Config.boundary me L.time.clk10

/-- A scan: the register captures, and shifts out as many bits as come in. The lanes are chained from TDI through lanes 0, 1 and 2 to TDO, so
that a lane takes what the lane before it has shifted out. -/
def tapScan (me : LaneId) (peer : LaneId → LaneSt) (tdi : List Bool) (L : LaneSt) : LaneSt :=
  let bits := match me with
    | .l0 => tdi
    | .l1 => (peer .l0).start.tdo
    | .l2 => (peer .l1).start.tdo
  let all := tapCapture me L ++ bits
  { L with start := { L.start with tdo := all.take bits.length, tapReg := all.drop bits.length } }

/-- TAP_INSTRUCTION: TRST_N low holds the TAP in reset, with IDCODE selected (14 Table 14-3); else EXTEST holds the gate outputs off, a debug
instruction halts the lane, and the other instructions of IEEE 1149.1 select a data register alone. -/
def tapUpdate (me : LaneId) (peer : LaneId → LaneSt) (t : TapInstr) (L : LaneSt) : LaneSt :=
  let take := fun (t : TapInstr) (L : LaneSt) => { L with start := { L.start with tap := t }, gate := { L.gate with extest := t == .extest } }
  match t with
  | .trst high =>
    let L := { L with start := { L.start with trstHigh := high } }
    if high then L else take .idcode { L with start := { L.start with tapReg := [], tdo := [] } }
  | .scan tdi => if L.start.trstHigh then tapScan me peer tdi L else L
  | .halt => if L.start.trstHigh then halt (take .halt L) else L
  | t => if L.start.trstHigh then take t L else L

def execTapInstruction (l : LaneId) (t : TapInstr) (s : State) : Out :=
  onLaneIf l (fun L => L.start.supplied) (tapUpdate l s.lane t) s

end Sys2Proof.Machine
end

