-- ==== Sys2Proof/Machine/SaveList.lean ====
section
/-! DEFINITION. The save list (13 R417): which domain a register lies in, its copy into save RAM, and the write back, which reaches
the fields that hosts only read. A field that other state determines (a count of free slots, a lane's number) takes no value of its
own.
Log entries: 38, 40 (DEDUCED). -/

namespace Sys2Proof.Machine

/-! ## Codes read back -/

/-- The value of a list that has a code. -/
def ofCode {α : Type} (code : α → Nat) (all : List α) (d : α) (n : Nat) : α := (all.find? fun x => code x == n).getD d

def roleOf : Nat → Role := ofCode Role.code [.lead, .standby, .watch, .none] .none
def safeOf : Nat → Safe := ofCode Safe.code [.full, .degraded, .netHold, .mule, .ss1, .stopped, .colt] .colt
def endOf : Nat → EndState := ofCode EndState.code [.none, .sto, .activeShort, .colt] .none
def graphOf : Nat → GraphState := ofCode GraphState.code [.none, .active, .stopped, .debug] .none
def driveOf : Nat → Drive := ofCode Drive.code [.off, .foc, .sixStep, .disable] .off
def sourceOf : Nat → Source := ofCode Source.code [.none, .own, .borrowed, .extrapolating, .hall] .none
def reactionOf : Nat → Reaction := ofCode Reaction.code [.none, .allOff, .lowSideShort] .none
def linkOf : Nat → LinkState := ofCode LinkState.code [.off, .listen, .coldstart, .integrating, .sync, .singleSync, .notReceived] .off
def probeStateOf : Nat → ProbeState := ofCode ProbeState.code [.idle, .armed, .triggered, .done, .frozen] .idle

/-- The three flags of a mask from a bit on. -/
def maskAt (v : Word) (lo : Nat) : Tri Bool := Tri.tab fun l => v.getLsbD (lo + l.num)
def halfAt (v : Word) (lo : Nat) : Half := (v >>> lo).setWidth 16
def byteOf (v : Word) (lo : Nat) : Byte := (v >>> lo).setWidth 8

/-! ## Domains -/

/-- The domain that holds a register (Table 13-7): none for the registers of PD_AON. Trace descriptors lie with the trace SRAM. -/
def regDomain (addr : Nat) : Option Domain :=
  let o := adrOffset addr
  match adrEngine addr with
  | 0 => some .cpu
  | 1 => if o < 0x100 then some .ox else some .mem
  | 2 => some .cpu
  | 3 => some .ana
  | 4 => some .gate
  | 5 => some .flock
  | 6 => some .host
  | 7 => some .cpu
  | 8 => some .cpu
  | _ => none

/-- The save list: index and address of each used entry. -/
def Conf.saveList (c : Conf) : List (Nat × Nat) :=
  (List.range 64).filterMap fun i =>
    let a := c.nat (Item.save + i)
    if a = 0 then none else some (i, a)

/-- The entries of a lane's own registers of a domain. -/
def saveOf (me : LaneId) (d : Domain) (L : LaneSt) : List (Nat × Nat) :=
  L.host.run.saveList.filter fun e => adrLane e.2 == me.num && regDomain e.2 == some d

/-- Copy the listed registers of a domain into save RAM. -/
def saveRegs (me : LaneId) (d : Domain) (L : LaneSt) : LaneSt :=
  let copy := fun (m : Store Word) (e : Nat × Nat) =>
    match engineWord me L (adrEngine e.2) (adrOffset e.2) with
    | some (v, _) => Store.write 0 m e.1 v
    | none => m
  let words := (saveOf me d L).map fun e => e.1 / 2
  { L with pow := { L.pow with save := (saveOf me d L).foldl copy L.pow.save },
           int := { L.int with poisoned := L.int.poisoned.filter fun q => !(q.1 == 7 && words.contains q.2),
                               flipped := L.int.flipped.filter fun e => !(e.1.1 == 7 && words.contains e.1.2) } }

/-! ## Writing back -/

/-- The LANE registers. The count of faults follows the records, which lie in no register (log 40). -/
def putLane (o : Nat) (v : Word) (L : LaneSt) : LaneSt :=
  let e := L.eng
  let f := L.safe
  match o with
  | 0x000 =>
    { L with eng := { e with role := roleOf (fieldOf v 2 2), debug := v.getLsbD 4,
                             excluded := if e.isolated then e.excluded else v.getLsbD 5, lead := LaneId.ofNum (fieldOf v 8 2),
                             standby := LaneId.ofNum (fieldOf v 10 2), healthy := maskAt v 16, up01 := v.getLsbD 20, up12 := v.getLsbD 21,
                             up20 := v.getLsbD 22, relay := v.getLsbD 23, gen := byteOf v 24 },
             safe := { f with mule := v.getLsbD 6 } }
  | 0x004 => { L with eng := { e with switchCount := halfAt v 0, lastGap := halfAt v 16 } }
  | 0x008 => { L with eng := { e with violCount := v } }
  | 0x00C => { L with eng := { e with violAddr := v.setWidth 24, violWrite := v.getLsbD 24, violUnmapped := v.getLsbD 25 } }
  | 0x010 => { L with safe := { f with state := safeOf (fieldOf v 0 4), muleCause := byteOf v 8, muleRemain := halfAt v 16 } }
  | 0x014 => { L with safe := { f with stopCause := byteOf v 0, endState := endOf (fieldOf v 8 2), stoLow := maskAt v 10, stateUnsync := v.getLsbD 13 } }
  | 0x018 => { L with safe := { f with stateTime := v } }
  | _ => L

/-- Change a probe's descriptor word (04 Table 4-9). -/
def putProbe (k : Nat) (v : Word) (p : Probe) : Probe :=
  match k with
  | 0 => { p with state := probeStateOf (fieldOf v 0 3), rate := (v >>> 3).setWidth 2, poisonSeen := v.getLsbD 5, timeUnsync := v.getLsbD 6,
                  en := v.getLsbD 7, node := byteOf v 8, word := (v >>> 16).setWidth 2, prePct := byteOf v 24 }
  | 1 => { p with depth := fieldOf v 0 16 + 1, trigIndex := fieldOf v 16 16 }
  | 2 => { p with trigTime := v }
  | 3 => { p with trigOfs := v }
  | 4 => { p with preValid := fieldOf v 0 16, trigSrc := (v >>> 16).setWidth 3, trigLane := (v >>> 19).setWidth 2 }
  | 5 => { p with samples := v.toNat }
  | 6 => { p with base := v.toNat }
  | _ => p

def putOx (o : Nat) (v : Word) (L : LaneSt) : LaneSt :=
  let x := L.ox
  if o = 0x000 then { L with ox := { x with graphState := graphOf (fieldOf v 0 2), signature := v.getLsbD 2 } }
  else if o = 0x004 then { L with ox := { x with eventsTotal := v } }
  else if o = 0x008 then
    { L with ox := { x with lastKind := v.setWidth 2, lastPart := (v >>> 2).setWidth 2, lastNode := byteOf v 4, lastSample := (v >>> 12).setWidth 20 } }
  else if o = 0x00C then { L with ox := { x with fastEnd := halfAt v 0, fastEndMax := halfAt v 16 } }
  else if o = 0x010 then { L with ox := { x with release := halfAt v 0 } }
  else if 0x100 ≤ o && o < 0x200 then
    { L with trace := { L.trace with probes := L.trace.probes.mapIdx fun i p => if i = (o - 0x100) / 32 then putProbe (o % 32 / 4) v p else p } }
  else if 0x20000 ≤ o then { L with trace := { L.trace with mem := Store.write 0 L.trace.mem ((o - 0x20000) / 4) v } }
  else L

/-- A weight from its 16 bits × 1/32,768. -/
def weightOf (n : Nat) : Word := BitVec.ofNat 32 (n * 512)

/-- The MOTION registers. VEL_MODE 1 finds a velocity mode or begins one that takes its first value; RAMPING and CARRYING can only end a
ramp or a share, since a ramp's course and a weight stand in no bit of this register (log 40). -/
def putMot (me : LaneId) (o : Nat) (v : Word) (L : LaneSt) : LaneSt :=
  let m := L.mot
  match o with
  | 0x000 => { L with mot := { m with enabled := v.getLsbD 0, drive := driveOf (fieldOf v 1 2), depth := v.getLsbD 3, dirHeld := v.getLsbD 4,
                                      vel := if v.getLsbD 5 then some { m.vel.getD {} with blend := none }
                                             else m.vel.filter fun x => x.blend.isSome,
                                      ramp := if v.getLsbD 6 then m.ramp else ⟨none, none, none⟩,
                                      w := Tri.tab fun l => if v.getLsbD (8 + l.num) then m.w.get l else 0 },
                      ox := { L.ox with k := weightOf (fieldOf v 16 16) } }
  | 0x004 => { L with mot := { m with w := { m.w with a0 := weightOf (fieldOf v 0 16), a1 := weightOf (fieldOf v 16 16) } } }
  | 0x008 => { L with mot := { m with w := { m.w with a2 := weightOf (fieldOf v 0 16) } } }
  | 0x00C => { L with mot := { m with iqRef := v } }
  | 0x010 => { L with mot := { m with iqMeas := v } }
  | 0x014 => { L with mot := { m with offA := halfAt v 0, offB := halfAt v 16 } }
  | 0x018 => { L with eng := { L.eng with devCnt := L.eng.devCnt.set me (byteOf v 0) } }
  | _ => L

def putSense (me : LaneId) (o : Nat) (v : Word) (L : LaneSt) : LaneSt :=
  let x := L.sen
  match o with
  | 0x000 => { L with sen := { x with
      source := sourceOf (fieldOf v 0 3), aligned := v.getLsbD 3, scLost := v.getLsbD 4,
      lossCause := (v >>> 5).setWidth 3, speedValid := v.getLsbD 8, hallValid := v.getLsbD 9, hallFailed := v.getLsbD 10,
      disagree := v.getLsbD 11, aux1Fault := v.getLsbD 12, aux2Fault := v.getLsbD 13, ntcFault := v.getLsbD 14, noPosition := v.getLsbD 15 },
                      eng := { L.eng with posCnt := L.eng.posCnt.set me (byteOf v 16), spdCnt := L.eng.spdCnt.set me (byteOf v 24) } }
  | 0x004 => { L with sen := { x with position := v } }
  | 0x008 => { L with sen := { x with angle := v } }
  | 0x00C => { L with sen := { x with speed := v } }
  | 0x010 => { L with sen := { x with amplitude := halfAt v 0, hallState := (v >>> 16).setWidth 3, ampGlitch := byteOf v 24 } }
  | 0x014 => { L with sen := { x with edgeAngle := v } }
  | 0x018 => { L with sen := { x with edgeIndex := v.setWidth 3, edgeDir := v.getLsbD 3, hallErr := byteOf v 8, hallGlitch := byteOf v 16 } }
  | 0x01C => { L with sen := { x with extrapLast := halfAt v 0, extrapCount := halfAt v 16 } }
  | 0x020 => { L with sen := { x with vlnkCode := v.setWidth 12, ntcCode := (v >>> 16).setWidth 12 } }
  | 0x024 => { L with sen := { x with aux1Code := v.setWidth 12, aux2Code := (v >>> 16).setWidth 12 } }
  | _ => L

/-- The GATE registers. The gates commanded on come back as what the drive demands where they name it by themselves: none, or the three
low sides; those of a running PWM follow its counter, and the gates sensed follow the comparators (log 40). -/
def putGate (o : Nat) (v : Word) (L : LaneSt) : LaneSt :=
  let g := L.gate
  match o with
  | 0x000 => { L with gate := { g with
      demand := if fieldOf v 0 6 = 0 then .allOff else if fieldOf v 0 6 = 0b111000 then .lowSides else g.demand,
      vgdUvlo := v.getLsbD 12, bootUvlo := (v >>> 13).setWidth 3, reaction := reactionOf (fieldOf v 16 2),
      fallback := v.getLsbD 18, hsFail := (v >>> 19).setWidth 3, uvloLatched := v.getLsbD 22, prechargeFail := v.getLsbD 23 } }
  | 0x004 => { L with gate := { g with
      scLegs := v.setWidth 3, scGross := v.getLsbD 3, scTwoLegs := v.getLsbD 4, scInShort := v.getLsbD 5,
      scCount := byteOf v 8, uvloCount := byteOf v 16, hsCount := byteOf v 24 } }
  | 0x008 => { L with gate := { g with scTime := v } }
  | _ => L

def putFlock (o : Nat) (v : Word) (L : LaneSt) : LaneSt :=
  let f := L.flock
  match o with
  | 0x000 => { L with flock := { f with
      chA := { f.chA with state := linkOf (fieldOf v 0 3), bgeReleased := v.getLsbD 8, rxLost := v.getLsbD 10, txLost := v.getLsbD 12 },
      chB := { f.chB with state := linkOf (fieldOf v 3 3), bgeReleased := v.getLsbD 9, rxLost := v.getLsbD 11, txLost := v.getLsbD 13 },
      bellSelf := v.getLsbD 6, giveUp := v.getLsbD 7, netLost := v.getLsbD 14, cycle := (v >>> 16).setWidth 6 } }
  | 0x004 => { L with flock := { f with cycleStart := v } }
  | 0x008 => { L with flock := { f with offset := halfAt v 0, rate := halfAt v 16 } }
  | 0x00C => { L with flock := { f with bellwether := halfAt v 0, syncNodes := byteOf v 16, collisions := byteOf v 24 } }
  | 0x010 => { L with flock := { f with slotBoundary := halfAt v 0, crcErr := halfAt v 16 } }
  | 0x014 => { L with flock := { f with chA := { f.chA with held := halfAt v 0 }, chB := { f.chB with held := halfAt v 16 } } }
  | 0x018 => { L with flock := { f with
      chA := { f.chA with cuts := byteOf v 0 }, chB := { f.chB with cuts := byteOf v 8 },
      safeBad := byteOf v 16, reasmDrop := byteOf v 24 } }
  | 0x01C => { L with flock := { f with mismatch := halfAt v 0 } }
  | _ => L

def putHost (o : Nat) (v : Word) (L : LaneSt) : LaneSt :=
  let h := L.host
  match o with
  | 0x000 => { L with host := { h with cqHead := halfAt v 0 } }
  | 0x004 => { L with host := { h with cqTail := halfAt v 0 } }
  | 0x008 => { L with host := { h with eqTail := halfAt v 0 } }
  | 0x00C => { L with host := { h with eqHead := halfAt v 0 } }
  | 0x010 => { L with host := { h with
      dbHeld := v.getLsbD 0, eqOvf := v.getLsbD 1, asleep := v.getLsbD 2, wait := (v >>> 4).setWidth 4,
      resv := byteOf v 8 } }
  | 0x014 => { L with host := { h with cqDiscard := halfAt v 0 } }
  | 0x20000 => { L with host := { h with crcErrs := halfAt v 0, seqErrs := halfAt v 16 } }
  | 0x20004 => { L with host := { h with
      formatErrs := halfAt v 0, lastSeq := byteOf v 16, seqSynced := v.getLsbD 24, hCrc := v.getLsbD 25,
      hSilent := v.getLsbD 26 } }
  | 0x20008 => { L with host := { h with transactions := v } }
  | 0x2000C => { L with host := { h with admitted := halfAt v 0, refused := halfAt v 16 } }
  | _ =>
    if 0x100 ≤ o && o < 0x1A0 then
      { L with host := { h with mirror := (h.mirror ++ List.replicate (40 - h.mirror.length) 0).set ((o - 0x100) / 4) v } }
    else if 0x1000 ≤ o && o < 0x19000 then { L with host := { h with win := Store.writes 0 h.win o (le32 v) } }
    else L

def putEvent (o : Nat) (v : Word) (L : LaneSt) : LaneSt :=
  let e := L.ev
  if o = 0x004 then { L with ev := { e with eqDrops := halfAt v 0, remoteDrops := halfAt v 16 } }
  else if o = 0x008 then { L with ev := { e with holdRunning := halfAt v 0, hirq := v.getLsbD 16 } }
  else if o = 0x00C then { L with ev := { e with wakeMask := halfAt v 0, unmatched := byteOf v 16 } }
  else if 0x100 ≤ o && o < 0x200 then { L with ev := { e with cnt := Store.writes 0 e.cnt (o - 0x100) (le32 v) } }
  else L

/-- A fault record from its 32 bytes (12 Table 12-5); zeros are no record. -/
def faultOf (me : LaneId) (stamp : Nat) (b : List Byte) : Option FaultRec :=
  if b.all (· == 0) then none
  else
    let f := byteAt b 1
    let g := byteAt b 3
    some { source := byteAt b 0, cls := f.setWidth 3, lane := (LaneId.ofNum (f.toNat / 8 % 4)).getD me, handled := f.getLsbD 5,
           unsync := f.getLsbD 6, escalated := f.getLsbD 7, secSource := byteAt b 2, secClass := g.setWidth 3, secOvf := g.getLsbD 3,
           time := rd32 b 4, location := rd32 b 8, detailA := rd32 b 12, detailB := rd32 b 16, secLocation := rd32 b 20, sample := rd32 b 24,
           count := rd16 b 28, stamp := stamp }

/-- A word of a fault record changes. -/
def putRecordWord (me : LaneId) (k : Nat) (v : Word) (stamp : Nat) (r : Option FaultRec) : Option FaultRec :=
  let b := recBytes r
  faultOf me stamp (b.take (4 * k) ++ le32 v ++ b.drop (4 * k + 4))

def putInt (me : LaneId) (o : Nat) (v : Word) (L : LaneSt) : LaneSt :=
  let i := L.int
  let k := o % 32 / 4
  if o < 0x020 then
    { L with int := { i with sbe := Store.write 0 i.sbe (o / 4) (halfAt v 0), ded := Store.write 0 i.ded (o / 4) (halfAt v 16) } }
  else match o with
  | 0x020 => { L with int := { i with lastDed := v } }
  | 0x024 => { L with int := { i with lastSbe := v } }
  | 0x028 => { L with int := { i with parityData := halfAt v 0, parityAddr := halfAt v 16 } }
  | 0x02C => { L with int := { i with mergeRmw := halfAt v 0, mergePoison := halfAt v 16 } }
  | 0x030 => { L with int := { i with scrubPasses := v } }
  | 0x034 => { L with int := { i with scrubLast := halfAt v 0, scrubMax := halfAt v 16 } }
  | 0x038 => { L with int := { i with repairs := halfAt v 0, poisonUsed := halfAt v 16 } }
  | 0x03C => { L with int := { i with ceCount := byteOf v 0, ucCount := byteOf v 8, faCount := byteOf v 16, checkerOk := v.getLsbD 24 } }
  | 0x160 => { L with int := { i with ovf := v.setWidth 3 } }
  | _ =>
    if 0x100 ≤ o && o < 0x120 then { L with int := { i with ce := putRecordWord me k v i.stamps i.ce } }
    else if 0x120 ≤ o && o < 0x140 then { L with int := { i with uc := putRecordWord me k v i.stamps i.uc } }
    else if 0x140 ≤ o && o < 0x160 then { L with int := { i with fa := putRecordWord me k v i.stamps i.fa } }
    else L

/-- Write a register back. -/
def putReg (me : LaneId) (addr : Nat) (v : Word) (L : LaneSt) : LaneSt :=
  let o := adrOffset addr
  match adrEngine addr with
  | 0 => putLane o v L
  | 1 => putOx o v L
  | 2 => putMot me o v L
  | 3 => putSense me o v L
  | 4 => putGate o v L
  | 5 => putFlock o v L
  | 6 => putHost o v L
  | 7 => putEvent o v L
  | 8 => putInt me o v L
  | _ => L

/-- Restore the listed registers of a domain. -/
def restoreRegs (me : LaneId) (d : Domain) (L : LaneSt) : LaneSt :=
  (saveOf me d L).foldl (fun L e => putReg me e.2 (Store.read 0 L.pow.save e.1) L) L

/-- The save-list words of a domain are read at its restore (12 R373); without the fault collector they are counted only. -/
def readSave (me : LaneId) (L : LaneSt) (d : Domain) : LaneSt :=
  (((saveOf me d L).map fun e => e.1 / 2).eraseDups).foldl
    (fun L w => if L.running then readArray me 7 w .clean L else countArray 7 w .clean L) L

/-- A word of the domain's save list arrives poisoned (R422). -/
def savePoisoned (me : LaneId) (d : Domain) (L : LaneSt) : Bool :=
  (saveOf me d L).any fun e => L.int.poisoned.contains (7, e.1 / 2)

end Sys2Proof.Machine
end

