-- ==== Sys2Proof/Machine/Power.lean ====
section
/-! DEFINITION. Operating points, sleep and waking (13 R411–R426; 11 R364–R366).
Log entries: 36, 37, 38, 39, 54, 55 (DEDUCED). -/

namespace Sys2Proof.Machine

/-! ## Operating points (R411–R414) -/

/-- The core voltage of a point, in mV (Table 13-6). -/
def opMv (op : Nat) : Nat := if op = 1 then 900 else if op = 2 then 800 else 720

/-- The configuration of the image with the higher generation. -/
def StartEng.newestConf (x : StartEng) : Conf := match x.goodA, x.goodB with
  | some a, some b => if a.gen.toNat < b.gen.toNat then b.conf else a.conf
  | some a, none => a.conf
  | none, some b => b.conf
  | none, none => {}

/-- The POWER items in force: those of the configuration that runs, and before step 6 of the start, as in minimal mode, those of the image
that is to be loaded (R434). -/
def LaneSt.powConf (L : LaneSt) : Conf :=
  if L.start.phase == .announced || L.start.phase == .full then L.host.run else L.start.newestConf

/-- The LINEAR16 mantissa of VOUT_COMMAND (R414). -/
def pmbusMantissa (c : Conf) (mv : Nat) : Half :=
  BitVec.ofInt 16 (roundDiv (mv * 2 ^ (-(c.int Item.pmbusExp)).toNat) 1000)

/-- A PMBus write with its packet error check. -/
def pmbusBytes (c : Conf) (body : List Byte) : List Byte :=
  let b := BitVec.ofNat 8 (2 * c.nat Item.pmbusAddr) :: body
  b ++ [b.foldl (crcByte 0x07#8) 0]

def pmbusSend (body : List Byte) (L : LaneSt) : LaneSt :=
  { L with pow := { L.pow with pmbusOut := L.pow.pmbusOut ++ [pmbusBytes L.powConf body] } }

/-- The divider and the voltage are those of a point. -/
def setOp (op : Nat) (L : LaneSt) : LaneSt :=
  { L with pow := { L.pow with op := op, vcore := BitVec.ofNat 16 (opMv op) } }

/-- A change to a point begins (R412): a lowering changes the divider at once, a raise first moves the voltage. -/
def moveOp (op : Nat) (tid : Option Nat) (L : LaneSt) : LaneSt :=
  let p := L.pow
  let raise := op < p.op
  let c : OpChange := { target := op, raise := raise, cleared := false, tid := tid, pmbus := p.corePmbus }
  let L := { L with pow := { p with op := if raise then p.op else op, change := some c } }
  if p.corePmbus then pmbusSend (0x21 :: le16 (pmbusMantissa L.powConf (opMv op))) L else L

/-- A change in progress ends, with the result of its command. -/
def closeChange (me : LaneId) (r : LaneRes) (L : LaneSt) : LaneSt :=
  match L.pow.change with
  | some c => finishOpt me c.tid r { L with pow := { L.pow with change := none } }
  | none => L

/-- The changes that waited for one in progress: a point that is in force needs none. -/
def nextChange (me : LaneId) : List (Nat × Option Nat) → LaneSt → LaneSt
  | [], L => { L with pow := { L.pow with nextOp := [] } }
  | (op, tid) :: r, L =>
    if L.pow.op = op then nextChange me r (finishOpt me tid okRes L)
    else moveOp op tid { L with pow := { L.pow with nextOp := r } }

/-- A change ends, and the next one begins. -/
def endChange (me : LaneId) (r : LaneRes) (L : LaneSt) : LaneSt :=
  if L.pow.change.isNone then L
  else
    let L := closeChange me r L
    nextChange me L.pow.nextOp L

/-- The change in progress reaches its point: a raise changes the divider only now. -/
def reachOp (me : LaneId) (L : LaneSt) : LaneSt :=
  match L.pow.change with
  | some c => endChange me okRes (setOp c.target L)
  | none => L

/-- Change the point (R412). A raise in progress first waits for its supply, and what comes meanwhile waits for it; a lowering has its divider
already, and ends (log entry 37). -/
def startChange (me : LaneId) (op : Nat) (tid : Option Nat) (L : LaneSt) : LaneSt :=
  if (L.pow.change.any (·.raise)) || !L.pow.nextOp.isEmpty then { L with pow := { L.pow with nextOp := L.pow.nextOp ++ [(op, tid)] } }
  else
    let L := reachOp me L
    if L.pow.op = op then finishOpt me tid okRes L else moveOp op tid L

/-- The read of STATUS_WORD that a poll sends (R414). -/
def pmbusRead (c : Conf) : List Byte :=
  let a := 2 * c.nat Item.pmbusAddr
  [BitVec.ofNat 8 a, 0x79, BitVec.ofNat 8 (a + 1)]

/-- OP_CHANGE_DONE, by the integrated buck. -/
def opChangeDone (me : LaneId) (L : LaneSt) : LaneSt :=
  match L.pow.change with
  | some c => if c.pmbus then L else reachOp me L
  | none => L

def execOpChangeDone (l : LaneId) (s : State) : Out := onLaneIf l LaneSt.powered (opChangeDone l) s

/-- PMBUS_STATUS_POLL: any bit of STATUS_WORD shows a fault, which is cleared once (log entry 37); bits 15, 11 and 6 clear acknowledge the
change. -/
def pmbusPoll (me : LaneId) (status : Half) (L : LaneSt) : LaneSt :=
  match L.pow.change with
  | some c =>
    if !c.pmbus then L
    else
    let L := { L with pow := { L.pow with pmbusOut := L.pow.pmbusOut ++ [pmbusRead L.powConf] } }
    let L := if status = 0 || c.cleared then L else pmbusSend [0x03] { L with pow := { L.pow with change := some { c with cleared := true } } }
    if status &&& 0x8840 = 0 then reachOp me L else L
  | none => L

def execPmbusStatusPoll (l : LaneId) (status : Half) (s : State) : Out := onLaneIf l LaneSt.powered (pmbusPoll l status) s

/-- PMBUS_ACK_TIMEOUT: a raise is given up with TIMEOUT; a lowering stays where it is. -/
def pmbusTimeout (me : LaneId) (L : LaneSt) : LaneSt :=
  match L.pow.change with
  | some c =>
    if !c.pmbus then L
    else
      let L := { L with pow := { L.pow with pmbusErr := satInc L.pow.pmbusErr } }
      if c.raise then endChange me (failRes stTimeout) L else endChange me okRes L
  | none => L

def execPmbusAckTimeout (l : LaneId) (s : State) : Out := onLaneIf l LaneSt.powered (pmbusTimeout l) s

/-- POWER_OP_SET (11 R366): during a warning a lower point applies at once, and is the one the recovery restores. -/
def opPowerOpSet (me : LaneId) (tid : Nat) (_ : Sender) (blk : List Byte) (L : LaneSt) : LaneSt × Option LaneRes :=
  let op := (byteAt blk 0).toNat
  checked [(blk.length == 4 && zerosAt blk 1 3 && 1 ≤ op && op ≤ 3, stBadParam),
    (!(op == 3 && L.ox.graphState == .active) && !(op == 1 && L.pow.vinWarn), stNotInState)] L
    (let L := if L.pow.vinWarn then { L with pow := { L.pow with opRestore := op } } else L
     if L.pow.op = op && L.pow.change.isNone then (L, some okRes) else (startChange me op (some tid) L, none))

def execPowerOpSet (c : Ctx) (blk : List Byte) (s : State) : Out := runOp 0x0A03 c blk (opPowerOpSet c.lane c.tid c.sender blk) s

/-- POWER_STATUS: the POWER registers. -/
def opPowerStatus (_ : LaneId) (_ : Sender) (blk : List Byte) (L : LaneSt) : LaneSt × Option LaneRes :=
  let word := fun o => match powRegs L o with
    | some (v, _) => v
    | none => 0
  checked [(noBlock blk, stBadParam)] L (L, some (replyRes (((List.range 4).map fun i => le32 (word (4 * i))).flatten)))

def execPowerStatus (c : Ctx) (blk : List Byte) (s : State) : Out := runOp 0x0A10 c blk (opPowerStatus c.lane c.sender blk) s

/-! ## Supply dips (R405, R424, R426) -/

/-- A start that key-off or a dip ends, and no failure, does not count (R405). -/
def giveBackBoot (L : LaneSt) : LaneSt :=
  let x := L.start
  if (x.phase == .fwStart || x.phase == .announced || x.phase == .minimal) && !x.inReset && !x.fa then
    { L with start := { x.writeBoot x.bootFound with bootStep := 0 } }
  else L

/-- Event 0x80 or 0x81 (R436). -/
def postVin (me : LaneId) (src : Byte) (cls : BitVec 3) (mv : Half) (L : LaneSt) : LaneSt :=
  arrive me src cls (pay2 (powReg0 L) (mv.setWidth 32)) L

/-- A self-test in progress is to be abandoned (R430). -/
def abandonTest (cause : BitVec 4) (L : LaneSt) : LaneSt :=
  match L.start.bist with
  | some b => { L with start := { L.start with bist := some { b with abandon := b.abandon.orElse fun _ => some cause } } }
  | none => L

/-- A raise to OP1 that waits for another change is abandoned with it (Table 13-11). -/
def dropRaises (me : LaneId) (L : LaneSt) : LaneSt :=
  (L.pow.nextOp.filter fun q => q.1 == 1).foldl (fun L q => finishOpt me q.2 (failRes stNotInState) L)
    { L with pow := { L.pow with nextOp := L.pow.nextOp.filter fun q => q.1 != 1 } }

/-- VIN_WARNING: the hardware moves a lane at OP1 to OP2 and keeps the point that was in force; a raise to OP1 in progress is abandoned and
OP2 applied, with its voltage, and a change to another point becomes the one to restore (Table 13-11). -/
def vinWarning (me : LaneId) (mv : Half) (L : LaneSt) : LaneSt :=
  let p := L.pow
  let raising := match p.change with
    | some c => c.raise && c.target == 1
    | none => false
  let keep := if p.vinWarn then p.opRestore else match (p.nextOp.filter (·.1 != 1)).getLast? with
    | some q => q.1
    | none => if raising then p.opRestore else match p.change with
      | some c => c.target
      | none => p.op
  let L := { L with pow := { p with vin := mv, vinWarn := true, vinWarnCount := satInc p.vinWarnCount, opRestore := keep } }
  let L := abandonTest 3 (giveBackBoot L)
  if L.shut then L
  else
    let L := dropRaises me L
    let L := if raising then moveOp 2 none (closeChange me (failRes stNotInState) L)
      else if L.pow.op = 1 then startChange me 2 none L else L
    if L.running then postVin me 0x80 clsCe mv (report me 0x60 0 0 L) else L

def execVinWarning (l : LaneId) (mv : Half) (s : State) : Out :=
  onLaneIf l (fun L => L.start.supplied && L.start.vinGood) (vinWarning l mv) s

/-- VIN_RESTORE. -/
def vinRestore (me : LaneId) (mv : Half) (L : LaneSt) : LaneSt :=
  if !L.pow.vinWarn then L
  else
    let L := { L with pow := { L.pow with vin := mv, vinWarn := false } }
    if L.shut || !L.start.coreReady then L
    else
      let L := startChange me L.pow.opRestore none L
      postVin me 0x81 clsInfo mv L

def execVinRestore (l : LaneId) (mv : Half) (s : State) : Out :=
  onLaneIf l (fun L => L.start.supplied && L.start.vinGood) (vinRestore l mv) s

/-! ## Domains -/

/-- The domains without which a lane is lost (Table 13-7). -/
def neededDomains : List Domain := [.cpu, .ox, .mem, .ana]

/-- BGE_x is high impedance while PD_FLOCK is not On (Table 13-7, R418), and driven again after, unless 08 R285 keeps it released. -/
def ganderOn (on : Bool) (L : LaneSt) : LaneSt :=
  let one := fun (c : ChanEng) => { c with bge := c.bge && on, bgeReleased := !on || L.barsBge || decide (2 ≤ c.unsynced) }
  { L with flock := { L.flock with chA := one L.flock.chA, chB := one L.flock.chB } }

/-- The scrubber of an array starts at its first word when the array comes back from Retention or Off (12 R380). -/
def scrubAgain (d : Domain) (was : Rung) (L : LaneSt) : LaneSt :=
  if (was == .retention || was == .off) && memDomain L.int.scrubMem == d then { L with int := { L.int with scrubWord := 0 } } else L

/-- A domain takes a rung. -/
def setDom (d : Domain) (r : Rung) (L : LaneSt) : LaneSt :=
  let L := if r == .on then scrubAgain d (L.dom d) L else L
  let L := { L with pow := { L.pow with pd := Store.write .off L.pow.pd d.num r } }
  if d == .flock then ganderOn (r == .on) L else L

/-- The window and the port from Off (R417, 11 R364): the indices, the sequence state and the counters start again; tasks are kept. -/
def emptyPort (L : LaneSt) : LaneSt :=
  let h := L.host
  { L with host := { h with lastSeq := 0, seqSynced := false, lastCmd := none, outcome := .reset, crcErr := false, seqErr := false,
                            formatErr := false, poison := false, miso := [], crcErrs := 0, seqErrs := 0, formatErrs := 0, hCrc := false,
                            hSilent := false, crcTimes := [], transactions := 0, admitted := 0, refused := 0, win := [], cqHead := 0,
                            cqTail := 0, eqHead := 0, eqTail := 0, dbHeld := false, eqOvf := false, lossOwed := false, asleep := false,
                            wait := 0, slotsUsed := [], cqDiscard := 0, mirror := [], mirrorPoison := [], mirrorCount := 0 },
           ev := { L.ev with hirq := false, irqDue := false, holdRunning := 0 } }

/-- What a domain loses in Off, and finds initialised when it wakes (R417). -/
def loseDomain (me : LaneId) (d : Domain) (L : LaneSt) : LaneSt :=
  match d with
  | .ox => { L with ox := {}, learn := {} }
  | .mem => initArrays [3, 4] { L with ox := { L.ox with nodes := [], order := [], graphState := .none }, trace := {}, learn := {} }
  | .ana => { L with sen := {} }
  | .gate => { L with gate := { stoHigh := L.gate.stoHigh, forcedOff := L.gate.forcedOff, extest := L.gate.extest } }
  | .flock => initArrays [6] <| releaseBge me { L with flock := { draws := L.flock.draws }, time := { L.time with synced := false } }
  | .host => initArrays [5] (emptyPort L)
  | _ => L

/-- A domain enters a rung; to Off, its save list is copied first. -/
def enterRung (me : LaneId) (r : Rung) (L : LaneSt) (d : Domain) : LaneSt :=
  if (L.dom d).code < r.code then
    let L := if r == .off then loseDomain me d (saveRegs me d L) else L
    setDom d r L
  else L

/-- A gate is commanded on at rank 3 or rank 7 of 07 Table 7-1. -/
def gateCommanded (me : LaneId) (L : LaneSt) : Bool :=
  let g := L.gate
  g.stoHigh && !L.mot.stoHold && !g.forcedOff && !g.extest && !g.vgdUvlo && L.dom .gate == .on && L.gateLive me
    && (match g.reaction with
        | .none => g.demand != .allOff
        | .lowSideShort => !g.fallback
        | .allOff => false)

/-! ## Refusals (Table 13-9) -/

/-- A domain stays On beside the named ones. -/
def staysOn (ds : List Domain) (L : LaneSt) (d : Domain) : Bool := !ds.contains d && L.dom d == .on

/-- A wake source for the domain is pending. -/
def wakePends (L : LaneSt) (d : Domain) : Bool :=
  L.pow.wakePending.contains d || (match L.pow.waking with
    | some w => w.domains.contains d
    | none => false)

/-- The reason for which a domain that is On refuses, 0 for none. -/
def refuses (me : LaneId) (tid : Nat) (ds : List Domain) (L : LaneSt) (d : Domain) : BitVec 5 :=
  let f := L.flock
  let own : BitVec 5 := match d with
    | .cpu =>
      if (L.host.tasks.any fun t => t.tid != tid && t.started && !t.done) || L.pow.shake.isSome then 1
      else if L.host.storing.isSome then 2 else if L.host.trans.isSome then 3 else 0
    | .ox => if L.learn.pass.isSome || L.trace.probes.any fun p => p.state == .armed || p.state == .triggered then 4 else 0
    | .mem => if L.host.storing.isSome || !L.int.repairQ.isEmpty then 2 else if staysOn ds L .ox then 5 else 0
    | .ana => if staysOn ds L .ox then 5 else if L.mot.enable == .offsets then 1 else 0
    | .gate => if gateCommanded me L || L.gate.reaction != .none then 6 else 0
    | .flock => if !f.reasm.isEmpty || !f.chA.dynPending.isEmpty || !f.chB.dynPending.isEmpty then 7 else 0
    | .host => if L.host.cqTail != L.host.cqHead || L.host.eqHeld != 0 then 8 else 0
    | .aon => 0
  if own != 0 then own else if wakePends L d then 9 else 0

/-- The answer of a lane in the prepare phase. -/
def sleepCheck (me : LaneId) (tid : Nat) (ds : List Domain) (L : LaneSt) : SleepAns :=
  match ds.find? fun d => L.dom d == .on && refuses me tid ds L d != 0 with
  | some d => .refuse d (refuses me tid ds L d)
  | none => .agree

/-- The registers of the last refusal (Table 13-15). -/
def noteRefusal (d : Domain) (reason : BitVec 5) (L : LaneSt) : LaneSt :=
  { L with pow := { L.pow with refuseDomain := BitVec.ofNat 3 d.num, refuseReason := reason, refuseCount := satInc L.pow.refuseCount } }

/-- Before a domain that the lane needs leaves On, PLANNED_SLEEP is sent, and the lane drops its role (R420). -/
def planSleep (me : LaneId) (ds : List Domain) (L : LaneSt) : LaneSt :=
  if ds.any fun d => neededDomains.contains d && L.dom d == .on then
    let L := send .plannedSleep L
    { L with pow := { L.pow with plannedSleep := true }, eng := { L.eng with role := .none, healthy := L.eng.healthy.set me false } }
  else L

/-- The clocks of the named domains that are On stop. -/
def stopClocks (ds : List Domain) (L : LaneSt) : LaneSt :=
  ds.foldl (fun L d => if L.dom d == .on then setDom d .onStopped L else L) L

/-- The named domains that are On drain and stop their clocks. -/
def stopDomains (me : LaneId) (ds : List Domain) (L : LaneSt) : LaneSt := stopClocks ds (planSleep me ds (drainAll me L))

/-! ## The wake order (R421–R423) -/

/-- A domain and those needed for its work: the Ox datapaths execute on the memory and on the converters. -/
def withNeeds (ds : List Domain) : List Domain :=
  Domain.all.filter fun d => ds.contains d || (ds.contains .ox && (d == .mem || d == .ana))

/-- The crystal runs while one of these domains is On or On-Stopped. -/
def crystalRuns (L : LaneSt) : Bool :=
  [Domain.cpu, .ox, .ana, .gate, .flock, .host].any fun d => L.dom d == .on || L.dom d == .onStopped

/-- Is a step of the wake order needed? -/
def stepNeeded (ds : List Domain) (L : LaneSt) (n : Nat) : Bool :=
  if n = 0 || n = 2 then ds.any fun d => L.dom d == .retention || L.dom d == .off
  else if n = 1 then !crystalRuns L
  else true

/-- The first needed step from `n` on. -/
def stepFrom (ds : List Domain) (L : LaneSt) (n : Nat) : Nat := ((List.range 3).find? fun k => n ≤ k && stepNeeded ds L k).getD 3

/-- The result of a wake: OK, or the domain that failed. -/
def wakeDone (me : LaneId) (tids : List Nat) (r : LaneRes) (L : LaneSt) : LaneSt := tids.foldl (fun L t => finishTask me t r L) L

/-- The RESULT that names a lane and a domain (11 Table 11-2). -/
def laneDomain (l : LaneId) (d : Domain) : Word := BitVec.ofNat 32 (l.num + 256 * d.num)

/-- Wake domains; those of a wake in progress or of an open handshake wait for its end. -/
def wakeDomains (me : LaneId) (ds : List Domain) (tids : List Nat) (L : LaneSt) : LaneSt :=
  let ds := (withNeeds ds).filter fun d => d != .aon && L.dom d != .on
  if ds.isEmpty then wakeDone me tids okRes L
  else if L.pow.waking.isSome || L.pow.shake.isSome then
    { L with pow := { L.pow with wakePending := withNeeds (L.pow.wakePending ++ ds), wakeTids := L.pow.wakeTids ++ tids } }
  else { L with pow := { L.pow with waking := some { domains := ds, step := stepFrom ds L 0, tids := tids } } }

/-- What waited starts. -/
def wakeWaiting (me : LaneId) (L : LaneSt) : LaneSt :=
  let ds := L.pow.wakePending
  let ts := L.pow.wakeTids
  if L.pow.waking.isSome || L.pow.shake.isSome || (ds.isEmpty && ts.isEmpty) then L
  else wakeDomains me ds ts { L with pow := { L.pow with wakePending := [], wakeTids := [] } }

/-- The memory of a domain from Off comes back initialised, and its save list is restored. WAKE_FAILED names it no longer (Table 13-15). -/
def reviveDomain (me : LaneId) (off : List Domain) (L : LaneSt) (d : Domain) : LaneSt :=
  let L := setDom d .on L
  let L := { L with pow := { L.pow with wakeFailed := L.pow.wakeFailed &&& ~~~BitVec.ofNat 8 (2 ^ d.num) } }
  if !off.contains d then L
  else if d == .flock then restoreRegs me d (initFlock me false L)
  else restoreRegs me d L

/-- A restart by a wake of PD_CPU from Off (R408, R417): the other domains keep their rungs. -/
def restartCpu (me : LaneId) (L : LaneSt) : LaneSt :=
  let es := saveOf me .cpu L
  let p := L.pow
  let L := resetWith kindCpu { p.aon with pd := p.pd, save := p.save, op := p.op, vcore := p.vcore, change := p.change.map fun c => { c with tid := none } } L
  es.foldl (fun L e => putReg me e.2 (Store.read 0 p.save e.1) L) L

/-- PD_HOST is On again: an assertion of HIRQ_N that waited for it is made, and pending sources find room (10 R336, R337). -/
def hostBack (me : LaneId) (L : LaneSt) : LaneSt :=
  if L.dom .host != .on then L
  else
    let L := if L.ev.irqDue && L.host.eqHeld != 0 then { L with ev := { L.ev with hirq := true } } else L
    replay me { L with ev := { L.ev with irqDue := false } }

/-- The logic step is ready: the domains are On. A lane that slept rejoins under 01 R36, with its graph activated where its memory was
lost. -/
def wakeFinish (me : LaneId) (w : Waking) (L : LaneSt) : LaneSt :=
  let off := w.domains.filter fun d => L.dom d == .off
  let cpu := L.dom .cpu != .on
  let L := { L with pow := { L.pow with waking := none } }
  let L := w.domains.foldl (reviveDomain me off) L
  let L := if off.contains .ox || off.contains .mem then activate me 0 L else L
  if off.contains .cpu then restartCpu me (wakeDone me w.tids okRes L)
  else
    let L := if cpu && L.running then postLatches me L else L
    let L := if L.running then hostBack me L else L
    let back := L.pow.plannedSleep && neededDomains.all fun d => L.dom d == .on
    let L := if back then { L with pow := { L.pow with plannedSleep := false }, eng := { L.eng with rejoin := some 0 } } else L
    wakeWaiting me (wakeDone me w.tids okRes L)

/-- Event 0x82 (R436). -/
def postWakeFail (me : LaneId) (d : Domain) (step : Nat) (lost : Bool) (L : LaneSt) : LaneSt :=
  arrive me 0x82 clsFa (pay2 (BitVec.ofNat 32 (d.num + 256 * step + 65536 * b2n lost)) (powReg1 L)) L

/-- What a lane loses with a domain it can do without (Table 13-7). -/
def lostDomain (me : LaneId) (d : Domain) (L : LaneSt) : LaneSt :=
  match d with
  | .gate => addW me 0x63 L
  | .flock =>
    let L := { L with eng := { L.eng with ucRaised := true } }
    match me with
    | .l0 => addFault { kind := .channel, lane := .l0, part := 0, src := 0x63 } L
    | .l1 => addFault { kind := .channel, lane := .l1, part := 1, src := 0x63 } L
    | .l2 => report me 0x54 0 0 (releaseBge me L)
  | .host => addFault { kind := .host, lane := me, part := 2, src := 0x63 } L
  | _ => L

/-- A domain stays Off (R422). -/
def failDomain (me : LaneId) (d : Domain) (step : Nat) (L : LaneSt) : LaneSt :=
  let lost := neededDomains.contains d
  let ts := match L.pow.waking with
    | some w => w.tids
    | none => []
  let p := L.pow
  let L := { L with pow := { p with
    wakeFailed := p.wakeFailed ||| BitVec.ofNat 8 (2 ^ d.num), failStep := BitVec.ofNat 2 step, failDomain := BitVec.ofNat 3 d.num,
    waking := p.waking.bind fun w =>
      let ds := w.domains.filter (· != d)
      if lost || ds.isEmpty then none else some { w with domains := ds, tids := [] } } }
  let L := setDom d .off (loseDomain me d L)
  let L := postWakeFail me d step lost L
  if lost then goFatal me 0x63 d.num 0 L
  else
    let L := lostDomain me d (report me 0x63 d.num 0 L)
    let L := wakeDone me ts (statusRes stTimeout (laneDomain me d)) L
    if L.running then decideState me L else L

/-- The logic step: a domain whose save-list words arrive poisoned is left Off, and the others wake. -/
def wakeLogic (me : LaneId) (w : Waking) (L : LaneSt) : LaneSt :=
  let L := (w.domains.filter fun d => L.dom d == .off).foldl (readSave me) L
  let bad := w.domains.filter fun d => L.dom d == .off && savePoisoned me d L
  let L := bad.foldl (fun L d => failDomain me d 3 L) L
  match L.pow.waking with
  | some w => wakeFinish me w L
  | none => if L.start.fa then L else wakeWaiting me L

/-- WAKE_STEP_READY. -/
def wakeStep (me : LaneId) (L : LaneSt) : LaneSt :=
  match L.pow.waking with
  | none => L
  | some w =>
    if 3 ≤ w.step then wakeLogic me w L
    else { L with pow := { L.pow with waking := some { w with step := stepFrom w.domains L (w.step + 1) } } }

def execWakeStepReady (l : LaneId) (s : State) : Out := onLaneIf l LaneSt.powered (wakeStep l) s

/-- WAKE_STEP_TIMEOUT: a failed oscillator step leaves every domain of the wake Off, and is a loss of the clock. -/
def wakeTimeout (me : LaneId) (d : Domain) (L : LaneSt) : LaneSt :=
  match L.pow.waking with
  | none => L
  | some w =>
    if w.step = 1 then
      let left := fun (m : Byte) (x : Domain) => m ||| BitVec.ofNat 8 (2 ^ x.num)
      let L := { L with pow := { L.pow with waking := none, wakeFailed := w.domains.foldl left L.pow.wakeFailed, failStep := 1,
                                            failDomain := BitVec.ofNat 3 d.num } }
      let L := w.domains.foldl (fun L x => setDom x .off (loseDomain me x L)) L
      goFatal me 0x62 0 0 (postWakeFail me d 1 true L)
    else if w.domains.contains d then
      let L := failDomain me d w.step L
      if L.start.fa then L else wakeWaiting me L
    else L

def execWakeStepTimeout (l : LaneId) (d : Domain) (s : State) : Out := onLaneIf l LaneSt.powered (wakeTimeout l d) s

/-! ## POWER_WAKE (11 R365) -/

/-- The block of Table 11-12: lanes and domains, with a TARGET of at most `t`. -/
def powerBlock (blk : List Byte) (t : Nat) : Bool :=
  blk.length == 4 && (byteAt blk 0).toNat < 8 && byteAt blk 0 != 0 && !(byteAt blk 1).getLsbD 0 && (byteAt blk 2).toNat ≤ t && zerosAt blk 3 1

def opPowerWake (me : LaneId) (tid : Nat) (_ : Sender) (blk : List Byte) (L : LaneSt) : LaneSt × Option LaneRes :=
  checked [(powerBlock blk 0, stBadParam)] L
    (if (byteAt blk 0).getLsbD me.num then (wakeDomains me (Domain.ofMask (byteAt blk 1)) [tid] L, none) else (L, some okRes))

def execPowerWake (c : Ctx) (blk : List Byte) (s : State) : Out := runOp 0x0A02 c blk (opPowerWake c.lane c.tid c.sender blk) s

/-- The wake decoder of the link interfaces: a numbered POWER_WAKE reaches a lane whose PD_CPU sleeps. -/
def wakeRelayed (me : LaneId) (m : ReplMsg) (L : LaneSt) : LaneSt :=
  if m.pkt.opcode == 0x0A02 && m.rn.isSome && m.origin != me && powerBlock m.pkt.block 0 && (byteAt m.pkt.block 0).getLsbD me.num then
    if m.oseq < L.eng.numbered.get m.origin then L
    else
      let L := { L with eng := { L.eng with numbered := L.eng.numbered.set m.origin (m.oseq + 1) } }
      let t := newTask L m.origin m.pkt m.priv false (Tri.tab (· == me)) none m.rn
      wakeDomains me (Domain.ofMask (byteAt m.pkt.block 1)) [t.tid] (pushTask { t with started := true, waiting := false } L)
  else L

/-- REPLICATED_PACKET (01 R40). -/
def execReplicatedPacket (l : LaneId) (m : ReplMsg) (s : State) : Out :=
  onLaneIf l LaneSt.alive (fun L => if L.running then replicated l m L else wakeRelayed l m L) s

/-! ## POWER_SLEEP (R419, R420; 11 R364) -/

/-- Motion is enabled, and the command names a domain that a winding needs on a lane that has one. -/
def sleepMoves (blk : List Byte) (L : LaneSt) : Bool :=
  L.mot.enabled && (Domain.ofMask (byteAt blk 1)).any (fun d => d != .flock && d != .host)
    && LaneId.all.any fun j => (byteAt blk 0).getLsbD j.num && L.host.run.hasWinding j

def rungOf (n : Nat) : Rung := if n = 0 then .onStopped else if n = 1 then .retention else .off

/-- The lane that received the command of a task. -/
def LaneSt.originOf (me : LaneId) (L : LaneSt) (tid : Nat) : LaneId := match L.task tid with
  | some t => t.origin
  | none => me

/-- The coordinator ends the command: every lane has agreed, or the named one has failed it. -/
def closeSleep (me : LaneId) (tid : Option Nat) (bad : Option (LaneId × Option LaneRes)) (L : LaneSt) : LaneSt :=
  match tid with
  | none => L
  | some t =>
    let res := fun l => match bad with
      | some (j, r) => if l = j then r else some okRes
      | none => some okRes
    closeTask me t (updTask t (fun k => { k with results := Tri.tab fun l => if k.part.get l then res l else none,
                                                 part := match bad with
                                                   | some (j, _) => k.part.set j true
                                                   | none => k.part }) L)

/-- The domains that a handshake stopped return to On. -/
def sleepBack (me : LaneId) (h : Handshake) (L : LaneSt) : LaneSt :=
  let cpu := h.stopped.contains .cpu
  let L := h.stopped.foldl (fun L d => if L.dom d == .onStopped then setDom d .on L else L) { L with pow := { L.pow with shake := none } }
  let L := if cpu && L.running then postLatches me L else L
  let L := if L.running then hostBack me L else L
  let back := L.pow.plannedSleep && neededDomains.all fun d => L.dom d == .on
  let L := if back then { L with pow := { L.pow with plannedSleep := false }, eng := { L.eng with rejoin := some 0 } } else L
  wakeWaiting me L

/-- The domains move to TARGET, and a wake source that came meanwhile wakes them (Table 13-11). -/
def sleepEnter (me : LaneId) (h : Handshake) (L : LaneSt) : LaneSt :=
  wakeWaiting me (h.domains.foldl (enterRung me h.target) { L with pow := { L.pow with shake := none } })

/-- Every named lane has agreed. -/
def allAgree (h : Handshake) : Bool := LaneId.all.all fun l => !h.lanes.get l || h.answers.get l == some .agree

/-- A named lane that was lost after it agreed. -/
def sleepLost (me : LaneId) (h : Handshake) (L : LaneSt) : Option LaneId :=
  me.others.find? fun l => h.lanes.get l && (L.eng.down.get l || L.eng.silent.get l)

/-- The domains that the coordinator keeps On until the commit: PD_CPU decides, and PD_HOST holds the completion, which is released before
PD_HOST leaves On (11 R364; log entry 38). -/
def decisive (d : Domain) : Bool := d == .cpu || d == .host

/-- The completion of the command is not released yet: an earlier command of its flow is unfinished (09 R312). -/
def sleepHeld (me : LaneId) (h : Handshake) (L : LaneSt) : Bool :=
  h.domains.contains .host && (h.tid.bind L.task).isSome

/-- The commit on the coordinator: its own domains move once the completion is released. -/
def sleepCommitted (me : LaneId) (h : Handshake) (L : LaneSt) : LaneSt :=
  if !h.lanes.get me then wakeWaiting me { L with pow := { L.pow with shake := none } }
  else if sleepHeld me h L then { L with pow := { L.pow with shake := some { h with committed := true } } }
  else sleepEnter me h (stopClocks h.domains (drainAll me L))

/-- The coordinator decides: roll back at the first refusal or the loss of a named lane, which gives TIMEOUT, commit when every named lane
has agreed. -/
def sleepDecide (me : LaneId) (L : LaneSt) : LaneSt :=
  match L.pow.shake with
  | none => L
  | some h =>
    if h.coordinator != me then L
    else if h.committed then sleepCommitted me h L
    else match LaneId.all.findSome? fun l => match h.answers.get l with
      | some (.refuse d _) => some (l, d)
      | _ => none with
    | some (l, d) =>
      let L := sleepBack me h (send .sleepRollback L)
      closeSleep me h.tid (some (l, some (statusRes stRefusedSleep (laneDomain l d)))) L
    | none =>
      if !allAgree h then L
      else match sleepLost me h L with
      | some l => closeSleep me h.tid (some (l, none)) (sleepBack me h (send .sleepRollback L))
      | none => sleepCommitted me h (closeSleep me h.tid none (send .sleepCommit L))

/-- A commit that waits for the release of its completion is looked at again. -/
def sleepTurn (me : LaneId) (L : LaneSt) : LaneSt :=
  if L.pow.shake.any (·.committed) then sleepDecide me L else L

/-- An answer reaches the coordinator. -/
def noteSleep (me from_ : LaneId) (a : SleepAns) (L : LaneSt) : LaneSt :=
  match L.pow.shake with
  | some h =>
    if h.coordinator = me && h.lanes.get from_ && (h.answers.get from_).isNone then
      sleepDecide me { L with pow := { L.pow with shake := some { h with answers := h.answers.set from_ (some a) } } }
    else L
  | none => L

/-- The prepare phase on a named lane: where nothing refuses, its work is drained and its clocks stop, on the coordinator but for those of
`decisive` domains. -/
def prepareSleep (me : LaneId) (h : Handshake) (tid : Nat) (L : LaneSt) : LaneSt :=
  let a := sleepCheck me tid h.domains L
  let L := match a with
    | .refuse d r => noteRefusal d r L
    | .agree => L
  let on := h.domains.filter fun d => L.dom d == .on
  if h.coordinator = me then
    match a with
    | .refuse _ _ => noteSleep me me a { L with pow := { L.pow with shake := some h } }
    | .agree =>
      let L := planSleep me h.domains (drainAll me { L with pow := { L.pow with shake := some { h with stopped := on } } })
      noteSleep me me a (stopClocks (h.domains.filter fun d => !decisive d) L)
  else
    let L := send (.sleepAns h.coordinator a) L
    match a with
    | .refuse _ _ => dropTask tid L
    | .agree => stopDomains me h.domains { L with pow := { L.pow with shake := some { h with stopped := on } } }

def opPowerSleep (me : LaneId) (tid : Nat) (_ : Sender) (blk : List Byte) (L : LaneSt) : LaneSt × Option LaneRes :=
  let lanes : Tri Bool := Tri.tab fun l => (byteAt blk 0).getLsbD l.num
  let co := L.originOf me tid
  let h : Handshake := { lanes := lanes, domains := Domain.ofMask (byteAt blk 1), target := rungOf (byteAt blk 2).toNat, stopped := [],
                         coordinator := co, answers := ⟨none, none, none⟩, tid := some tid }
  checked [(powerBlock blk 2 && byteAt blk 1 != 0, stBadParam), (!sleepMoves blk L, stNotInState)] L
    (if lanes.get me then (prepareSleep me h tid L, none)
     else if co = me then ({ L with pow := { L.pow with shake := some h } }, none)
     else (L, some okRes))

def execPowerSleep (c : Ctx) (blk : List Byte) (s : State) : Out := runOp 0x0A01 c blk (opPowerSleep c.lane c.tid c.sender blk) s

/-- SLEEP_ANSWER. -/
def execSleepAnswer (l : LaneId) (from_ : LaneId) (ans : SleepAns) (s : State) : Out :=
  onLaneIf l LaneSt.running (fun L => if from_ = l then L else noteSleep l from_ ans L) s

/-- SLEEP_ANSWER_TIMEOUT: a lane that was lost gives TIMEOUT (01 R41), any other silent lane refuses with NO_ANSWER. -/
def sleepSilent (me from_ : LaneId) (L : LaneSt) : LaneSt :=
  match L.pow.shake with
  | some h =>
    if h.coordinator = me && h.lanes.get from_ && (h.answers.get from_).isNone && from_ != me then
      let lost := L.eng.down.get from_ || L.eng.silent.get from_ || !L.eng.healthy.get from_
      let L := send .sleepRollback L
      let d := h.domains.headD .aon
      let L := if lost then L else noteRefusal d 10 L
      let L := sleepBack me h L
      closeSleep me h.tid (some (from_, if lost then none else some (statusRes stRefusedSleep (laneDomain from_ d)))) L
    else L
  | none => L

def execSleepAnswerTimeout (l : LaneId) (from_ : LaneId) (s : State) : Out := onLaneIf l LaneSt.running (sleepSilent l from_) s

/-- Another lane's part in a handshake ends. -/
def sleepEnds (me : LaneId) (f : Handshake → LaneSt → LaneSt) (L : LaneSt) : LaneSt :=
  match L.pow.shake with
  | some h =>
    if h.coordinator = me then L
    else f h (match h.tid with
      | some t => dropTask t L
      | none => L)
  | none => L

/-- SLEEP_COMMIT_MESSAGE. -/
def execSleepCommitMessage (l : LaneId) (s : State) : Out := onLaneIf l LaneSt.alive (sleepEnds l (sleepEnter l)) s
/-- SLEEP_ROLLBACK_MESSAGE. -/
def execSleepRollbackMessage (l : LaneId) (s : State) : Out := onLaneIf l LaneSt.alive (sleepEnds l (sleepBack l)) s
/-- SLEEP_SELF_ROLLBACK: after 1 ms with neither message. -/
def execSleepSelfRollback (l : LaneId) (s : State) : Out := onLaneIf l LaneSt.alive (sleepEnds l (sleepBack l)) s

/-! ## Wake sources (R423) -/

/-- Is a wake source enabled? -/
def wakeEnabled (n : Nat) (L : LaneSt) : Bool := (L.host.run.item Item.wakeSrc).getLsbD n

/-- The domain of the coordinator that a wake source finds in the prepare phase: named, and not yet on its way to TARGET. -/
def preparing (me : LaneId) (ds : List Domain) (L : LaneSt) : Option Domain :=
  L.pow.shake.bind fun h =>
    if h.coordinator == me && !h.committed && h.answers.get me == some .agree then ds.find? h.stopped.contains else none

/-- A domain of the coordinator refuses after all, with WAKE_PENDING (Table 13-11). -/
def refuseLate (me : LaneId) (d : Domain) (L : LaneSt) : LaneSt :=
  match L.pow.shake with
  | some h =>
    sleepDecide me (noteRefusal d 9 { L with pow := { L.pow with shake := some { h with answers := h.answers.set me (some (.refuse d 9)) } } })
  | none => L

/-- An enabled source wakes its domains. -/
def wakeBy (me : LaneId) (n : Nat) (ds : List Domain) (L : LaneSt) : LaneSt :=
  if !(L.powered && !L.start.inReset && L.start.bist.isNone && wakeEnabled n L) then L
  else
    let L := match preparing me ds L with
      | some d => refuseLate me d L
      | none => L
    if ds.any fun d => L.dom d != .on then wakeDomains me ds [] L else L

/-- HCS_N_WAKE. -/
def execHcsNWake (l : LaneId) (s : State) : Out := onLane l (fun L => wakeBy l 1 [.cpu, .host] (pinEdge l 0x94 L)) s

/-- RXD_ACTIVITY, on a lane that has the ball of the channel (10 R334). -/
def execRxdActivity (l : LaneId) (ch : Channel) (s : State) : Out :=
  onLaneIf l (fun _ => receives l ch)
    (fun L => wakeBy l 2 [.cpu, .flock] (pinEdge l (match ch with
      | .A => 0x95 | .B => 0x96) L)) s

/-- STO_N_RISING (02 R80): the gates stay off. -/
def execStoNRising (l : LaneId) (s : State) : Out :=
  onLane l (fun L => wakeBy l 3 [.cpu, .gate] (pinEdge l 0x93 { L with gate := { L.gate with stoHigh := true } })) s

/-- A shutdown self-test is under way on some lane of the device. -/
def testsRun (me : LaneId) (peer : LaneId → LaneSt) (L : LaneSt) : Bool :=
  L.start.phase == .shutdownTest || me.others.any fun j => (peer j).start.supplied && (peer j).start.phase == .shutdownTest

/-- WAKE_RISING: it ends a key-off delay, abandons a self-test, and starts a lane that is shutting down or powered down again, or that is left
out of the shutdown of the others (R430). -/
def wakeRising (me : LaneId) (peer : LaneId → LaneSt) (L : LaneSt) : LaneSt :=
  let L := pinEdge me 0x90 { L with start := { L.start with wakePin := true, keyoff := false, keyoffDue := false } }
  let L := abandonTest 2 L
  if L.start.supplied && (L.shut || L.start.shutting.isSome || testsRun me peer L) then { L with start := { L.start with wakeCold := true } }
  else wakeBy me 0 (Domain.all.filter (· != .aon)) L

def execWakeRising (l : LaneId) (s : State) : Out := onLane l (wakeRising l s.lane) s

/-- WAKE_FALLING: the key-off delay runs. -/
def wakeFalling (me : LaneId) (L : LaneSt) : LaneSt :=
  giveBackBoot (pinEdge me 0x91 { L with start := { L.start with wakePin := false, keyoff := true } })

def execWakeFalling (l : LaneId) (s : State) : Out := onLane l (wakeFalling l) s

end Sys2Proof.Machine
end

