-- ==== Sys2Proof/Machine/Start.lean ====
section
/-! DEFINITION. Start-up (13 R393–R408; 01 R27; 11 R371): the supply and the Colt stage, the firmware start, the election, the
hand-over message and restarts.
Log entries: 32, 34, 36, 37, 42, 43, 45, 59 (DEDUCED); 3, 8, 35 (DESIGN CHOICE). -/

namespace Sys2Proof.Machine

/-! ## Supply and cold start (R393, R425) -/

/-- The rising supply leaves VIN below its warning level (R424). -/
def belowWarning (mv : Half) : Bool := mv.toNat < 4550

/-- A cold start. The core regulator and the crystal start. -/
def coldStart (kind : BitVec 3) (pmbus : Bool) (mv : Half) (K : LaneSt) : LaneSt :=
  { K with pow := { op := 2, opRestore := 2, vin := mv, vinWarn := belowWarning mv, corePmbus := pmbus },
           start := { K.start with supplied := true, vinGood := true, startKind := kind, cold := true, elects := true, phase := .cold,
                                   inReset := true } }

/-- What PD_AON keeps when a powered-down lane wakes: its time, the FA record, the save RAM, the latches and its Hall input. -/
def wokenLane (L : LaneSt) : LaneSt :=
  { coldLane L with time := { localT := L.time.localT, clk10 := L.time.clk10, free := L.time.free },
                    int := { L.int.kept (fun m => m < 2 || m == 7) with
                      stamps := L.int.stamps, faSaved := keptFa L, faCount := L.int.faCount, aonWord := L.int.aonWord },
                    ev := { latches := L.ev.latches },
                    start := { (coldLane L).start with coltHall := L.start.coltHall, said := L.start.said } }

/-- VIN_GOOD: a first supply, a supply that returns above the reset level, or the cold start of a lane that a rise of WAKE starts again: one that
is shut down, or that the shutdown of the others left out (R430). -/
def vinGood (cause : ColdCause) (pmbus : Bool) (mv : Half) (L : LaneSt) : LaneSt :=
  match cause with
  | .supply =>
    if !L.start.supplied then coldStart kindSupply pmbus mv (coldLane L)
    else if L.start.vinGood then L
    else { L with start := { L.start with vinGood := true }, pow := { L.pow with vin := mv, vinWarn := belowWarning mv } }
  | .wake =>
    if L.start.supplied && L.start.wakeCold && L.start.bist.isNone then
      let K := coldStart kindWake pmbus mv (wokenLane L)
      if L.alive then send .laneDown { K with herdTx := L.herdTx } else K
    else L

def execVinGood (l : LaneId) (cause : ColdCause) (pmbus : Bool) (mv : Half) (s : State) : Out := onLane l (vinGood cause pmbus mv) s

/-! ## The Colt stage (R395, R396) -/

/-- The Colt record with the valid CHECK and the higher generation: it is valid on its own, whatever its image is. -/
def chosenColt (x : StartEng) : Option ColtRec :=
  match (x.imgA.map (·.colt)).filter (·.ok), (x.imgB.map (·.colt)).filter (·.ok) with
  | some a, some b => some (if a.gen.toNat < b.gen.toNat then b else a)
  | some a, none => some a
  | none, some b => some b
  | none, none => none

/-- CORE_SUPPLY_READY: the core is at the voltage of OP2, and the record is read from NVM and applied; `nvm` names the words of it that do not
decode clean. The PMBus path's voltage is not known
before its first VOUT_COMMAND. -/
def coreReady (me : LaneId) (nvm : List (Nat × EccOutcome)) (L : LaneSt) : LaneSt :=
  let x := L.start
  if !(x.supplied && x.vinGood && !x.coreReady && !x.testEn && x.phase == .cold) then L
  else
    let poisoned := nvm.any fun w => foundBad L 1 w.1 w.2
    let L := nvm.foldl (fun L w => countArray 1 w.1 w.2 L) L
    let r := chosenColt x
    let v := if L.pow.corePmbus then Config.supplyReading L.time.free else BitVec.ofNat 16 (opMv 2)
    coltBegin me { L with
      start := { x with coreReady := true, phase := .colt, coltRec := r, coltPoison := poisoned, coltBad := poisoned || r.isNone },
      pow := { L.pow with pd := allOn, vcore := v }, time := { L.time with free := L.time.free + 1 } }

def execCoreSupplyReady (l : LaneId) (nvm : List (Nat × EccOutcome)) (s : State) : Out := onLane l (coreReady l nvm) s

/-- HALL_STATE_ACCEPTED: by the Hall block of the running lane, and by the always-on hardware. -/
def hallAccepted (me : LaneId) (h : BitVec 3) (t10 : Nat) (L : LaneSt) : LaneSt :=
  let L := if L.converts then (if L.hasHall me then hallAccept me h t10 L else L)
    else if L.dom .ana == .on then { L with sen := { L.sen with hallState := h } } else L
  coltHallState me h t10 L

def execHallStateAccepted (l : LaneId) (hall : BitVec 3) (t10 : Nat) (s : State) : Out :=
  onLaneIf l (fun L => L.start.supplied) (hallAccepted l hall t10) s

/-- COLT_SLOW_TIMEOUT: no edge has arrived for t_s. -/
def coltSlow (me : LaneId) (L : LaneSt) : LaneSt :=
  if L.start.coltOn && L.start.coltFast then coltApply me { L with start := { L.start with coltFast := false, coltDt := none } } else L

def execColtSlowTimeout (l : LaneId) (s : State) : Out := onLane l (coltSlow l) s

/-- COLT_HALL_VALID_HOLD: a valid state has held for 1 ms. -/
def coltHallHeld (me : LaneId) (L : LaneSt) : LaneSt :=
  if L.start.coltOn && L.start.coltNoHall && coltHallOk L then coltApply me { L with start := { L.start with coltNoHall := false } } else L

def execColtHallValidHold (l : LaneId) (s : State) : Out := onLane l (coltHallHeld l) s

/-- PRECHARGE_END (07 R247): the enable goes on, or the Colt action begins. A bootstrap still low ends it. -/
def prechargeEnd (me : LaneId) (charged : Bool) (L : LaneSt) : LaneSt :=
  if L.mot.enable == .precharge then
    let L := { L with gate := { L.gate with demand := .allOff } }
    if charged then { L with mot := { L.mot with enable := if L.mot.fly then .presets else .release } }
    else
      bridgeReport me 0x45 3 0x43
        (cancelEnable me { L with gate := { L.gate with prechargeFail := true, pendPre := true } })
  else if L.start.coltOn && L.gate.demand == .precharge then coltCharged me charged L
  else L

def execPrechargeEnd (l : LaneId) (charged : Bool) (s : State) : Out := onLaneIf l LaneSt.powered (prechargeEnd l charged) s

/-- BACK_ABOVE_UVLO (07 R243, R245): VGD, or the bootstrap of a leg. In the Colt stage the hardware precharges and applies the action
again; a precharge that failed while VGD was low does not stand in its way. -/
def backAbove (me : LaneId) (supply : Option Leg) (L : LaneSt) : LaneSt :=
  let g := match supply with
    | none => { L.gate with vgdUvlo := false }
    | some leg => { L.gate with bootUvlo := L.gate.bootUvlo &&& ~~~leg.bit }
  if L.start.coltOn then
    coltApply me { L with gate := { g with demand := .allOff },
                          start := { L.start with coltPreFail := L.start.coltPreFail && supply.isSome } }
  else { L with gate := g }

def execBackAboveUvlo (l : LaneId) (supply : Option Leg) (s : State) : Out := onLaneIf l (LaneSt.gateLive l) (backAbove l supply) s

/-! ## The firmware start (R399, Table 13-3) -/

/-- A lane whose firmware may start now: out of a reset, after a fatal fault that a restart can end, or for START_FULL. A lane that
failed its start tests, or lost its clock in the Colt stage, stays as it is (R395, R400). -/
def mayStart (L : LaneSt) : Bool :=
  let x := L.start
  L.powered && x.vinGood && !x.testEn && x.bist.isNone
  && (if x.fa then x.faSrc != 0x27 && !(x.faSrc == 0x62 && x.phase == .colt)
      else x.inReset || (x.phase == .fwStart && x.startKind == kindFull))

/-- The FA record that PD_AON keeps is latched again (12 R388): it is in handling from that latch (R386), and its event is posted (R387). -/
def relatch (me : LaneId) (L : LaneSt) : LaneSt :=
  match L.int.faSaved, L.int.fa with
  | some r, none =>
    let r' := { r with handled := false }
    postFault me r' { L with int := { L.int with fa := some r' }, start := { L.start with prevFa := r.source } }
  | some r, some _ => { L with start := { L.start with prevFa := r.source } }
  | none, _ => L

/-- Step 1: the boot counter is read and written, and what waited for firmware is reported: the latches, gate faults of the Colt stage
(07 R245), and a poisoned Colt record. -/
def fwBegin (me : LaneId) (L : LaneSt) : LaneSt :=
  let x := L.start
  let fresh := x.inReset
  let found := x.bootKept
  let L := { L with start := { x.writeBoot (BitVec.ofNat 8 (min 3 (found.toNat + 1))) with
    inReset := false, phase := .fwStart, bootFound := found, bootRec := BitVec.ofNat 8 (min 3 (found.toNat + 1)), failStep := BitVec.ofNat 8 x.bootStep, bootStep := 1, minReason := 0, fullTime := 0, coltEffort := 0,
    imageFromLane := false, fallback := false, handover := false } }
  let L := if fresh then relatch me (postLatches me L) else L
  let L := if fresh && x.cold && L.pow.corePmbus then pmbusSend [0x01, 0x80] L else L
  let L := match L.gate.pendSc, fresh with
    | some src, true => postGate me 0x40 (report me src (legUnit L.gate.scLegs) 0 L)
    | _, _ => L
  let L := if fresh then L.gate.pendUvlo.foldl (fun L p => postGate me 0x41 (report me p.1 p.2 0 L)) L else L
  let L := if L.gate.pendHs && fresh then postGate me 0x42 (report me 0x44 (legUnit L.gate.hsFail) 0 L) else L
  if x.coltPoison then
    reportPoison me 0x0F 0 0 { L with start := { L.start with coltPoison := false }, eng := { L.eng with ucRaised := true } }
  else L

/-- A start test fails: the lane is FA, writes no event record (10 R327), and keeps its Colt action (R399). -/
def failStart (me : LaneId) (step : Nat) (detail : Option Word) (L : LaneSt) : LaneSt :=
  let L := { L with start := { L.start with bootStep := step, elects := false, fa := true, faSrc := 0x27 } }
  let L := match detail with
    | some d => reportAt me 0x27 (location 0x27 0 0xFF) d 0 L
    | none => report me 0x27 0 0xFF L
  send .laneDown { L with int := { L.int with faSaved := L.int.fa },
                          ev := { L.ev with hirq := false, irqDue := false, holdRunning := 0 } }

/-- The place of the valid image with the higher generation. -/
def StartEng.newestImage (x : StartEng) : Channel := match x.goodA, x.goodB with
  | some a, some b => if a.gen.toNat < b.gen.toNat then .B else .A
  | none, some _ => .B
  | _, _ => .A

/-- The image to load, and whether the one of higher generation was passed over: a poisoned word makes that image invalid (12 Table
12-2), and leaves its Colt record as it is. -/
def chooseImage (me : LaneId) (poisoned : Bool) (L : LaneSt) : LaneSt :=
  let x := L.start
  let better := x.newestImage
  if poisoned && (x.goodA.isSome || x.goodB.isSome) then
    let spoil := fun (i : Image) => { i with valid := false }
    let x := match better with
      | .A => { x with imgA := x.imgA.map spoil, imgInUse := .B }
      | .B => { x with imgB := x.imgB.map spoil, imgInUse := .A }
    reportPoison me 0x0E 0 0 { L with start := { x with fallback := x.image.isSome }, eng := { L.eng with ucRaised := true } }
  else { L with start := { x with imgInUse := better } }

/-- Step 6: configuration, and what NVM holds of the last self-test and of the overdue count (R432). The Mule budget is refilled at a
cold start and by START_FULL (02 R70). -/
def loadConfig (c : Conf) (L : LaneSt) : LaneSt :=
  let x := L.start
  let full := x.cold || x.startKind == kindFull
  { L with host := { L.host with run := c, committed := c },
           safe := if full then { L.safe with muleRemain := BitVec.ofNat 16 (100 * c.nat Item.muleTime), muleUs := 0 } else L.safe,
           start := { x with bootStep := 6 } }

/-- The overdue count, which every cold start reads and counts on, whichever steps it reaches (R432). -/
def readOverdue (me : LaneId) (L : LaneSt) : LaneSt :=
  let x := L.start
  if !x.cold || x.startKind == kindFull then L
  else
    let n := x.ovdCount
    let L := { L with start := { x with ovdRead := n, ovdCount := satInc n, overdue := n != 0 } }
    if 2 ≤ n.toNat then
      arrive me 0x85 clsUc (payBytes [n, 0, 0, 0, 0, 0, 0, 0]) (report me 0x64 0 0 { L with eng := { L.eng with ucRaised := true } })
    else L

/-- The result record of a self-test (Table 13-13). -/
def TestResult.bytes (r : TestResult) : List Byte :=
  let head := [BitVec.ofNat 8 (r.status.toNat + 4 * r.trigger.toNat + 16 * r.incomplete.toNat), r.tested, r.failed, r.ovd]
    ++ le32 r.time ++ le32 r.location ++ le16 r.duration ++ zeros 2
  let doms := ((List.range 8).map fun n => let d := r.domains.getD n (2, 0, 0)
    [d.1, d.2.1] ++ le16 d.2.2).flatten
  let body := head ++ doms ++ zeros 12
  body ++ le32 (crc32c body)

/-- Event 0x84. -/
def postTest (me : LaneId) (L : LaneSt) : LaneSt := arrive me 0x84 clsInfo (payBytes (L.start.testResult.bytes.take 8)) L

/-- What a start or a self-test measures is free: `n` draws. -/
def drawBytes (n : Nat) (L : LaneSt) : List Byte × LaneSt :=
  ((List.range n).map fun i => Config.testByte (L.time.free + i), { L with time := { L.time with free := L.time.free + n } })

/-- The Hall block takes the state that has held through its filter. -/
def firstHall (me : LaneId) (L : LaneSt) : LaneSt :=
  match L.start.coltHall with
  | some h => if L.hasHall me && !L.sen.hallSeen then hallAccept me h L.time.clk10 L else L
  | none => L

/-- The current that the announcement carries (R401): the mean of the conducting current over the last 256 periods of the Colt PWM, 0 without
HOLD_EFFORT. The firmware start is one command, so that an action still
in its precharge counts as in force by the time of the announcement. -/
def announceCurrent (me : LaneId) (L : LaneSt) : Word × LaneSt :=
  if L.start.coltOn && coltNow me L == .holdEffort then
    let n := L.time.free
    let sum := (List.range 256).foldl (fun (t : Int) k => t + (Config.coltCurrent me (n + k)).toInt) 0
    (satQ (roundDiv sum 256), { L with time := { L.time with free := n + 256 } })
  else (0, L)

/-- Step 7: the lane announces itself (01 R27), and an election is open on it. -/
def announce (me : LaneId) (L : LaneSt) : LaneSt :=
  let (cur, L) := announceCurrent me L
  let a : Announced := { gen := L.imageGen, minimal := L.minimal, current := cur }
  send (.announce a.gen a.minimal a.current)
    { L with eng := { L.eng with announced := L.eng.announced.set me (some a), electionOpen := true, rejoin := none } }

/-- Another lane holds a role (R408). -/
def roleHeld (me : LaneId) (peer : LaneId → LaneSt) : Bool :=
  me.others.any fun j => (peer j).running && (peer j).eng.role != .none

/-- A lane that announces while roles are held rejoins (01 R36), and its Colt action ends; otherwise it takes part in an election. -/
def joinDevice (me : LaneId) (peer : LaneId → LaneSt) (L : LaneSt) : LaneSt :=
  let L := { L with start := { L.start with said := true } }
  if roleHeld me peer then
    let L := coltEnd L
    { L with start := { L.start with elects := false }, eng := { L.eng with rejoin := if L.minimal then none else some 0 } }
  else if L.start.elects then announce me L
  else { L with eng := { L.eng with rejoin := if L.minimal then none else some 0 } }

/-- Minimal mode (R406): steps 4 to 6 are skipped. -/
def enterMinimal (me : LaneId) (reason : Byte) (peer : LaneId → LaneSt) (L : LaneSt) : LaneSt :=
  let L := postBoot me { L with start := { L.start with phase := .minimal, minReason := reason, bootStep := 0 } }
  joinDevice me peer L

/-- DETAIL_A of a lane whose last self-test failed (R433). -/
def failedMask (r : TestResult) : Word := 0x80000000#32 ||| r.failed.setWidth 32

/-- Steps 6 and 7. A lane whose last self-test failed goes FA, with a valid image or without (R433). -/
def fwLoad (me : LaneId) (i : FwIn) (peer : LaneId → LaneSt) (L : LaneSt) : LaneSt :=
  let (L, poisoned) := readBeats me 1 i.nvm L
  let old := L.int.poisoned.any fun q => q.1 == 1 && (Config.nvmImage q.2).val == (L.start.newestImage).num
  let L := chooseImage me (poisoned || old) L
  let im := L.start.image
  let L := readOverdue me (match im with
    | some im => loadConfig im.conf L
    | none => L)
  if L.start.testResult.status = 1 then failStart me 6 (some (failedMask L.start.testResult)) L
  else if im.isNone then enterMinimal me 2 peer L
  else
    let L := if L.start.cold && L.start.testResult.status != 3 && L.start.testResult.trigger != 2 then postTest me L else L
    let L := initFlock me false L
    joinDevice me peer (firstHall me { L with start := { L.start with bootStep := 7, phase := .announced } })

/-- Steps 2 to 5. -/
def fwTest (me : LaneId) (i : FwIn) (peer : LaneId → LaneSt) (L : LaneSt) : LaneSt :=
  let (bs, L) := drawBytes 32 L
  let L := { L with int := { L.int with checkerOk := i.checkerOk }, start := { L.start with startTests := bs } }
  if !i.checkerOk || !i.injectionOk then failStart me 4 none (readOverdue me L)
  else if !i.analogOk then failStart me 5 none (readOverdue me L)
  else fwLoad me i peer { L with mot := { L.mot with offA := i.offA, offB := i.offB } }

/-- The point after start: that of the image's configuration. With a PMIC, whose voltage is not known before, the move sends VOUT_COMMAND in
any case (R399 step 3). -/
def toStartPoint (me : LaneId) (L : LaneSt) : LaneSt :=
  let op := 1 + L.start.newestConf.nat Item.startOp
  if L.pow.vinWarn then L
  else if L.pow.corePmbus && L.pow.change.isNone then moveOp op none L
  else startChange me op none L

/-- FIRMWARE_START: the lane logic leaves reset and runs Table 13-3; a lane whose counter reads 3 enters minimal mode. -/
def firmwareStart (me : LaneId) (i : FwIn) (peer : LaneId → LaneSt) (L : LaneSt) : LaneSt :=
  if !mayStart L then L
  else
    let L := if L.start.fa then resetLane kindFa L else L
    let minimal := 3 ≤ L.start.bootKept.toNat
    let L := coltClocked me (fwBegin me L)
    let L := { L with start := { L.start with patchLevel := i.patchLevel } }
    let L := toStartPoint me L
    if minimal then enterMinimal me 1 peer (readOverdue me L) else fwTest me i peer L

def execFirmwareStart (l : LaneId) (i : FwIn) (s : State) : Out := onLane l (firmwareStart l i s.lane) s

/-! ## The election (01 R27, R401) -/

/-- ANNOUNCEMENT: a lane without a role holds it. An announcement that follows a closed election opens another, and a lane that waits
without a role announces itself again. -/
def announced (me from_ : LaneId) (a : Announced) (L : LaneSt) : LaneSt :=
  if from_ = me || L.eng.role != .none || L.eng.lead.isSome then L
  else if L.eng.electionOpen then { L with eng := { L.eng with announced := L.eng.announced.set from_ (some a) } }
  else
    let own := L.eng.announced.get me
    let mine := own.isSome && L.running && L.start.elects && (L.start.phase == .announced || L.minimal)
    let base : Tri (Option Announced) := ⟨none, none, none⟩
    let L := { L with eng := { L.eng with announced := base.set from_ (some a) } }
    if mine then announce me L else L

def execAnnouncement (l : LaneId) (from_ : LaneId) (gen : BitVec 24) (minimal : Bool) (current : Word) (s : State) : Out :=
  onLaneIf l (fun L => L.powered && !L.start.fa) (announced l from_ { gen := gen, minimal := minimal, current := current }) s

/-- The healthy set at the close: an L fault for each lane that is not in it. -/
def setHealthy (ms : List LaneId) (L : LaneSt) : LaneSt :=
  let L := { L with eng := { L.eng with healthy := Tri.tab fun l => ms.contains l, left := Tri.tab fun l => ms.contains l || L.eng.left.get l } }
  LaneId.all.foldl (fun L l =>
    if ms.contains l then endFaults (fun f => f.kind == .lane && f.lane == l) L else addFault { kind := .lane, lane := l } L) L

/-- A lane with a lower generation takes the configuration of the lane that holds the highest, and stores it. -/
def syncImage (me : LaneId) (ms : List LaneId) (peer : LaneId → LaneSt) (L : LaneSt) : LaneSt :=
  let genOf := L.eng.genOf
  let top := L.eng.topGen ms
  match ms.find? fun l => genOf l == top with
  | none => L
  | some j =>
    if genOf me = top || j = me then L
    else
      let c := match (peer j).start.image with
        | some i => i.conf
        | none => (peer j).host.committed
      let g := BitVec.ofNat 24 top
      let L := { L with host := { L.host with run := c, committed := c, storing := some { gen := g, conf := c, colt := coltOf me c g } },
                        start := { L.start.setUnused none with imageFromLane := true } }
      initFlock me true L

/-- The lanes that may take lead or standby. -/
def mayLead (c : Conf) (ms : List LaneId) : List LaneId := if c.t2 then ms.filter (· != .l2) else ms

/-- Event 0x14. -/
def postElection (me : LaneId) (L : LaneSt) : LaneSt :=
  arrive me 0x14 clsState (payBytes [BitVec.ofNat 8 L.eng.healthy.mask, 0, 0, 0, 0, 0, 0, 0]) L

/-- Roles at the close, on a lane that takes part. The lead sends HANDOVER, at once where no lane has a configuration to store (R401). -/
def takeRoles (me : LaneId) (ms : List LaneId) (L : LaneSt) : LaneSt :=
  match mayLead L.host.run ms with
  | [] => setAcceptMask me (postElection me (setHealthy ms L))
  | lead :: rest =>
    let standby := rest.head?
    let role := if me = lead then Role.lead else if standby = some me then .standby else .watch
    let L := setHealthy ms L
    let L := { L with eng := { L.eng with lead := some lead, standby := standby, role := role, leadSeen := lead == me },
                      safe := { L.safe with startOne := ms.length == 1 } }
    let L := postRole me 0 (postElection me (setAcceptMask me L))
    if me != lead then L
    else if ms.all fun l => L.eng.genOf l == L.eng.topGen ms then { send .handover L with start := { L.start with handover := true } }
    else { L with start := { L.start with handoverDue := true } }

/-- The election is part of a full start, where START items come into force (00 R11, R12): a lane that has kept running takes its stored
configuration now. -/
def reloadImage (L : LaneSt) : LaneSt :=
  match L.start.image with
  | some i => { L with host := { L.host with run := i.conf, committed := i.conf } }
  | none => L

/-- The lanes of the election align their local times to the lead's before they vote (00 R9). -/
def alignLead (me : LaneId) (ms : List LaneId) (peer : LaneId → LaneSt) (L : LaneSt) : LaneSt :=
  match L.eng.lead with
  | some l => if l = me || !ms.contains me then L else alignTime (peer l).time.localT L
  | none => L

/-- What the healthy lanes hold in common, at an election in which some member has kept running: the claim of a host, the counts of wrong keys
and the open transaction, which end at a reset of all lanes only (01 R54, R55; 09 R319), and the replication numbers (01 R40). The lanes
that started anew count their packets from 0. -/
def shareElection (me : LaneId) (ms : List LaneId) (peer : LaneId → LaneSt) (L : LaneSt) : LaneSt :=
  let ps := ms.map fun j => if j = me then L else peer j
  let counts := ps.findSome? fun P => if P.eng.claimCount.isEmpty then none else some (keysOf P L)
  { L with
    eng := { L.eng with claim := ps.findSome? (·.eng.claim), claimCount := counts.getD [],
                        nextRn := ps.foldl (fun n P => max n P.eng.nextRn) L.eng.nextRn,
                        numbered := Tri.tab fun j => if (peer j).start.phase == .announced then 0 else L.eng.numbered.get j },
    host := { L.host with trans := ps.findSome? (·.host.trans) } }

/-- The Mule budget at an election (02 R70): at a cold start and at START_FULL it is refilled, on a lane that has kept running too; after a
restart of all lanes it is the lowest of those the members kept. -/
def electionBudget (me : LaneId) (ms : List LaneId) (peer : LaneId → LaneSt) (L : LaneSt) : LaneSt :=
  let ps := ms.map fun j => if j = me then L else peer j
  let fresh := (ps.filter fun P => P.start.phase == .announced).all fun P => P.start.cold || P.start.startKind == kindFull
  if fresh then { L with safe := { L.safe with muleRemain := BitVec.ofNat 16 (100 * L.host.run.nat Item.muleTime), muleUs := 0 } }
  else { L with safe := { L.safe with muleRemain := BitVec.ofNat 16 (ps.foldl (fun m P => min m P.safe.muleRemain.toNat) L.safe.muleRemain.toNat) } }

/-- ELECTION_CLOSE. -/
def closeElection (me : LaneId) (peer : LaneId → LaneSt) (L : LaneSt) : LaneSt :=
  if !L.eng.electionOpen || (L.eng.announced.get me).isNone then L
  else
    let ms := L.eng.members
    let L := { L with eng := { L.eng with electionOpen := false } }
    if ms.isEmpty then
      let all := LaneId.all.filter fun l => (L.eng.announced.get l).isSome
      setAcceptMask me (postElection me (setHealthy all L))
    else if L.minimal then setHealthy ms L
    else
      let L := shareElection me ms peer (electionBudget me ms peer (syncImage me ms peer (initFlock me true (reloadImage L))))
      alignLead me ms peer (takeRoles me ms L)

def execElectionClose (l : LaneId) (s : State) : Out := onLaneIf l LaneSt.running (closeElection l s.lane) s

/-- HANDOVER: a lane of the election hands over at its next fast sample; on any other lane the link interfaces turn the gates off
(R397). -/
def handedOver (me from_ : LaneId) (L : LaneSt) : LaneSt :=
  if from_ = me || L.start.phase == .full then L
  else if L.running && L.start.phase == .announced && (L.eng.announced.get me).isSome && L.start.elects then
    { L with start := { L.start with handover := true } }
  else coltEnd { L with start := { L.start with elects := false } }

def execHandover (l : LaneId) (from_ : LaneId) (s : State) : Out := onLaneIf l LaneSt.powered (handedOver l from_) s

/-- RESTART_RECORD_WAIT (R408): with no record of a lane that holds a role, the Colt action is applied and the lane joins a new
election. -/
def recordWait (me : LaneId) (L : LaneSt) : LaneSt :=
  let x := L.start
  if x.testEn || x.cold || x.elects || x.startKind == kindFull || x.phase == .full || L.eng.role != .none || (x.fa && x.faSrc != 0x27) then L
  else
    let L := coltBegin me { L with start := { x with elects := !x.fa, coltReady := true } }
    if L.running && (x.phase == .announced || x.phase == .minimal) then announce me L else L

def execRestartRecordWait (l : LaneId) (s : State) : Out := onLaneIf l LaneSt.powered (recordWait l) s

/-! ## Opcodes -/

/-- START_FULL (11 R371): on a minimal lane; its firmware then starts again without a reset. -/
def opStartFull (_ : LaneId) (_ : Sender) (blk : List Byte) (L : LaneSt) : LaneSt × Option LaneRes :=
  checked [(noBlock blk, stBadParam), (L.minimal, stNotInState)] L (L, some okRes)

/-- The completion comes before the lane leaves minimal mode. -/
def leaveMinimal (L : LaneSt) : LaneSt :=
  let x := L.start
  { L with start := { x.writeBoot 0 with bootFound := 0, phase := .fwStart, startKind := kindFull, elects := true, minReason := 0,
                                         startClock := 0 },
           eng := { L.eng with electionOpen := false, announced := ⟨none, none, none⟩, lead := none, standby := none, role := .none } }

def startFull (c : Ctx) (blk : List Byte) (L : LaneSt) : LaneSt :=
  let go := noBlock blk && L.minimal
  let L := settle c.lane c.tid (opStartFull c.lane c.sender blk L)
  if go then leaveMinimal L else L

def execStartFull (c : Ctx) (blk : List Byte) (s : State) : Out := onLaneIf c.lane (canRun 0x0B01 c blk) (startFull c blk) s

/-- START_RESULTS. -/
def opStartResults (_ : LaneId) (_ : Sender) (blk : List Byte) (L : LaneSt) : LaneSt × Option LaneRes :=
  checked [(noBlock blk, stBadParam)] L
    (L, some (replyRes (bootRecord L ++ fitBytes 32 L.start.startTests ++ L.start.testResult.bytes)))

def execStartResults (c : Ctx) (blk : List Byte) (s : State) : Out := runOp 0x0B10 c blk (opStartResults c.lane c.sender blk) s

end Sys2Proof.Machine
end

