-- ==== Sys2Proof/Machine/Bist.lean ====
section
/-! DEFINITION. The shutdown self-test (13 R427–R433; 11 R370, R372): key-off, SHUTDOWN, START_BIST, and the tests of a lane.
Log entries: 41, 42 (DEDUCED). -/

namespace Sys2Proof.Machine

/-! ## The requests -/

/-- The gates go off as under LANE_STO, and the lane will test itself and power down. A lane whose firmware does not run has them turned off by
the hardware. -/
def beginShutdown (me : LaneId) (trigger : BitVec 2) (L : LaneSt) : LaneSt :=
  let L := if L.running then stoNow me 0x23 L else gatesOff L
  { L with start := { L.start with shutting := some trigger, keyoff := false, keyoffDue := false } }

/-- PD_AON of the lane can recognise key-off: the lane is powered and not in reset, FA or asleep as it may be (R400, R427). -/
def LaneSt.keyoffAlive (L : LaneSt) : Bool :=
  L.powered && !L.start.inReset && !L.start.testEn && L.start.bist.isNone && L.start.shutting.isNone

/-- A healthy lane whose WAKE and motion count: as this lane knows, and for one whose firmware does not run every lane that runs. -/
def LaneSt.counted (L : LaneSt) (j : LaneId) (P : LaneSt) : Bool := if L.running then L.eng.healthy.get j else P.running

/-- Key-off may be recognised (R427): WAKE low on every healthy lane, motion disabled, no SS1. -/
def keyoffMay (me : LaneId) (peer : LaneId → LaneSt) (L : LaneSt) : Bool :=
  !L.start.wakePin && !L.mot.enabled && L.safe.ss1.isNone && L.keyoffAlive
  && me.others.all fun j => !L.counted j (peer j)
      || (!(peer j).start.wakePin && (L.running || (!(peer j).mot.enabled && (peer j).safe.ss1.isNone)))

/-- Key-off is recognised on a lane whose WAKE has fallen. -/
def keyoffNow (me : LaneId) (peer : LaneId → LaneSt) (L : LaneSt) : Bool := L.start.keyoff && keyoffMay me peer L

/-- KEYOFF_DELAY_EXPIRY: while motion stays enabled or SS1 runs, key-off waits (R427). -/
def keyoffExpired (me : LaneId) (peer : LaneId → LaneSt) (L : LaneSt) : LaneSt :=
  if keyoffNow me peer L then beginShutdown me 1 L
  else { L with start := { L.start with keyoffDue := L.start.keyoff && !L.start.wakePin } }

def execKeyoffDelayExpiry (l : LaneId) (s : State) : Out := onLaneIf l LaneSt.keyoffAlive (keyoffExpired l s.lane) s

/-- A lane that is not healthy goes along with the key-off of the others, whatever its own WAKE: every lane does (R427). -/
def goesAlong (me : LaneId) (L : LaneSt) : Bool := L.keyoffAlive && !(L.running && L.eng.healthy.get me)

/-- A key-off that has waited begins once the delay of every healthy lane is over; a lane whose WAKE has never been high goes with the
others. -/
def keyoffWaited (me : LaneId) (peer : LaneId → LaneSt) (L : LaneSt) : LaneSt :=
  let waited := me.others.all fun j => !L.counted j (peer j) || !(peer j).start.keyoff || (peer j).start.keyoffDue
  let off := fun (j : LaneId) => (peer j).start.supplied && (peer j).start.shutting == some 1
  let begun := !L.start.keyoff && me.others.any fun j => L.eng.healthy.get j && off j
  if (keyoffMay me peer L && ((L.start.keyoffDue && waited) || (L.running && begun))) || (goesAlong me L && me.others.any off) then
    beginShutdown me 1 L
  else L

/-- SHUTDOWN: it completes once the gates are off, and the tests follow. -/
def opShutdown (me : LaneId) (_ : Sender) (blk : List Byte) (L : LaneSt) : LaneSt × Option LaneRes :=
  checked [(noBlock blk, stBadParam), (!L.mot.enabled && L.safe.ss1.isNone && L.start.shutting.isNone, stNotInState)] L
    (beginShutdown me 0 L, some okRes)

def execShutdown (c : Ctx) (blk : List Byte) (s : State) : Out := runOp 0x0B02 c blk (opShutdown c.lane c.sender blk) s

/-- Does a test or a shutdown of another command run on a lane (11 R370)? `rn` is one more than the replication number of this one. -/
def otherTest (rn : Nat) (P : LaneSt) : Bool :=
  P.start.shutting.isSome || ((P.start.bist.isSome || P.start.bistWait) && P.start.bistRn != rn)

/-- START_BIST (11 R370): the named lanes wait for their turn. -/
def opStartBist (me : LaneId) (peer : LaneId → LaneSt) (tid : Nat) (_ : Sender) (blk : List Byte) (L : LaneSt) : LaneSt × Option LaneRes :=
  let lanes := byteAt blk 0
  let x := L.start
  let rn := match (L.task tid).bind (·.rn) with
    | some n => n + 1
    | none => 0
  let st := { x with bistLanes := Tri.tab fun l => lanes.getLsbD l.num, bistRn := rn, bistWait := lanes.getLsbD me.num,
                     bistTid := if lanes.getLsbD me.num then some tid else none }
  checked [(blk.length == 4 && lanes != 0 && lanes.toNat < 8 && zerosAt blk 1 3, stBadParam),
    (minimalOk 0x0B03 L && !L.mot.enabled && (LaneId.all.all fun l => !lanes.getLsbD l.num || L.eng.healthy.get l)
      && x.bist.isNone && !x.bistWait && x.shutting.isNone && !(me.others.any fun j => otherTest rn (peer j)), stNotInState)] L
    ({ L with start := st }, if lanes.getLsbD me.num then none else some okRes)

def execStartBist (c : Ctx) (blk : List Byte) (s : State) : Out := runOp 0x0B03 c blk (opStartBist c.lane s.lane c.tid c.sender blk) s

/-! ## Whose turn it is (R429) -/

/-- The lanes below a lane. -/
def lower (me : LaneId) : List LaneId := LaneId.all.filter fun j => j.num < me.num

/-- A SHUTDOWN still has to complete somewhere (11 R372 step 2). -/
def shutdownOpen (L : LaneSt) : Bool := L.host.tasks.any fun t => t.pkt.opcode == 0x0B02 && !t.done

/-- The lanes of a shutdown stop answering once every completion is written (11 R372 step 3). Their domains leave On as planned (R420). -/
def enterShutdown (me : LaneId) (peer : LaneId → LaneSt) (L : LaneSt) : LaneSt :=
  if L.start.shutting.isNone || L.shut || shutdownOpen L || me.others.any fun j => shutdownOpen (peer j) then L
  else
    let L := if L.running then planSleep me neededDomains L else L
    releaseBge me { L with start := { L.start with phase := .shutdownTest } }

/-- A lower lane has ended its shutdown test, was skipped, or takes no part; after a dip the next lane waits for its recovery (R430). A lane that
is not healthy takes part in a key-off, and in no SHUTDOWN. -/
def belowDone (L : LaneSt) (j : LaneId) (P : LaneSt) : Bool :=
  let out := P.start.shutting.isNone && P.start.phase != .shutdownTest
  !P.start.supplied
  || (out && (P.start.fa || !L.eng.healthy.get j) && P.start.phase != .poweredDown && !(L.start.shutting == some 1 && goesAlong j P))
  || (out && (P.start.phase == .poweredDown || (P.start.testResult.incomplete == 4 && P.start.testResult.trigger != 2)) && !P.pow.vinWarn)

/-- A lower lane of a START_BIST has ended its test. -/
def belowTested (me : LaneSt) (j : LaneId) (P : LaneSt) : Bool :=
  !me.start.bistLanes.get j || !P.start.supplied || P.start.fa
  || (P.start.bistRn == me.start.bistRn && !P.start.bistWait && P.start.bist.isNone && !P.pow.vinWarn)

/-- Is it this lane's turn to be tested? After a rise of WAKE no test starts. -/
def bistTurn (me : LaneId) (peer : LaneId → LaneSt) (L : LaneSt) : Bool :=
  L.start.bist.isNone && !L.start.wakeCold && !L.start.testEn
  && ((L.start.phase == .shutdownTest && (lower me).all fun j => belowDone L j (peer j))
      || (L.start.bistWait && (lower me).all fun j => belowTested L j (peer j)))

/-! ## The test of one lane (R428–R433) -/

/-- The domains in the order of Table 13-12. -/
def testOrder : List Domain := [.ana, .gate, .ox, .mem, .flock, .host, .cpu]

/-- Torque is enabled on the lane (R428): motion is, a gate is commanded on, or the sense comparators show one above 2.0 V. -/
def torqueEnabled (me : LaneId) (L : LaneSt) : Bool := L.mot.enabled || gateCommanded me L || gatesSensed me L != 0

/-- The record of a test that starts now. It stands while the test runs, for a supply that is lost (R430). -/
def freshResult (trigger : BitVec 2) (cause : BitVec 4) (L : LaneSt) : TestResult :=
  { status := 2, trigger := trigger, incomplete := cause, ovd := L.start.ovdCount, time := L.now,
    domains := List.replicate 8 (2, 0, 0) }

/-- A lane that the interlock refuses is skipped: it stays powered, with its record INCOMPLETE. Out of a shutdown its event controller runs
again, which posts the latches (10 R334), and it rejoins. -/
def skipTest (me : LaneId) (trigger : BitVec 2) (L : LaneSt) : LaneSt :=
  let back := L.start.phase == .shutdownTest
  let L := { L with start := { L.start with testResult := freshResult trigger 4 L, shutting := none, bistWait := false,
                                            phase := if back then Phase.full else L.start.phase } }
  let L := if back then
      let L := { L with pow := { L.pow with plannedSleep := false }, eng := { L.eng with rejoin := some 0 } }
      if L.running then postLatches me L else L
    else L
  let tid := L.start.bistTid
  finishOpt me tid okRes (postTest me { L with start := { L.start with bistTid := none } })

/-- A domain is isolated for its test (R418, R429): its outputs are those of a domain that is not On. -/
def isolateDom (d : Domain) (L : LaneSt) : LaneSt :=
  let L := if d == .host then { L with ev := { L.ev with hirq := false, irqDue := false } } else L
  setDom d .off L

/-- PD_CPU is reset after its test (Table 13-7): the sequencer, the fault collector, the event controller and the scheduler start again, with
the configuration that the lane runs; the START_BIST that the lane has to answer is kept (log entry 42). -/
def resetCpu (me : LaneId) (L : LaneSt) : LaneSt :=
  let R := resetWith L.start.startKind L.pow L
  let e := L.eng
  let h := L.host
  initArrays [2] { L with
    eng := { R.eng with gen := e.gen, nextRn := e.nextRn, numbered := e.numbered, claim := e.claim, claimCount := e.claimCount,
                        up01 := e.up01, up12 := e.up12, up20 := e.up20, linkErr := e.linkErr, linkSeen := e.linkSeen },
    safe := R.safe, mot := { R.mot with offA := L.mot.offA, offB := L.mot.offB }, ev := R.ev,
    int := { R.int with poisoned := L.int.poisoned, flipped := L.int.flipped, checkerOk := L.int.checkerOk },
    host := { h with tasks := h.tasks.filter fun t => t.pkt.opcode == 0x0B03 && !t.done, trans := none, prepOpen := none,
                     prepAns := ⟨none, none, none⟩, commitTid := none, applyGen := none, applyWant := none, storeTid := none,
                     learnCommit := false, remoteOut := [] } }

/-- A tested domain is reset, its arrays are initialised, and its isolation is released (R417, R418, R429). -/
def domainBack (me : LaneId) (d : Domain) (L : LaneSt) : LaneSt :=
  let L := setDom d .on (loseDomain me d L)
  match d with
  | .flock => if L.shut then L else initFlock me false L
  | .cpu => resetCpu me L
  | _ => L

/-- The test begins. Under START_BIST the lane leaves the vote and its role, as for a planned sleep. -/
def beginTest (me : LaneId) (L : LaneSt) : LaneSt :=
  let keep := L.start.shutting.isNone
  let trigger := L.start.shutting.getD 2
  if torqueEnabled me L then skipTest me trigger L
  else
    let r := freshResult trigger 1 L
    let L := if keep then abortLearn me (freezeTrace (planSleep me neededDomains L)) else L
    isolateDom .ana { L with start := { L.start with
        testResult := r, bistWait := false,
        bist := some { step := 0, res := r, tid := L.start.bistTid, keepPower := keep, abandon := none } } }

/-- A WAKE rise that abandons the test of one lane has every lane make a cold start (R430): also one that the interlock has skipped, and one
that is FA. -/
def wakeShared (me : LaneId) (peer : LaneId → LaneSt) (L : LaneSt) : LaneSt :=
  let risen := me.others.any fun j => (peer j).start.wakeCold && (peer j).start.supplied
  if testsRun me peer L && risen && L.start.supplied && !L.start.wakeCold then
    abandonTest 2 { L with start := { L.start with wakeCold := true } }
  else L

/-- Has a lane that left the healthy set for its self-test under the START_BIST of a number been lost in it? It is without supply, FA or in
reset, or it has started anew; what it has sent has arrived. -/
def testLost (rn : Nat) (P : LaneSt) : Bool :=
  P.herdTx.isEmpty && (!P.start.supplied || P.start.fa || P.start.inReset || P.start.bistRn != rn)

/-- A lane that is lost in its self-test is known to be lost, and no completion waits for it (01 R41). -/
def noteTestLost (me : LaneId) (peer : LaneId → LaneSt) (L : LaneSt) : LaneSt :=
  let lost := fun (j : LaneId) => !L.eng.healthy.get j && L.host.tasks.any fun t =>
    t.pkt.opcode == 0x0B03 && t.origin == me && !t.done && t.started && t.part.get j && (t.results.get j).isNone
      && testLost (t.rn.getD 0 + 1) (peer j)
  let js := me.others.filter lost
  if js.isEmpty then L else closeSettled me (js.foldl (fun L j => addFault { kind := .lane, lane := j } L) L)

/-- A rise of WAKE on another lane, a key-off that waits, a shutdown whose completions are written, and a lane whose turn it is, take
effect. -/
def takeTurn (me : LaneId) (peer : LaneId → LaneSt) (L : LaneSt) : LaneSt :=
  let L := enterShutdown me peer (keyoffWaited me peer (wakeShared me peer (noteTestLost me peer L)))
  if bistTurn me peer L then beginTest me L else L

/-- The lane enters Off in every domain but PD_AON. -/
def powerDown (me : LaneId) (L : LaneSt) : LaneSt :=
  let L := (testOrder).foldl (enterRung me .off) (gatesOff L)
  { L with start := { L.start with phase := .poweredDown, shutting := none, bist := none, keyoff := false, keyoffDue := false },
           host := { L.host with tasks := [] } }

/-- After START_BIST the domains that were tested, the first `n`, work again, with the configuration of the lane, and it rejoins (R433). -/
def afterTest (me : LaneId) (n : Nat) (L : LaneSt) : LaneSt :=
  let L := { L with start := { L.start with bist := none, bistTid := none }, pow := { L.pow with plannedSleep := false } }
  let L := if (testOrder.take n).contains .ox then activate me 0 L else L
  let L := if L.running then hostBack me (relatch me (postLatches me L)) else L
  { L with eng := { L.eng with rejoin := some 0 } }

/-- The record is written: a completed test ends the overdue count (R432). -/
def writeResult (r : TestResult) (L : LaneSt) : LaneSt :=
  let complete := r.status != 2
  let x := L.start
  let x := if complete then { x with ovdCount := 0, overdue := false } else x
  { L with start := { x with testResult := { r with ovd := x.ovdCount } } }

/-- RESULT of START_BIST (11 Table 11-2). -/
def bistResult (me : LaneId) (r : TestResult) : LaneRes :=
  resultRes (if r.status = 2 then 0 else laneBit me ||| (if r.status = 0 then laneBit me <<< 8 else 0))

/-- The test of the lane ends; a lane that fails under START_BIST goes FA at once (R433). -/
def endTest (me : LaneId) (b : BistRun) (r : TestResult) (L : LaneSt) : LaneSt :=
  let L := writeResult r L
  if !b.keepPower then powerDown me L
  else
    let L := postTest me (finishOpt me b.tid (bistResult me r) (afterTest me (b.step + 1) L))
    if r.status = 1 then goFatalAt me 0x27 (location 0x27 0 0xFF) (failedMask r) 0 L else L

/-- The place of a failure: the engine is named, and what the test found is free. -/
def failPlace (old : TestResult) (L : LaneSt) : Word × LaneSt :=
  if old.failed != 0 then (old.location, L)
  else
    let (bs, L) := drawBytes 4 L
    (packWord [(28, 10), (0, (rd32 bs 0).toNat % 2 ^ 28)], L)

/-- A domain's test ends, and the domain is reset: it counts unless the test was abandoned before. The next domain is isolated for its own. -/
def domainDone (me : LaneId) (pass : Bool) (ms : Byte) (detail : Half) (b : BistRun) (L : LaneSt) : LaneSt :=
  let r := b.res
  let L := domainBack me (testOrder.getD b.step .cpu) L
  match b.abandon with
  | some cause => endTest me b { r with status := 2, incomplete := cause } L
  | none =>
    let d := testOrder.getD b.step .cpu
    let bit : Byte := BitVec.ofNat 8 (2 ^ d.num)
    let (loc, L) := if pass then (r.location, L) else failPlace r L
    let r := { r with tested := r.tested ||| bit, failed := if pass then r.failed else r.failed ||| bit, location := loc,
                      duration := r.duration + ms.setWidth 16, domains := r.domains.set d.num (if pass then 0 else 1, ms, detail) }
    if b.step + 1 < testOrder.length then
      isolateDom (testOrder.getD (b.step + 1) .cpu) { L with start := { L.start with bist := some { b with step := b.step + 1, res := r } } }
    else endTest me b { r with status := if r.failed = 0 then 0 else 1, incomplete := 0 } L

/-- SELF_TEST_DOMAIN_DONE, on a lane whose test runs or whose turn it is. -/
def selfTest (me : LaneId) (peer : LaneId → LaneSt) (pass : Bool) (ms : Byte) (detail : Half) (L : LaneSt) : LaneSt :=
  let L := takeTurn me peer L
  match L.start.bist with
  | some b => domainDone me pass ms detail b L
  | none => L

def execSelfTestDomainDone (l : LaneId) (pass : Bool) (ms : Byte) (detail : Half) (s : State) : Out :=
  onLaneIf l (fun L => L.start.supplied && L.start.coreReady && !L.start.testEn) (selfTest l s.lane pass ms detail) s

end Sys2Proof.Machine
end

