-- ==== Sys2Proof/Machine/FlockDyn.lean ====
section
/-! DEFINITION. The dynamic segment and the transport (08 R275, R291, R292): the slot counter, the messages that the device sends in
FLOCK_DYN_SLOT, and the command fragments and event records that it receives (09 R314, 10 R332, R333).
Log entries: 50 (DEDUCED); 2, 9, 60, 69 (DESIGN CHOICE). -/

namespace Sys2Proof.Machine

/-! ## Messages that the device sends -/

/-- The transport header (Table 8-6). -/
def transportHeader (dest : Half) (kind : Nat) (msgId : Byte) (frag count len : Nat) : List Byte :=
  be16 dest ++ [BitVec.ofNat 8 kind, msgId, BitVec.ofNat 8 (frag + 16 * (count - 1)), 0] ++ be16 (BitVec.ofNat 16 len)

/-- Bytes in pieces of `n`, at most `k` of them. -/
def pieces (n : Nat) : Nat → List Byte → List (List Byte)
  | 0, _ => []
  | k + 1, b => if b.length ≤ n then [b] else b.take n :: pieces n k (b.drop n)

/-- The dynamic payloads of a message: its data in up to 16 fragments. -/
def messageFrames (cap : Nat) (dest : Half) (kind : Nat) (msgId : Byte) (data : List Byte) : List (List Byte) :=
  let ps := pieces cap 16 data
  (List.range ps.length).map fun i => let p := ps.getD i []
    transportHeader dest kind msgId i ps.length p.length ++ p

/-- The data bytes of a dynamic frame. -/
def Conf.dynCap (c : Conf) : Nat := c.nat Item.dynPayload - 8

/-- The records that fit into one message, at least one. -/
def Conf.dynRecords (c : Conf) : Nat := max 1 (c.dynCap / 16)

/-- The message number: unlike that of any other lane of the device. -/
def LaneSt.msgIdNow (me : LaneId) (L : LaneSt) : Byte := BitVec.ofNat 8 (4 * L.flock.txMsgId.toNat + me.num)

/-- The remote entry of an event record that waits. -/
def waitingEvents (L : LaneSt) : Option (Nat × List (List Byte)) := L.ev.remoteQ.find? fun q => !q.2.isEmpty

/-- The next message: the completion that has waited longest, with those for the same host behind it that have no reply; else the event
records of the first remote queue, which stay in their queue until they have been sent (10 R332). -/
def formMessage (me : LaneId) (L : LaneSt) : Option (List (List Byte) × LaneSt) :=
  let c := L.host.run
  let id := L.msgIdNow me
  let node := fun n => BitVec.ofNat 16 (c.nat (Item.remoteNode + n))
  let next := updFlock (fun f => { f with txMsgId := f.txMsgId + 1 }) L
  match L.host.remoteOut with
  | (n, b) :: rest =>
    let run := if b.length = 16 then (rest.takeWhile fun p => p.1 == n && p.2.length == 16).take (c.dynRecords - 1) else []
    some (messageFrames c.dynCap (node n) 2 id (b ++ (run.map (·.2)).flatten),
      { next with host := { L.host with remoteOut := rest.drop run.length } })
  | [] =>
    match waitingEvents L with
    | some (n, q) =>
      let fs := messageFrames c.dynCap (node n) 3 id (q.take c.dynRecords).flatten
      some (fs, updFlock (fun f => { f with txEvents := some (n, (q.take c.dynRecords).length, fs.length) }) next)
    | none => none

/-- The event records of a message have been sent: they leave their queue, and pending sources find room (10 R332, R336). -/
def eventsSent (me : LaneId) (L : LaneSt) : LaneSt :=
  match L.flock.txEvents with
  | some (n, k, _) =>
    let L := updFlock (fun f => { f with txEvents := none }) L
    replay me { L with ev := { L.ev with remoteQ := Store.write [] L.ev.remoteQ n ((Store.read [] L.ev.remoteQ n).drop k) } }
  | none => L

/-- One more frame of the lane's message has been sent. -/
def frameSent (me : LaneId) (L : LaneSt) : LaneSt :=
  match L.flock.txEvents with
  | some (n, k, m) => if m ≤ 1 then eventsSent me L else updFlock (fun f => { f with txEvents := some (n, k, m - 1) }) L
  | none => L

/-- A lane that transmits: healthy, and synchronised on its channel. -/
def transmits (me : LaneId) (L : LaneSt) : Bool :=
  bothChannels.any fun ch => txLane ch == me && L.running && (L.chan ch).synced && L.eng.healthy.get me

/-- The frames of a message to the other lanes, which send them on their own channels. -/
def shareFrames (fs : List (List Byte)) (L : LaneSt) : LaneSt := fs.foldl (fun L f => send (.dynFrame f) L) L

/-- Put the next message into the lane's dynamic queue, if that is empty, and share it with the other transmitting lane. -/
def loadDyn (me : LaneId) (ch : Channel) (L : LaneSt) : LaneSt :=
  if !(L.chan ch).dynPending.isEmpty then L
  else match formMessage me L with
  | some (fs, L) => shareFrames fs (updChan ch (fun x => { x with dynPending := fs }) L)
  | none => L

/-- A lane that does not transmit hands its next message over when a lane that does has none waiting. -/
def handOverDyn (me : LaneId) (peer : LaneId → LaneSt) (L : LaneSt) : LaneSt :=
  let free := fun ch => transmits (txLane ch) (peer (txLane ch)) && ((peer (txLane ch)).chan ch).dynPending.isEmpty
  if L.running && !transmits me L && (bothChannels.any fun ch => txLane ch != me && free ch) then
    match formMessage me L with
    | some (fs, L) => eventsSent me (shareFrames fs L)
    | none => L
  else L

/-- A message of another lane waits for the own dynamic slot. -/
def queueDyn (me : LaneId) (f : List Byte) (L : LaneSt) : LaneSt :=
  if !transmits me L then L
  else bothChannels.foldl (fun L ch => if txLane ch = me then updChan ch (fun x => { x with dynPending := x.dynPending ++ [f] }) L else L) L

/-! ## MINISLOT_BOUNDARY (R275) -/

/-- The counters at a boundary: N_X + 1 at minislot 1; then one more after an idle minislot, and after a frame that ended 1 µs before. -/
def countMinislot (ch : Channel) (idle : Bool) (L : LaneSt) : LaneSt :=
  let after := match (L.chan ch).dynFrameEnd with
    | some e => e + 100 ≤ L.time.clk10
    | none => false
  updChan ch (fun x =>
    if x.mini = 0 then { x with mini := 1, counterMini := 1, slotCounter := L.host.run.statics ch + 1 }
    else if idle || after then
      { x with mini := x.mini + 1, counterMini := x.mini + 1, slotCounter := x.slotCounter + 1, dynFrameEnd := none }
    else { x with mini := x.mini + 1 }) L

/-- A pending frame starts in the own dynamic slot. -/
def sendDynamic (me : LaneId) (ch : Channel) (L : LaneSt) : LaneSt :=
  let x := L.chan ch
  match x.dynPending with
  | f :: r =>
    if fitsSegment L.host.run ch x.mini f.length then
      frameSent me (transmit ch (Frame.bytes { slot := x.slotCounter, cycle := L.flock.cycle.toNat, source := L.host.run.nodeId, payload := f })
        (updChan ch (fun x => { x with dynPending := r }) L))
    else L
  | [] => L

/-- A minislot begins. A frame starts only where the counter has reached the own slot at this boundary: while the frame is on the channel the
counter stands still (R275). -/
def minislot (me : LaneId) (ch : Channel) (idle : Bool) (L : LaneSt) : LaneSt :=
  if !L.clocked then L
  else
    let L := countMinislot ch idle L
    let d := L.host.run.nat Item.dynSlot
    if txLane ch = me && transmits me L && d != 0 && (L.chan ch).slotCounter = d && (L.chan ch).counterMini = (L.chan ch).mini then sendDynamic me ch (loadDyn me ch L) else L

def execMinislotBoundary (l : LaneId) (ch : Channel) (idle : Bool) (s : State) : Out :=
  onLaneIf l (LaneSt.onFlock l ch) (minislot l ch idle) s

/-! ## Command fragments (R292) -/

/-- The cycles a reassembly may take. -/
def reasmCycles : Nat := 16

/-- The remote entry of a node. -/
def Conf.remoteOf (c : Conf) (node : Half) : Option (Fin 16) :=
  ((List.finRange 16).find? fun n => c.remoteUsed n.val && c.nat (Item.remoteNode + n.val) == node.toNat)

/-- Has a lane of the device had the message of a node? -/
def seenMessage (me : LaneId) (peer : LaneId → LaneSt) (L : LaneSt) (node : Half) (id : Byte) : Bool :=
  LaneId.all.any fun j => (viewOf me peer L j).flock.seenMsgs.any fun m => m.1 == node && m.2.1 == id

def noteMessage (node : Half) (id : Byte) (L : LaneSt) : LaneSt :=
  updFlock (fun f => { f with seenMsgs := f.seenMsgs ++ [(node, id, f.cycles)] }) L

/-- The 256-byte segments of a packet (09 R307). -/
def segmentsOf (b : List Byte) : List (List Byte) := (List.range ((b.length + 255) / 256)).map fun i => (b.drop (256 * i)).take 256

/-- A remote packet passes the checks of 09 R309, and is admitted or refused; for want of a task it completes with BUSY (09 R314). -/
def remotePacket (me : LaneId) (n : Fin 16) (b : List Byte) (L : LaneSt) : LaneSt :=
  let hd := b.take 16
  let len := totalLen hd
  let segs := segmentsOf b
  let p := joinSegs (.remote n) hd segs
  if 4 < segCount hd || 1024 < len then refusedTask me { p with block := [] } stTooLarge L
  else if b.length != len || !((List.range segs.length).all fun i => segCrcOk len i (segs.getD i [])) then
    refusedTask me p stBadCrc (report me 0x59 0 0 L)
  else if !segsAgree hd segs then refusedTask me p stBadParam L
  else match packetFault L (byteAt hd 7) p with
  | some st => refusedTask me p st L
  | none => match packetDenied L p with
    | some st => refusedTask me p st L
    | none =>
      if !taskFree L ((flowOf L.host.run p.sender).getD 16) then refusedTask me p stBusy L
      else admitPacket me p none { L with host := { L.host with admitted := satInc L.host.admitted } }

/-- The parts of a reassembly in FRAG order. -/
def Reasm.bytes (r : Reasm) : List Byte :=
  ((List.range r.count).map fun i => match r.parts.find? fun p => p.1 == i with
    | some p => p.2
    | none => []).flatten

def Reasm.complete (r : Reasm) : Bool := (List.range r.count).all fun i => r.parts.any fun p => p.1 == i

/-- A fragment joins the reassembly of its SOURCE and MSG_ID. -/
def Reasm.add (r : Reasm) (i : Nat) (d : List Byte) : Reasm :=
  if i < r.count then { r with parts := (r.parts.filter fun p => p.1 != i) ++ [(i, d)] } else r

/-- Two reassemblies of one message have the same SOURCE and MSG_ID. -/
def Reasm.of (r : Reasm) (src : Half) (id : Byte) : Bool := r.source == src && r.msgId == id

/-- The reassembly of a message with one more fragment. -/
def reasmOf (src : Half) (pay : List Byte) (L : LaneSt) : Reasm :=
  let id := byteAt pay 3
  let x := (byteAt pay 4).toNat
  let old := (L.flock.reasm.find? fun r => r.of src id).getD ⟨src, id, x / 16 + 1, [], L.flock.cycles⟩
  old.add (x % 16) ((pay.drop 8).take (rd16be pay 6).toNat)

/-- A fragment of a remote host. -/
def joinFragment (me : LaneId) (n : Fin 16) (src : Half) (pay : List Byte) (L : LaneSt) : LaneSt :=
  let id := byteAt pay 3
  let r := reasmOf src pay L
  let rest := L.flock.reasm.filter fun r => !r.of src id
  if r.complete then
    remotePacket me n (r.bytes.take 1025) (noteMessage src id (updFlock (fun f => { f with reasm := rest }) L))
  else updFlock (fun f => { f with reasm := rest ++ [r] }) L

/-- COMMAND_FRAGMENT: for this device's node ID; a SOURCE without a remote entry is counted as a violation (01 R48). A message that a lane
has completed is discarded. DESIGN CHOICE (log entry 69): a discarded fragment, which has no address, leaves LANE_VIOL_LAST as it is. -/
def fragment (me : LaneId) (peer : LaneId → LaneSt) (src : Half) (pay : List Byte) (L : LaneSt) : LaneSt :=
  if rd16be pay 0 != L.host.run.nodeId || (byteAt pay 2).toNat % 16 != 1 || pay.length < 8 then L
  else match L.host.run.remoteOf src with
  | none => { L with eng := { L.eng with violCount := satInc L.eng.violCount } }
  | some n =>
    if seenMessage me peer L src (byteAt pay 3) then
      updFlock (fun f => { f with reasm := f.reasm.filter fun r => !r.of src (byteAt pay 3) }) L
    else joinFragment me n src pay L

def execCommandFragment (l : LaneId) (ch : Channel) (source : Half) (payload : List Byte) (s : State) : Out :=
  onLaneIf l (LaneSt.onFlock l ch) (fragment l s.lane source payload) s

/-- REASSEMBLY_TIMEOUT: a reassembly not complete within 16 cycles of its first fragment is discarded. -/
def reasmTimeout (src : Half) (id : Byte) (L : LaneSt) : LaneSt :=
  if L.flock.reasm.any fun r => r.of src id && r.startCycle + reasmCycles ≤ L.flock.cycles then
    updFlock (fun f => { f with reasm := f.reasm.filter fun r => !r.of src id, reasmDrop := satInc f.reasmDrop }) L
  else L

def execReassemblyTimeout (l : LaneId) (source : Half) (msgId : Byte) (s : State) : Out :=
  onLaneIf l (flockRuns l) (reasmTimeout source msgId) s

/-! ## Event messages of other nodes (10 R333) -/

/-- The remote-source entry that a record matches. -/
def Conf.remoteSource (c : Conf) (node : Half) (src : Byte) : Option Nat :=
  (List.range 32).find? fun n =>
    let w := c.item (Item.remoteSrc + n)
    fieldOf w 0 16 != 0 && fieldOf w 0 16 == node.toNat && fieldOf w 16 8 == src.toNat

/-- A record is an arrival at source 0xA0 + n, or discarded and counted. -/
def remoteRecord (me : LaneId) (node : Half) (r : EventRec) (L : LaneSt) : LaneSt :=
  match L.host.run.remoteSource node r.source with
  | some n => arriveAt me (BitVec.ofNat 8 (0xA0 + n)) 1 r.cls r.payload r.time r.unsync L
  | none => { L with ev := { L.ev with unmatched := satInc L.ev.unmatched } }

/-- Has this lane had the message of a node? -/
def LaneSt.hadMessage (L : LaneSt) (node : Half) (id : Byte) : Bool := L.flock.seenMsgs.any fun m => m.1 == node && m.2.1 == id

/-- REMOTE_EVENT_MESSAGE: the first lane to receive it forwards it, and every lane discards further copies. -/
def remoteEvents (me : LaneId) (peer : LaneId → LaneSt) (node dest : Half) (id : Byte) (recs : List EventRec) (L : LaneSt) : LaneSt :=
  if dest != L.host.run.nodeId || L.hadMessage node id then L
  else
    let first := !me.others.any fun j => (peer j).hadMessage node id
    let L := noteMessage node id L
    recs.foldl (fun L r => remoteRecord me node r L) (if first then send (.remoteEvents node dest id recs) L else L)

def execRemoteEventMessage (l : LaneId) (node dest : Half) (msgId : Byte) (recs : List EventRec) (s : State) : Out :=
  onLaneIf l (fun L => L.running && L.host.run.nodeId != 0) (remoteEvents l s.lane node dest msgId recs) s

/-- The records of a KIND 3 message (10 Table 10-2). -/
def eventRecs (b : List Byte) : List EventRec :=
  (recordsOf b).map fun r =>
    { source := byteAt r 0, cls := (byteAt r 2).setWidth 3, unsync := (byteAt r 2).getLsbD 5, time := rd32 r 4, payload := rd64 r 8 }

/-- A fragment of a KIND 3 message: its records are taken when all its fragments have come (R291, R292). -/
def eventFragment (me : LaneId) (peer : LaneId → LaneSt) (src : Half) (pay : List Byte) (L : LaneSt) : LaneSt :=
  let id := byteAt pay 3
  let dest := rd16be pay 0
  if dest != L.host.run.nodeId || pay.length < 8 || L.hadMessage src id then L
  else
    let r := reasmOf src pay L
    let rest := L.flock.reasm.filter fun r => !r.of src id
    if r.complete then remoteEvents me peer src dest id (eventRecs r.bytes) (updFlock (fun f => { f with reasm := rest }) L)
    else updFlock (fun f => { f with reasm := rest ++ [r] }) L

/-! ## DYNAMIC_FRAME_RECEIVED (R275) -/

/-- What an accepted frame carries: a message to this device. -/
def takeTransport (me : LaneId) (peer : LaneId → LaneSt) (src : Half) (pay : List Byte) (L : LaneSt) : LaneSt :=
  match (byteAt pay 2).toNat % 16 with
  | 1 => fragment me peer src pay L
  | 3 => eventFragment me peer src pay L
  | _ => L

/-- An accepted dynamic frame counts for the channel (R289). -/
def acceptDynamic (me : LaneId) (ch : Channel) (f : Frame) (peer : LaneId → LaneSt) (L : LaneSt) : LaneSt :=
  if f.source = L.host.run.nodeId then updChan ch (fun x => { x with txThis := true, txQuiet := 0 }) L
  else
    let L := updChan ch (fun x => { x with rxThis := true, rxQuiet := 0 }) L
    let L := if (L.chan ch).rxLost || (L.chan ch).txLost then noteLosses me peer L else L
    if L.time.synced then takeTransport me peer f.source f.payload L else L

def dynamicRx (me : LaneId) (ch : Channel) (x : RxFrame) (peer : LaneId → LaneSt) (L : LaneSt) : LaneSt :=
  if !L.clocked then
    if !(x.decodable && frameCrcOk x.bytes) then countCrc L
    else if (L.chan ch).state = .listen || L.flock.collisionWait then dropClock me .integrating L
    else L
  else
    let f := Frame.ofBytes x.bytes
    let c := L.host.run
    let L := updChan ch (fun y => { y with dynFrameEnd := some L.time.clk10 }) L
    if !x.decodable then countCrc L
    else if absI (devOf c x) > c.nat Item.precision then countBoundary L
    else if !frameCrcOk x.bytes then countCrc L
    else if f.slot != (L.chan ch).slotCounter || c.nat Item.dynPayload < f.payload.length then countMismatch L
    else acceptDynamic me ch f peer L

def execDynamicFrameReceived (l : LaneId) (ch : Channel) (f : RxFrame) (s : State) : Out :=
  onLaneIf l (LaneSt.onFlock l ch) (dynamicRx l ch f s.lane) s

end Sys2Proof.Machine
end

