-- ==== Sys2Proof/Machine/Timed.lean ====
section
/-! DEFINITION. The delay list (09 R315): a timed command starts.
Log entries: 24 (DESIGN CHOICE). -/

namespace Sys2Proof.Machine

/-- The meaning of an opcode that may be timed (11 Tables 11-4, 11-5). -/
def timedOp (me : LaneId) (tid : Nat) (p : Packet) (L : LaneSt) : LaneSt × Option LaneRes :=
  let h := p.sender
  let b := p.block
  let n := p.opcode.toNat
  if n = 0x0110 then opLaneSs1 me h b L
  else if n = 0x0111 then opLaneSto me h b L
  else if n = 0x0210 then opSetpoint me tid h b L
  else if n = 0x0251 then opTraceArm me h b L
  else if n = 0x0252 then opTraceTrigger me h b L
  else if n = 0x0302 then opMotionDisable me tid h b L
  else if n = 0x0311 then opMotionVelSet me h b L
  else (L, some (failRes stBadParam))

/-- Does a waiting command stand before another on the sorted list: an earlier EXEC_AT, or an equal one and a lower replication number? -/
def Task.sooner (e t : Task) : Bool :=
  e.delayed && e.rn.isSome && (timeAfter t.pkt.execAt e.pkt.execAt || (e.pkt.execAt == t.pkt.execAt && (match e.rn, t.rn with
    | some a, some b => a < b
    | _, _ => false)))

/-- The tick at or after EXEC_AT: the command at the head of the list leaves it, and is executed where the lane takes part in commands. -/
def timedStart (me : LaneId) (tid : Nat) (L : LaneSt) : LaneSt :=
  match L.task tid with
  | none => L
  | some t =>
    if !(t.delayed && t.rn.isSome && timeNotBefore L.now t.pkt.execAt) || L.host.tasks.any fun e => e.sooner t then L
    else
      let L' := updTask tid (fun t => { t with waiting := false }) L
      if canRun t.pkt.opcode ⟨me, t.pkt.sender, tid, []⟩ t.pkt.block L' then settle me tid (timedOp me tid t.pkt L') else L

/-- TIMED_COMMAND_START. -/
def execTimedCommandStart (l : LaneId) (tid : Nat) (s : State) : Out := onLaneIf l LaneSt.running (timedStart l tid) s

end Sys2Proof.Machine
end

