-- ==== Sys2Proof/Machine/Dispatch.lean ====
section
/-! DEFINITION. The meaning of each command: one arm per constructor of `Instr`. -/

namespace Sys2Proof.Machine

/-- What a command does to everything but the queue. -/
def exec (i : Instr) (s : State) : Host.Outcome State Fault Refusal :=
  match i with
  | .spiNop l mosi => Sys2Proof.Machine.execSpiNop l mosi s
  | .spiRead l mosi ecc => Sys2Proof.Machine.execSpiRead l mosi ecc s
  | .spiWrite l mosi => Sys2Proof.Machine.execSpiWrite l mosi s
  | .doorbell l mosi => Sys2Proof.Machine.execDoorbell l mosi s
  | .eqHeadWrite l mosi => Sys2Proof.Machine.execEqHeadWrite l mosi s
  | .laneViolClear l mosi => Sys2Proof.Machine.execLaneViolClear l mosi s
  | .packetAdmission l => Sys2Proof.Machine.execPacketAdmission l s
  | .replicatedPacket l m => Sys2Proof.Machine.execReplicatedPacket l m s
  | .laneResultReport l from_ rn r => Sys2Proof.Machine.execLaneResultReport l from_ rn r s
  | .laneReplyWaitExpiry l tid => Sys2Proof.Machine.execLaneReplyWaitExpiry l tid s
  | .timedCommandStart l tid => Sys2Proof.Machine.execTimedCommandStart l tid s
  | .hostCfgTimeout l => Sys2Proof.Machine.execHostCfgTimeout l s
  | .hostSilentTimeout l => Sys2Proof.Machine.execHostSilentTimeout l s
  | .hostCrcSecond l => Sys2Proof.Machine.execHostCrcSecond l s
  | .laneClaimTimeout l => Sys2Proof.Machine.execLaneClaimTimeout l s
  | .claimLockoutEnd l h => Sys2Proof.Machine.execClaimLockoutEnd l h s
  | .laneIdent c blk => Sys2Proof.Machine.execLaneIdent c blk s
  | .laneRead c blk => Sys2Proof.Machine.execLaneRead c blk s
  | .laneStatus c blk => Sys2Proof.Machine.execLaneStatus c blk s
  | .laneRoleSet c blk => Sys2Proof.Machine.execLaneRoleSet c blk s
  | .laneOwnerClaim c blk => Sys2Proof.Machine.execLaneOwnerClaim c blk s
  | .laneOwnerRelease c blk => Sys2Proof.Machine.execLaneOwnerRelease c blk s
  | .laneSs1 c blk => Sys2Proof.Machine.execLaneSs1 c blk s
  | .laneSto c blk => Sys2Proof.Machine.execLaneSto c blk s
  | .oxGraphLoad c blk => Sys2Proof.Machine.execOxGraphLoad c blk s
  | .oxTableLoad c blk => Sys2Proof.Machine.execOxTableLoad c blk s
  | .oxParamSet c blk => Sys2Proof.Machine.execOxParamSet c blk s
  | .oxGraphInfo c blk => Sys2Proof.Machine.execOxGraphInfo c blk s
  | .oxSetpoint c blk => Sys2Proof.Machine.execOxSetpoint c blk s
  | .oxManual c blk => Sys2Proof.Machine.execOxManual c blk s
  | .oxAuto c blk => Sys2Proof.Machine.execOxAuto c blk s
  | .oxLearnStart c blk => Sys2Proof.Machine.execOxLearnStart c blk s
  | .oxLearnStop c blk => Sys2Proof.Machine.execOxLearnStop c blk s
  | .oxLearnCommit c blk => Sys2Proof.Machine.execOxLearnCommit c blk s
  | .oxLearnDiscard c blk => Sys2Proof.Machine.execOxLearnDiscard c blk s
  | .oxNodeRead c blk => Sys2Proof.Machine.execOxNodeRead c blk s
  | .oxDebugEnter c blk => Sys2Proof.Machine.execOxDebugEnter c blk s
  | .oxDebugStep c blk => Sys2Proof.Machine.execOxDebugStep c blk s
  | .oxDebugRun c blk => Sys2Proof.Machine.execOxDebugRun c blk s
  | .oxDebugExit c blk => Sys2Proof.Machine.execOxDebugExit c blk s
  | .oxTraceSetup c blk => Sys2Proof.Machine.execOxTraceSetup c blk s
  | .oxTraceArm c blk => Sys2Proof.Machine.execOxTraceArm c blk s
  | .oxTraceTrigger c blk => Sys2Proof.Machine.execOxTraceTrigger c blk s
  | .oxTraceStop c blk => Sys2Proof.Machine.execOxTraceStop c blk s
  | .oxTraceRead c blk => Sys2Proof.Machine.execOxTraceRead c blk s
  | .motionEnable c blk => Sys2Proof.Machine.execMotionEnable c blk s
  | .motionDisable c blk => Sys2Proof.Machine.execMotionDisable c blk s
  | .motionVelEnter c blk => Sys2Proof.Machine.execMotionVelEnter c blk s
  | .motionVelSet c blk => Sys2Proof.Machine.execMotionVelSet c blk s
  | .motionVelExit c blk => Sys2Proof.Machine.execMotionVelExit c blk s
  | .senseAlignSet c blk => Sys2Proof.Machine.execSenseAlignSet c blk s
  | .senseLaneStatus c blk => Sys2Proof.Machine.execSenseLaneStatus c blk s
  | .gateStatus c blk => Sys2Proof.Machine.execGateStatus c blk s
  | .flockSchedLoad c blk => Sys2Proof.Machine.execFlockSchedLoad c blk s
  | .flockSubLoad c blk => Sys2Proof.Machine.execFlockSubLoad c blk s
  | .flockPubLoad c blk => Sys2Proof.Machine.execFlockPubLoad c blk s
  | .flockStatus c blk => Sys2Proof.Machine.execFlockStatus c blk s
  | .flockClaimRead c blk => Sys2Proof.Machine.execFlockClaimRead c blk s
  | .flockRejoin c blk => Sys2Proof.Machine.execFlockRejoin c blk s
  | .cfgBegin c blk => Sys2Proof.Machine.execCfgBegin c blk s
  | .cfgSet c blk => Sys2Proof.Machine.execCfgSet c blk s
  | .cfgCommit c blk => Sys2Proof.Machine.execCfgCommit c blk s
  | .cfgAbort c blk => Sys2Proof.Machine.execCfgAbort c blk s
  | .cfgGet c blk => Sys2Proof.Machine.execCfgGet c blk s
  | .cfgStore c blk => Sys2Proof.Machine.execCfgStore c blk s
  | .hostSleep c blk => Sys2Proof.Machine.execHostSleep c blk s
  | .eventCounts c blk => Sys2Proof.Machine.execEventCounts c blk s
  | .integFaultRead c blk => Sys2Proof.Machine.execIntegFaultRead c blk s
  | .integFaultClear c blk => Sys2Proof.Machine.execIntegFaultClear c blk s
  | .integCounts c blk => Sys2Proof.Machine.execIntegCounts c blk s
  | .powerSleep c blk => Sys2Proof.Machine.execPowerSleep c blk s
  | .powerWake c blk => Sys2Proof.Machine.execPowerWake c blk s
  | .powerOpSet c blk => Sys2Proof.Machine.execPowerOpSet c blk s
  | .powerStatus c blk => Sys2Proof.Machine.execPowerStatus c blk s
  | .startFull c blk => Sys2Proof.Machine.execStartFull c blk s
  | .shutdown c blk => Sys2Proof.Machine.execShutdown c blk s
  | .startBist c blk => Sys2Proof.Machine.execStartBist c blk s
  | .startResults c blk => Sys2Proof.Machine.execStartResults c blk s
  | .prepareMessage l from_ => Sys2Proof.Machine.execPrepareMessage l from_ s
  | .prepareAnswer l from_ ans => Sys2Proof.Machine.execPrepareAnswer l from_ ans s
  | .applyMessage l m => Sys2Proof.Machine.execApplyMessage l m s
  | .configStoreDone l => Sys2Proof.Machine.execConfigStoreDone l s
  | .eventArrival l src cls payload => Sys2Proof.Machine.execEventArrival l src cls payload s
  | .holdoffTimerExpiry l g => Sys2Proof.Machine.execHoldoffTimerExpiry l g s
  | .remoteEventMessage l node dest msgId recs => Sys2Proof.Machine.execRemoteEventMessage l node dest msgId recs s
  | .herdSampleRecord l link bytes at10 => Sys2Proof.Machine.execHerdSampleRecord l link bytes at10 s
  | .timeMessage l from_ t => Sys2Proof.Machine.execTimeMessage l from_ t s
  | .laneDownSymbol l from_ => Sys2Proof.Machine.execLaneDownSymbol l from_ s
  | .bridgeDownSymbol l from_ => Sys2Proof.Machine.execBridgeDownSymbol l from_ s
  | .excludeOrder l from_ named => Sys2Proof.Machine.execExcludeOrder l from_ named s
  | .killOrder l from_ => Sys2Proof.Machine.execKillOrder l from_ s
  | .killCheck l named now10 => Sys2Proof.Machine.execKillCheck l named now10 s
  | .handover l from_ => Sys2Proof.Machine.execHandover l from_ s
  | .shareOut l from_ => Sys2Proof.Machine.execShareOut l from_ s
  | .shareRampEnd l of_ => Sys2Proof.Machine.execShareRampEnd l of_ s
  | .traceTriggerMessage l from_ dt10 at10 => Sys2Proof.Machine.execTraceTriggerMessage l from_ dt10 at10 s
  | .plannedSleep l from_ => Sys2Proof.Machine.execPlannedSleep l from_ s
  | .forwardedSafeRecord l rec => Sys2Proof.Machine.execForwardedSafeRecord l rec s
  | .ganderCutMessage l ch => Sys2Proof.Machine.execGanderCutMessage l ch s
  | .claimAnnounce l ch slot => Sys2Proof.Machine.execClaimAnnounce l ch slot s
  | .announcement l from_ gen minimal current => Sys2Proof.Machine.execAnnouncement l from_ gen minimal current s
  | .electionClose l => Sys2Proof.Machine.execElectionClose l s
  | .fastSample l inp => Sys2Proof.Machine.execFastSample l inp s
  | .releasePoint l t10 recordPoisoned => Sys2Proof.Machine.execReleasePoint l t10 recordPoisoned s
  | .linkDown l link => Sys2Proof.Machine.execLinkDown l link s
  | .laneSilent l j => Sys2Proof.Machine.execLaneSilent l j s
  | .tqDisagreeCount l j => Sys2Proof.Machine.execTqDisagreeCount l j s
  | .sensorDisagree l j q => Sys2Proof.Machine.execSensorDisagree l j q s
  | .tqDevCount l j => Sys2Proof.Machine.execTqDevCount l j s
  | .tqDevEnergisedCheck l j => Sys2Proof.Machine.execTqDevEnergisedCheck l j s
  | .rejoinComplete l => Sys2Proof.Machine.execRejoinComplete l s
  | .muleTimerExpiry l => Sys2Proof.Machine.execMuleTimerExpiry l s
  | .muleEventTick l => Sys2Proof.Machine.execMuleEventTick l s
  | .muleExit l => Sys2Proof.Machine.execMuleExit l s
  | .netStaleExpiry l => Sys2Proof.Machine.execNetStaleExpiry l s
  | .stoDiscrepancy l => Sys2Proof.Machine.execStoDiscrepancy l s
  | .extrapolationEnd l => Sys2Proof.Machine.execExtrapolationEnd l s
  | .hallNoEdgeTimeout l => Sys2Proof.Machine.execHallNoEdgeTimeout l s
  | .setpointStale l node => Sys2Proof.Machine.execSetpointStale l node s
  | .learnTimeLimit l => Sys2Proof.Machine.execLearnTimeLimit l s
  | .sincosConversion l sin cos t10 => Sys2Proof.Machine.execSincosConversion l sin cos t10 s
  | .auxConversion l input code => Sys2Proof.Machine.execAuxConversion l input code s
  | .hallStateAccepted l hall t10 => Sys2Proof.Machine.execHallStateAccepted l hall t10 s
  | .hallGlitch l => Sys2Proof.Machine.execHallGlitch l s
  | .stoNFalling l ns => Sys2Proof.Machine.execStoNFalling l ns s
  | .stoNRising l => Sys2Proof.Machine.execStoNRising l s
  | .scFastTrip l inp => Sys2Proof.Machine.execScFastTrip l inp s
  | .scGrossTrip l inp => Sys2Proof.Machine.execScGrossTrip l inp s
  | .vgdUvlo l => Sys2Proof.Machine.execVgdUvlo l s
  | .bootUvlo l leg => Sys2Proof.Machine.execBootUvlo l leg s
  | .uvloRecover l => Sys2Proof.Machine.execUvloRecover l s
  | .handshakeTimeout l leg => Sys2Proof.Machine.execHandshakeTimeout l leg s
  | .prechargeEnd l charged => Sys2Proof.Machine.execPrechargeEnd l charged s
  | .offsetMeasurementDone l meanA meanB => Sys2Proof.Machine.execOffsetMeasurementDone l meanA meanB s
  | .vinGood l cause pmbus mv => Sys2Proof.Machine.execVinGood l cause pmbus mv s
  | .coltSlowTimeout l => Sys2Proof.Machine.execColtSlowTimeout l s
  | .coltHallValidHold l => Sys2Proof.Machine.execColtHallValidHold l s
  | .supplyLoss l => Sys2Proof.Machine.execSupplyLoss l s
  | .firmwareStart l inp => Sys2Proof.Machine.execFirmwareStart l inp s
  | .nrstN l ns => Sys2Proof.Machine.execNrstN l ns s
  | .testEn l us => Sys2Proof.Machine.execTestEn l us s
  | .vinWarning l mv => Sys2Proof.Machine.execVinWarning l mv s
  | .vinRestore l mv => Sys2Proof.Machine.execVinRestore l mv s
  | .vinReset l mv => Sys2Proof.Machine.execVinReset l mv s
  | .vcoreLow l mv => Sys2Proof.Machine.execVcoreLow l mv s
  | .clockLoss l => Sys2Proof.Machine.execClockLoss l s
  | .opChangeDone l => Sys2Proof.Machine.execOpChangeDone l s
  | .pmbusStatusPoll l status => Sys2Proof.Machine.execPmbusStatusPoll l status s
  | .pmbusAckTimeout l => Sys2Proof.Machine.execPmbusAckTimeout l s
  | .wakeRising l => Sys2Proof.Machine.execWakeRising l s
  | .wakeFalling l => Sys2Proof.Machine.execWakeFalling l s
  | .keyoffDelayExpiry l => Sys2Proof.Machine.execKeyoffDelayExpiry l s
  | .hcsNWake l => Sys2Proof.Machine.execHcsNWake l s
  | .rxdActivity l ch => Sys2Proof.Machine.execRxdActivity l ch s
  | .wakeStepReady l => Sys2Proof.Machine.execWakeStepReady l s
  | .wakeStepTimeout l d => Sys2Proof.Machine.execWakeStepTimeout l d s
  | .sleepAnswer l from_ ans => Sys2Proof.Machine.execSleepAnswer l from_ ans s
  | .sleepAnswerTimeout l from_ => Sys2Proof.Machine.execSleepAnswerTimeout l from_ s
  | .sleepCommitMessage l => Sys2Proof.Machine.execSleepCommitMessage l s
  | .sleepRollbackMessage l => Sys2Proof.Machine.execSleepRollbackMessage l s
  | .sleepSelfRollback l => Sys2Proof.Machine.execSleepSelfRollback l s
  | .selfTestDomainDone l pass ms detail => Sys2Proof.Machine.execSelfTestDomainDone l pass ms detail s
  | .debugHalt l => Sys2Proof.Machine.execDebugHalt l s
  | .scrubSlot l found => Sys2Proof.Machine.execScrubSlot l found s
  | .aonScrubSlot l found => Sys2Proof.Machine.execAonScrubSlot l found s
  | .repairDone l => Sys2Proof.Machine.execRepairDone l s
  | .mergeIdleDrain l found parityBad => Sys2Proof.Machine.execMergeIdleDrain l found parityBad s
  | .faultHandlingDone l cls => Sys2Proof.Machine.execFaultHandlingDone l cls s
  | .faultHandledTimeout l cls => Sys2Proof.Machine.execFaultHandledTimeout l cls s
  | .flockCycleStart l => Sys2Proof.Machine.execFlockCycleStart l s
  | .staticSlotActionPoint l ch slot => Sys2Proof.Machine.execStaticSlotActionPoint l ch slot s
  | .minislotBoundary l ch idle => Sys2Proof.Machine.execMinislotBoundary l ch idle s
  | .staticFrameReceived l ch f => Sys2Proof.Machine.execStaticFrameReceived l ch f s
  | .dynamicFrameReceived l ch f => Sys2Proof.Machine.execDynamicFrameReceived l ch f s
  | .commandFragment l ch source payload => Sys2Proof.Machine.execCommandFragment l ch source payload s
  | .reassemblyTimeout l source msgId => Sys2Proof.Machine.execReassemblyTimeout l source msgId s
  | .casReceived l ch => Sys2Proof.Machine.execCasReceived l ch s
  | .coldstartListenExpiry l => Sys2Proof.Machine.execColdstartListenExpiry l s
  | .collisionWaitExpiry l => Sys2Proof.Machine.execCollisionWaitExpiry l s
  | .ganderWindowEdge l ch opens active readback => Sys2Proof.Machine.execGanderWindowEdge l ch opens active readback s
  | .claimBackoffExpiry l ch => Sys2Proof.Machine.execClaimBackoffExpiry l ch s
  | .claimHolderSilent l ch slot => Sys2Proof.Machine.execClaimHolderSilent l ch slot s
  | .coreSupplyReady l nvm => Sys2Proof.Machine.execCoreSupplyReady l nvm s
  | .backAboveUvlo l supply => Sys2Proof.Machine.execBackAboveUvlo l supply s
  | .restartRecordWait l => Sys2Proof.Machine.execRestartRecordWait l s
  | .tapInstruction l t => Sys2Proof.Machine.execTapInstruction l t s

end Sys2Proof.Machine
end

