-- ==== Sys2Proof/Machine/Tick.lean ====
section
/-! DEFINITION. What happens on an empty queue (log entry 1): 1 µs passes, what the lanes have put on the herdline reaches the other lanes
as commands, and the self-tests take their turns.
Log entries: 4, 44, 46, 74 (DEDUCED); 1 (DESIGN CHOICE). -/

namespace Sys2Proof.Machine

/-! ## Time -/

/-- 1 µs of Mule mode is spent (02 R70): MULE_REMAIN counts in 10 ms. -/
def spendMule (L : LaneSt) : LaneSt :=
  if !L.inMule || L.safe.muleRemain = 0 then L
  else if L.safe.muleUs + 1 < 10000 then { L with safe := { L.safe with muleUs := L.safe.muleUs + 1 } }
  else { L with safe := { L.safe with muleUs := 0, muleRemain := L.safe.muleRemain - 1 } }

/-- The flock time of a lane 1 µs on. Where it has a clock of the flock, the L macroticks of the cycle last L and the rate correction, which is
spread evenly over them (08 R281). -/
def flockTick (L : LaneSt) : Word :=
  if L.clocked then
    let n := max 1 (L.host.run.nat Item.cycleLen)
    L.flock.cycleStart
      + BitVec.ofNat 32 ((16 * ((L.time.clk10 : Int) + 100) - L.flock.start16).toNat * n / (1600 * (n : Int) + L.flock.rate16).toNat)
  else L.time.flock + 1

/-- The clocks of a lane advance by 1 µs; without supply only the model's own does. -/
def passTime (L : LaneSt) : LaneSt :=
  let t := { L.time with clk10 := L.time.clk10 + 100 }
  if !L.start.supplied then { L with time := t }
  else
    spendMule { L with time := { t with localT := t.localT + 1, flock := flockTick L, toldUs := t.toldUs + 1, slewUs := t.slewUs + 1 },
                       start := { L.start with startClock := L.start.startClock + 1 } }

/-- The lead sends its local time every 1 ms (00 R9). -/
def tellTime (me : LaneId) (L : LaneSt) : LaneSt :=
  if L.running && L.eng.lead == some me && decide (1000 ≤ L.time.toldUs) then
    send (.time L.time.localT) { L with time := { L.time with toldUs := 0 } }
  else L

/-- Before the flock is synchronised, a stand-in cycle starts at each local time that is a multiple of FLOCK_CYCLE_LEN (03 R92), and with it
comes the flock-cycle trigger (04 R158). -/
def standInCycle (me : LaneId) (L : LaneSt) : LaneSt :=
  let n := max 1 (L.host.run.nat Item.cycleLen)
  let t := L.time.localT.toNat
  if L.running && !L.time.synced && t % n = 0 then cycleTrigger me (t / n % 64) L else L

/-! ## The herdline (01 R16–R19) -/

/-- The command that a message of lane `l` becomes at lane `r`, where it arrives when the clock shows `at10`; `now10` is the sender's. -/
def deliver (l : LaneId) (now10 : Nat) (r : LaneId) (at10 : Nat) (m : HerdMsg) : Option Instr :=
  match m with
  | .record b => (Link.between l r).map fun k => .herdSampleRecord r k b at10
  | .time t => some (.timeMessage r l t)
  | .laneDown => some (.laneDownSymbol r l)
  | .bridgeDown => some (.bridgeDownSymbol r l)
  | .exclude n => some (.excludeOrder r l n)
  | .kill n => if r = n then some (.killOrder r l) else none
  | .handover => some (.handover r l)
  | .shareOut => some (.shareOut r l)
  | .traceTrigger i => some (.traceTriggerMessage r l (now10 - i) at10)
  | .plannedSleep => some (.plannedSleep r l)
  | .safeRecord b => some (.forwardedSafeRecord r b)
  | .cut ch => if r = txLane ch then some (.ganderCutMessage r ch) else none
  | .claim ch slot => if r = .l2 then some (.claimAnnounce r ch slot) else none
  | .announce g mi c => some (.announcement r l g mi c)
  | .packet p => some (.replicatedPacket r p)
  | .result o rn x => if r = o then some (.laneResultReport r l rn x) else none
  | .prepare => some (.prepareMessage r l)
  | .prepAns a => some (.prepareAnswer r l a)
  | .apply g => some (.applyMessage r ⟨l, g⟩)
  | .sleepAns co a => if r = co then some (.sleepAnswer r l a) else none
  | .sleepCommit => some (.sleepCommitMessage r)
  | .sleepRollback => some (.sleepRollbackMessage r)
  | .remoteEvents n d i rs => some (.remoteEventMessage r n d i rs)
  | .dynFrame _ => none

/-- The commands that the messages of a lane become. -/
def delivered (s : State) (l : LaneId) : List Instr :=
  ((s.lane l).herdTx.map fun m => l.others.filterMap fun r =>
    deliver l (s.lane l).time.clk10 r ((s.lane r).time.clk10 + linkDelay) m).flatten

/-- The dynamic frames that the other lanes share reach this lane's own queue (08 R291). -/
def takeFrames (s : State) (me : LaneId) (L : LaneSt) : LaneSt :=
  (me.others.map fun j => (s.lane j).herdTx).flatten.foldl (fun L m => match m with
    | .dynFrame f => queueDyn me f L
    | _ => L) L

/-- What a lane has sent is gone. -/
def sentOff (L : LaneSt) : LaneSt := { L with herdTx := [], flockTx := [], txd := [], pow := { L.pow with pmbusOut := [] } }

/-! ## The tick -/

/-- One lane in the tick, given the device before it. -/
def tickLane (s : State) (me : LaneId) : LaneSt :=
  let L := sentOff (takeFrames s me (s.lane me))
  let L := takeTurn me s.lane (handOverDyn me s.lane (standInCycle me (passTime L)))
  tellTime me (sleepTurn me (if L.running then payReports me L else L))

/-- 1 µs passes. -/
def tick (s : State) : State := { lanes := Tri.tab (tickLane s), pending := s.pending ++ (LaneId.all.map (delivered s)).flatten }

end Sys2Proof.Machine
end

