-- ==== Sys2Proof/WellFormed.lean ====
section
/-! DEFINITION. Which commands are well formed: what the row of a command asks of its operands, where their types allow more
(01 R16; 08 R264, R267, R285, R288; 09 R298, R307; 10 R326, R330; 12 R384). A meaning is total all the same: it says what each operand does.
Log entries: 6, 53 (DEDUCED). -/

namespace Sys2Proof

/-- A transaction's words are a row's own: its command word has the row's KIND (09 Table 9-1). -/
def kindIs (k : Nat) (mosi : List Word) : Bool := match mosi with
  | w :: _ => w.toNat / 2 ^ 28 == k
  | [] => false

/-- The first address of a lane (00 R10). -/
def laneBase (l : LaneId) : Nat := l.num * 2 ^ 22

/-- A WRITE of LEN + 1 words reaches an address (09 R298). -/
def reaches (a : Nat) (mosi : List Word) : Bool := match mosi with
  | w :: _ =>
    let from_ := w.toNat % 2 ^ 24
    from_ ≤ a && a ≤ from_ + 4 * (w.toNat / 2 ^ 24 % 16) && (a - from_) % 4 == 0
  | [] => false

/-- The lane that transmits on a channel (08 R264): lane 0 on A, lane 1 on B. -/
def talker : Channel → LaneId
  | .A => .l0
  | .B => .l1

/-- The lane a command acts on. -/
def Instr.lane : Instr → LaneId
  | .spiNop l _ => l
  | .spiRead l _ _ => l
  | .spiWrite l _ => l
  | .doorbell l _ => l
  | .eqHeadWrite l _ => l
  | .laneViolClear l _ => l
  | .packetAdmission l => l
  | .replicatedPacket l _ => l
  | .laneResultReport l _ _ _ => l
  | .laneReplyWaitExpiry l _ => l
  | .timedCommandStart l _ => l
  | .hostCfgTimeout l => l
  | .hostSilentTimeout l => l
  | .hostCrcSecond l => l
  | .laneClaimTimeout l => l
  | .claimLockoutEnd l _ => l
  | .laneIdent c _ => c.lane
  | .laneRead c _ => c.lane
  | .laneStatus c _ => c.lane
  | .laneRoleSet c _ => c.lane
  | .laneOwnerClaim c _ => c.lane
  | .laneOwnerRelease c _ => c.lane
  | .laneSs1 c _ => c.lane
  | .laneSto c _ => c.lane
  | .oxGraphLoad c _ => c.lane
  | .oxTableLoad c _ => c.lane
  | .oxParamSet c _ => c.lane
  | .oxGraphInfo c _ => c.lane
  | .oxSetpoint c _ => c.lane
  | .oxManual c _ => c.lane
  | .oxAuto c _ => c.lane
  | .oxLearnStart c _ => c.lane
  | .oxLearnStop c _ => c.lane
  | .oxLearnCommit c _ => c.lane
  | .oxLearnDiscard c _ => c.lane
  | .oxNodeRead c _ => c.lane
  | .oxDebugEnter c _ => c.lane
  | .oxDebugStep c _ => c.lane
  | .oxDebugRun c _ => c.lane
  | .oxDebugExit c _ => c.lane
  | .oxTraceSetup c _ => c.lane
  | .oxTraceArm c _ => c.lane
  | .oxTraceTrigger c _ => c.lane
  | .oxTraceStop c _ => c.lane
  | .oxTraceRead c _ => c.lane
  | .motionEnable c _ => c.lane
  | .motionDisable c _ => c.lane
  | .motionVelEnter c _ => c.lane
  | .motionVelSet c _ => c.lane
  | .motionVelExit c _ => c.lane
  | .senseAlignSet c _ => c.lane
  | .senseLaneStatus c _ => c.lane
  | .gateStatus c _ => c.lane
  | .flockSchedLoad c _ => c.lane
  | .flockSubLoad c _ => c.lane
  | .flockPubLoad c _ => c.lane
  | .flockStatus c _ => c.lane
  | .flockClaimRead c _ => c.lane
  | .flockRejoin c _ => c.lane
  | .cfgBegin c _ => c.lane
  | .cfgSet c _ => c.lane
  | .cfgCommit c _ => c.lane
  | .cfgAbort c _ => c.lane
  | .cfgGet c _ => c.lane
  | .cfgStore c _ => c.lane
  | .hostSleep c _ => c.lane
  | .eventCounts c _ => c.lane
  | .integFaultRead c _ => c.lane
  | .integFaultClear c _ => c.lane
  | .integCounts c _ => c.lane
  | .powerSleep c _ => c.lane
  | .powerWake c _ => c.lane
  | .powerOpSet c _ => c.lane
  | .powerStatus c _ => c.lane
  | .startFull c _ => c.lane
  | .shutdown c _ => c.lane
  | .startBist c _ => c.lane
  | .startResults c _ => c.lane
  | .prepareMessage l _ => l
  | .prepareAnswer l _ _ => l
  | .applyMessage l _ => l
  | .configStoreDone l => l
  | .eventArrival l _ _ _ => l
  | .holdoffTimerExpiry l _ => l
  | .remoteEventMessage l _ _ _ _ => l
  | .herdSampleRecord l _ _ _ => l
  | .timeMessage l _ _ => l
  | .laneDownSymbol l _ => l
  | .bridgeDownSymbol l _ => l
  | .excludeOrder l _ _ => l
  | .killOrder l _ => l
  | .killCheck l _ _ => l
  | .handover l _ => l
  | .shareOut l _ => l
  | .shareRampEnd l _ => l
  | .traceTriggerMessage l _ _ _ => l
  | .plannedSleep l _ => l
  | .forwardedSafeRecord l _ => l
  | .ganderCutMessage l _ => l
  | .claimAnnounce l _ _ => l
  | .announcement l _ _ _ _ => l
  | .electionClose l => l
  | .fastSample l _ => l
  | .releasePoint l _ _ => l
  | .linkDown l _ => l
  | .laneSilent l _ => l
  | .tqDisagreeCount l _ => l
  | .sensorDisagree l _ _ => l
  | .tqDevCount l _ => l
  | .tqDevEnergisedCheck l _ => l
  | .rejoinComplete l => l
  | .muleTimerExpiry l => l
  | .muleEventTick l => l
  | .muleExit l => l
  | .netStaleExpiry l => l
  | .stoDiscrepancy l => l
  | .extrapolationEnd l => l
  | .hallNoEdgeTimeout l => l
  | .setpointStale l _ => l
  | .learnTimeLimit l => l
  | .sincosConversion l _ _ _ => l
  | .auxConversion l _ _ => l
  | .hallStateAccepted l _ _ => l
  | .hallGlitch l => l
  | .stoNFalling l _ => l
  | .stoNRising l => l
  | .scFastTrip l _ => l
  | .scGrossTrip l _ => l
  | .vgdUvlo l => l
  | .bootUvlo l _ => l
  | .uvloRecover l => l
  | .handshakeTimeout l _ => l
  | .prechargeEnd l _ => l
  | .offsetMeasurementDone l _ _ => l
  | .vinGood l _ _ _ => l
  | .coltSlowTimeout l => l
  | .coltHallValidHold l => l
  | .supplyLoss l => l
  | .firmwareStart l _ => l
  | .nrstN l _ => l
  | .testEn l _ => l
  | .vinWarning l _ => l
  | .vinRestore l _ => l
  | .vinReset l _ => l
  | .vcoreLow l _ => l
  | .clockLoss l => l
  | .opChangeDone l => l
  | .pmbusStatusPoll l _ => l
  | .pmbusAckTimeout l => l
  | .wakeRising l => l
  | .wakeFalling l => l
  | .keyoffDelayExpiry l => l
  | .hcsNWake l => l
  | .rxdActivity l _ => l
  | .wakeStepReady l => l
  | .wakeStepTimeout l _ => l
  | .sleepAnswer l _ _ => l
  | .sleepAnswerTimeout l _ => l
  | .sleepCommitMessage l => l
  | .sleepRollbackMessage l => l
  | .sleepSelfRollback l => l
  | .selfTestDomainDone l _ _ _ => l
  | .debugHalt l => l
  | .scrubSlot l _ => l
  | .aonScrubSlot l _ => l
  | .repairDone l => l
  | .mergeIdleDrain l _ _ => l
  | .faultHandlingDone l _ => l
  | .faultHandledTimeout l _ => l
  | .flockCycleStart l => l
  | .staticSlotActionPoint l _ _ => l
  | .minislotBoundary l _ _ => l
  | .staticFrameReceived l _ _ => l
  | .dynamicFrameReceived l _ _ => l
  | .commandFragment l _ _ _ => l
  | .reassemblyTimeout l _ _ => l
  | .casReceived l _ => l
  | .coldstartListenExpiry l => l
  | .collisionWaitExpiry l => l
  | .ganderWindowEdge l _ _ _ _ => l
  | .claimBackoffExpiry l _ => l
  | .claimHolderSilent l _ _ => l
  | .coreSupplyReady l _ => l
  | .backAboveUvlo l _ => l
  | .restartRecordWait l => l
  | .tapInstruction l _ => l

/-- Is a command well formed? -/
def Instr.wf : Instr → Bool
  | .spiNop _ mosi => kindIs 0 mosi
  | .spiRead _ mosi _ => kindIs 1 mosi
  | .spiWrite _ mosi => kindIs 2 mosi
  | .doorbell _ mosi => kindIs 3 mosi
  | .eqHeadWrite l mosi => kindIs 2 mosi && reaches (laneBase l + 0x18000C) mosi
  | .laneViolClear l mosi => kindIs 2 mosi && reaches (laneBase l + 0x000008) mosi
  | .packetAdmission _ => true
  | .replicatedPacket _ _ => true
  | .laneResultReport l f _ _ => f != l
  | .laneReplyWaitExpiry _ _ => true
  | .timedCommandStart _ _ => true
  | .hostCfgTimeout _ => true
  | .hostSilentTimeout _ => true
  | .hostCrcSecond _ => true
  | .laneClaimTimeout _ => true
  | .claimLockoutEnd _ _ => true
  | .laneIdent _ blk => blk.length ≤ 960
  | .laneRead _ blk => blk.length ≤ 960
  | .laneStatus _ blk => blk.length ≤ 960
  | .laneRoleSet _ blk => blk.length ≤ 960
  | .laneOwnerClaim _ blk => blk.length ≤ 960
  | .laneOwnerRelease _ blk => blk.length ≤ 960
  | .laneSs1 _ blk => blk.length ≤ 960
  | .laneSto _ blk => blk.length ≤ 960
  | .oxGraphLoad _ blk => blk.length ≤ 960
  | .oxTableLoad _ blk => blk.length ≤ 960
  | .oxParamSet _ blk => blk.length ≤ 960
  | .oxGraphInfo _ blk => blk.length ≤ 960
  | .oxSetpoint _ blk => blk.length ≤ 960
  | .oxManual _ blk => blk.length ≤ 960
  | .oxAuto _ blk => blk.length ≤ 960
  | .oxLearnStart _ blk => blk.length ≤ 960
  | .oxLearnStop _ blk => blk.length ≤ 960
  | .oxLearnCommit _ blk => blk.length ≤ 960
  | .oxLearnDiscard _ blk => blk.length ≤ 960
  | .oxNodeRead _ blk => blk.length ≤ 960
  | .oxDebugEnter _ blk => blk.length ≤ 960
  | .oxDebugStep _ blk => blk.length ≤ 960
  | .oxDebugRun _ blk => blk.length ≤ 960
  | .oxDebugExit _ blk => blk.length ≤ 960
  | .oxTraceSetup _ blk => blk.length ≤ 960
  | .oxTraceArm _ blk => blk.length ≤ 960
  | .oxTraceTrigger _ blk => blk.length ≤ 960
  | .oxTraceStop _ blk => blk.length ≤ 960
  | .oxTraceRead _ blk => blk.length ≤ 960
  | .motionEnable _ blk => blk.length ≤ 960
  | .motionDisable _ blk => blk.length ≤ 960
  | .motionVelEnter _ blk => blk.length ≤ 960
  | .motionVelSet _ blk => blk.length ≤ 960
  | .motionVelExit _ blk => blk.length ≤ 960
  | .senseAlignSet _ blk => blk.length ≤ 960
  | .senseLaneStatus _ blk => blk.length ≤ 960
  | .gateStatus _ blk => blk.length ≤ 960
  | .flockSchedLoad _ blk => blk.length ≤ 960
  | .flockSubLoad _ blk => blk.length ≤ 960
  | .flockPubLoad _ blk => blk.length ≤ 960
  | .flockStatus _ blk => blk.length ≤ 960
  | .flockClaimRead _ blk => blk.length ≤ 960
  | .flockRejoin _ blk => blk.length ≤ 960
  | .cfgBegin _ blk => blk.length ≤ 960
  | .cfgSet _ blk => blk.length ≤ 960
  | .cfgCommit _ blk => blk.length ≤ 960
  | .cfgAbort _ blk => blk.length ≤ 960
  | .cfgGet _ blk => blk.length ≤ 960
  | .cfgStore _ blk => blk.length ≤ 960
  | .hostSleep _ blk => blk.length ≤ 960
  | .eventCounts _ blk => blk.length ≤ 960
  | .integFaultRead _ blk => blk.length ≤ 960
  | .integFaultClear _ blk => blk.length ≤ 960
  | .integCounts _ blk => blk.length ≤ 960
  | .powerSleep _ blk => blk.length ≤ 960
  | .powerWake _ blk => blk.length ≤ 960
  | .powerOpSet _ blk => blk.length ≤ 960
  | .powerStatus _ blk => blk.length ≤ 960
  | .startFull _ blk => blk.length ≤ 960
  | .shutdown _ blk => blk.length ≤ 960
  | .startBist _ blk => blk.length ≤ 960
  | .startResults _ blk => blk.length ≤ 960
  | .prepareMessage l f => f != l
  | .prepareAnswer l f _ => f != l
  | .applyMessage _ _ => true
  | .configStoreDone _ => true
  | .eventArrival _ src cls _ => 0x10 ≤ src.toNat && src.toNat < 0xC0 && 1 ≤ cls.toNat && cls.toNat ≤ 5
  | .holdoffTimerExpiry _ _ => true
  | .remoteEventMessage _ _ _ _ _ => true
  | .herdSampleRecord l k _ _ => (k.peer l).isSome
  | .timeMessage l f _ => f != l
  | .laneDownSymbol l f => f != l
  | .bridgeDownSymbol l f => f != l
  | .excludeOrder l f _ => f != l
  | .killOrder l f => f != l
  | .killCheck l j _ => j != l
  | .handover l f => f != l
  | .shareOut l f => f != l
  | .shareRampEnd _ _ => true
  | .traceTriggerMessage l f _ _ => f != l
  | .plannedSleep l f => f != l
  | .forwardedSafeRecord _ _ => true
  | .ganderCutMessage l ch => l == talker ch
  | .claimAnnounce l _ _ => l == .l2
  | .announcement l f _ _ _ => f != l
  | .electionClose _ => true
  | .fastSample _ _ => true
  | .releasePoint _ _ _ => true
  | .linkDown _ _ => true
  | .laneSilent l j => j != l
  | .tqDisagreeCount _ _ => true
  | .sensorDisagree _ _ _ => true
  | .tqDevCount _ _ => true
  | .tqDevEnergisedCheck _ _ => true
  | .rejoinComplete _ => true
  | .muleTimerExpiry _ => true
  | .muleEventTick _ => true
  | .muleExit _ => true
  | .netStaleExpiry _ => true
  | .stoDiscrepancy _ => true
  | .extrapolationEnd _ => true
  | .hallNoEdgeTimeout _ => true
  | .setpointStale _ _ => true
  | .learnTimeLimit _ => true
  | .sincosConversion _ _ _ _ => true
  | .auxConversion _ _ _ => true
  | .hallStateAccepted _ _ _ => true
  | .hallGlitch _ => true
  | .stoNFalling _ _ => true
  | .stoNRising _ => true
  | .scFastTrip _ _ => true
  | .scGrossTrip _ _ => true
  | .vgdUvlo _ => true
  | .bootUvlo _ _ => true
  | .uvloRecover _ => true
  | .handshakeTimeout _ _ => true
  | .prechargeEnd _ _ => true
  | .offsetMeasurementDone _ _ _ => true
  | .vinGood _ _ _ _ => true
  | .coltSlowTimeout _ => true
  | .coltHallValidHold _ => true
  | .supplyLoss _ => true
  | .firmwareStart _ _ => true
  | .nrstN _ _ => true
  | .testEn _ _ => true
  | .vinWarning _ _ => true
  | .vinRestore _ _ => true
  | .vinReset _ _ => true
  | .vcoreLow _ _ => true
  | .clockLoss _ => true
  | .opChangeDone _ => true
  | .pmbusStatusPoll _ _ => true
  | .pmbusAckTimeout _ => true
  | .wakeRising _ => true
  | .wakeFalling _ => true
  | .keyoffDelayExpiry _ => true
  | .hcsNWake _ => true
  | .rxdActivity _ _ => true
  | .wakeStepReady _ => true
  | .wakeStepTimeout _ d => d != .aon
  | .sleepAnswer l f _ => f != l
  | .sleepAnswerTimeout l f => f != l
  | .sleepCommitMessage _ => true
  | .sleepRollbackMessage _ => true
  | .sleepSelfRollback _ => true
  | .selfTestDomainDone _ _ _ _ => true
  | .debugHalt _ => true
  | .scrubSlot _ _ => true
  | .aonScrubSlot _ _ => true
  | .repairDone _ => true
  | .mergeIdleDrain _ _ _ => true
  | .faultHandlingDone _ cls => 2 ≤ cls.toNat && cls.toNat ≤ 4
  | .faultHandledTimeout _ cls => 2 ≤ cls.toNat && cls.toNat ≤ 4
  | .flockCycleStart _ => true
  | .staticSlotActionPoint l ch slot => l == talker ch && 1 ≤ slot && slot ≤ 1023
  | .minislotBoundary _ _ _ => true
  | .staticFrameReceived _ _ _ => true
  | .dynamicFrameReceived _ _ _ => true
  | .commandFragment _ _ _ _ => true
  | .reassemblyTimeout _ _ _ => true
  | .casReceived _ _ => true
  | .coldstartListenExpiry _ => true
  | .collisionWaitExpiry _ => true
  | .ganderWindowEdge l _ _ _ _ => l == .l2
  | .claimBackoffExpiry _ _ => true
  | .claimHolderSilent _ _ slot => 1 ≤ slot && slot ≤ 1023
  | .coreSupplyReady _ _ => true
  | .backAboveUvlo _ _ => true
  | .restartRecordWait _ => true
  | .tapInstruction _ _ => true

end Sys2Proof
end

