-- ==== Sys2Proof/Safety.lean ====
section
/-! DEFINITION. What statements about the machine speak of: a command that completes, a lane that can take a command, gates that are off,
and the form of a state that every step keeps. -/

namespace Sys2Proof.Machine

/-- The lane can execute a command of an opcode now (09 R312, 11 R344). -/
def Ready (code : Half) (c : Ctx) (blk : List Byte) (s : State) : Prop := canRun code c blk (s.lane c.lane) = true

/-- An opcode's command has ended on its lane: only the lane changed, to `L` but for the result `r`, which its task takes (01 R41,
09 R313). -/
def ended (c : Ctx) (s : State) (r : LaneRes) (L : LaneSt) : State := s.setLane c.lane (finishTask c.lane c.tid r L)

/-- An opcode's command goes on: only the lane changed, to `L`, and its task has started. -/
def going (c : Ctx) (s : State) (L : LaneSt) : State :=
  s.setLane c.lane (updTask c.tid (fun t => { t with started := true, waiting := false }) L)

/-- The first `n` registers of an engine as a reply, least significant byte first (00 R5). -/
def regBytes (me : LaneId) (L : LaneSt) (engine n : Nat) : List Byte :=
  ((List.range n).map fun i => le32 (((engineWord me L engine (4 * i)).map (·.1)).getD 0)).flatten

/-- The slot at CQ_HEAD holds the bytes `hd`, with nothing in the merge buffer and every word decoding clean (09 R307). -/
def Lies (l : LaneId) (L : LaneSt) (hd : List Byte) : Prop :=
  L.answers = true ∧ L.int.merge = [] ∧ L.int.poisoned = [] ∧ L.int.flipped = [] ∧ L.int.parityHits = []
  ∧ slotBytes l L L.host.cqHead.toNat = hd

/-- No task of the port's flow stands, and the next task's number is free (09 R312). -/
def FlowFree (l : LaneId) (L : LaneSt) : Prop :=
  ∀ k ∈ L.host.tasks, k.tid ≠ L.host.nextTid ∧ ¬(k.origin = l ∧ some k.flow = flowOf L.host.run (.spi l) ∧ k.pkt.timed = false)

/-- From `L` to `M` a packet of `n` slots has been refused: CQ_HEAD passes it, no task is left of it, and the newest record of the event queue
is its completion, with its tag, the status and both lane masks 0 (09 R309, Table 9-7). -/
def Refused (l : LaneId) (n : Nat) (tag : Half) (st : Byte) (L M : LaneSt) : Prop :=
  let a := 0x5000 + 16 * ((M.host.eqTail - 1).toNat % L.eqRecords l)
  M.host.cqHead = L.host.cqHead + BitVec.ofNat 16 n ∧ M.host.tasks = L.host.tasks ∧ M.host.refused = satInc L.host.refused
  ∧ M.host.resv = L.host.resv ∧ (Memory.wf L.host.win = true → Store.reads 0 M.host.win (a + 8) 3 = le16 tag ++ [st]
    ∧ Store.read 0 M.host.win (a + 11) &&& 0x3F = 0)

/-- A packet of `n` segments lies whole at CQ_HEAD, `hd` its first: each with a good CRC, agreeing, with nothing in the merge buffer and every
word decoding clean (09 R307, R309). -/
def Offered (l : LaneId) (L : LaneSt) (n : Nat) (hd : List Byte) : Prop :=
  Lies l L hd ∧ n ≤ L.host.cqHeld ∧ segIndex hd = 0 ∧ segCount hd = n ∧ 1 ≤ n ∧ n ≤ 4 ∧ n ≤ L.cqSlots l ∧ totalLen hd ≤ 1024
  ∧ segsAgree hd (segments l L n) = true ∧ ∀ i, i < n → segCrcOk (totalLen hd) i ((segments l L n).getD i []) = true

/-- What words written whole change of the INTEGRITY engine: they decode clean (12 Table 12-1), and a hit on their transfer is spent and
counted (12 R375). -/
def IntEng.wrote (i k : IntEng) : IntEng :=
  { i with poisoned := k.poisoned, flipped := k.flipped, parityHits := k.parityHits, parityOwed := k.parityOwed,
           parityData := k.parityData, parityAddr := k.parityAddr }

/-- The INTEGRITY engine is as before, but for array words that were written whole. -/
def IntKept (L M : LaneSt) : Prop := M.int = L.int.wrote M.int

/-- No gate of the lane is commanded on (07 Table 7-1, Table 7-4). -/
abbrev AllGatesOff (me : LaneId) (L : LaneSt) : Prop := gateCommanded me L = false

/-- A lane is ENERGISED only while nothing holds its gates off (02 R79, R80, 05 R196). -/
def LaneSt.EnergisedOk (L : LaneSt) : Prop :=
  L.mot.energised = true → L.gate.stoHigh = true ∧ L.mot.stoHold = false ∧ L.gate.forcedOff = false

/-- The commands that can start a lane again: its supply, its resets, its firmware, and the wake of its PD_CPU (13 R393–R410). -/
def startsLane (l : LaneId) : Instr → Bool
  | .supplyLoss m => m == l
  | .vinGood m .. => m == l
  | .nrstN m _ => m == l
  | .testEn m _ => m == l
  | .vinReset m _ => m == l
  | .vcoreLow m _ => m == l
  | .firmwareStart m _ => m == l
  | .wakeStepReady m => m == l
  | _ => false

/-- Every waiting command is well formed. -/
def State.QueueWf (s : State) : Prop := ∀ i ∈ s.pending, i.wf = true

/-- The CRC word of a transaction with a command word, its data words and SEQ (09 R299). -/
def crcWord (cmd : Word) (data : List Word) (seq : Byte) : Word :=
  (seq.setWidth 32 <<< 8) ||| (crc8 (((cmd :: data).map be32).flatten ++ [seq])).setWidth 32

/-- A task of a command received here whose completion is the next of its flow: it is a timed one, or no task of the flow stands before it,
and no other task has ended (09 R312, R313). -/
def NextOut (l : LaneId) (L : LaneSt) (k : Task) : Prop :=
  L.task k.tid = some k ∧ k.origin = l ∧ k.done = false
  ∧ (k.pkt.timed = true ∨ L.host.tasks.find? (fun t => t.origin == l && t.flow == k.flow && !t.pkt.timed) = some k)
  ∧ ∀ x ∈ L.host.tasks, x.tid ≠ k.tid → x.done = false

/-- From `L` to `M` a task has ended, its completion written in place of its reservation, or sent to a remote host (09 R313, R314). -/
def Completed (l : LaneId) (k : Task) (L M : LaneSt) : Prop :=
  M.task k.tid = none
  ∧ (k.pkt.sender = .spi l → M.host.eqTail = L.host.eqTail + 1 ∧ M.host.resv = L.host.resv - 1)
  ∧ ∀ n, k.pkt.sender = .remote n → ∃ b, M.host.remoteOut = L.host.remoteOut ++ [(n.val, b)]

/-- The engines that no access of the host port and no event reaches are as before. -/
def KeepsEngines (L M : LaneSt) : Prop :=
  M.time = L.time ∧ M.eng = L.eng ∧ M.ox = L.ox ∧ M.trace = L.trace ∧ M.learn = L.learn ∧ M.mot = L.mot ∧ M.sen = L.sen ∧ M.gate = L.gate
  ∧ M.flock = L.flock ∧ M.pow = L.pow ∧ M.start = L.start ∧ M.herdTx = L.herdTx ∧ M.flockTx = L.flockTx

/-- The graph, the drive, the sensors, the gates and the safe state are as before. -/
def KeepsDrive (L M : LaneSt) : Prop :=
  M.ox = L.ox ∧ M.learn = L.learn ∧ M.mot = L.mot ∧ M.sen = L.sen ∧ M.gate = L.gate ∧ M.safe = L.safe

/-- The lane `L` with another EVENT engine and another event queue, whose words are written whole. -/
def EventOnly (L M : LaneSt) : Prop :=
  M = { L with ev := M.ev, int := L.int.wrote M.int, host := { L.host with win := M.host.win, eqTail := M.host.eqTail, lossOwed := M.host.lossOwed, eqOvf := M.host.eqOvf } }

/-- The lane `L` with another collector, trace, herdline queue, EVENT engine and event queue. -/
def ReportOnly (L M : LaneSt) : Prop :=
  M = { L with int := M.int, trace := M.trace, herdTx := M.herdTx, ev := M.ev,
               host := { L.host with win := M.host.win, eqTail := M.host.eqTail, lossOwed := M.host.lossOwed, eqOvf := M.host.eqOvf } }

/-- The latest arrival at a source's doorbell on the lane carries a class and a payload (10 R328). -/
def Posted (L : LaneSt) (src : Byte) (cls : BitVec 3) (payload : BitVec 64) : Prop :=
  ∃ a, Store.find L.ev.latest src.toNat = some a ∧ a.cls = cls ∧ a.payload = payload

/-- From `L` to `M` a report has reached the collector: with nothing in handling and its class's record free, it is latched there
(12 R385). -/
def Reported (L M : LaneSt) (src : Byte) : Prop :=
  L.int.handling = none → L.int.slot (faultClass src) = none →
    ∃ r, M.int.slot (faultClass src) = some r ∧ r.source = src ∧ r.handled = false

/-- The three lanes' fine clocks agree: the model has one time (log entry 1). -/
def State.OneTime (s : State) : Prop := ∀ l, (s.lane l).time.clk10 = (s.lane .l0).time.clk10

end Sys2Proof.Machine
end

