-- ==== Sys2Proof/Certificates/Slice0/Obligations.lean ====
section
/-! DEFINITION. What is to be proved of the model: statements from the numbered rules of the manual. -/

open Sys2Proof Sys2Proof.Machine

/-! ## The machine as a whole -/

/-- A command at the front of the queue runs with the queue's rest. -/
def Obligations.StepRunsTheFrontCommand : Prop :=
  ∀ (c : Instr) (r : List Instr) (s : State), step { s with pending := c :: r } = exec c { s with pending := r }

/-- No command stops the device, and a command changes one lane only, never the queue (01 R14): every other lane is as it was. Choices of the
model: log entries 8, 9. -/
def Obligations.CommandChangesOnlyItsLane : Prop :=
  ∀ (c : Instr) (s : State), ∃ t, exec c s = .next t ∧ t.pending = s.pending ∧ ∀ j, j ≠ c.lane → t.lane j = s.lane j

/-- Whatever a step puts into the queue is a well-formed command: herdline messages come from another lane, over the link between the two, and
cut and claim messages reach the lane they are for (01 R16, 08 R283, R284). Choices of the model: log entry 1. -/
def Obligations.StepKeepsQueueWellFormed : Prop :=
  ∀ s t : State, s.QueueWf → step s = .next t → t.QueueWf

/-- Before its first supply a lane holds its gates off, asserts no interrupt, holds nothing in its queues, shows OUTCOME RESET and no link up,
and has no graph, no fault and no role (13 R393, 09 R301, R305, 07 R237). Its queue of waiting commands is empty, so well formed. Choices
of the model: log entries 2, 65. -/
def Obligations.ResetState : Prop :=
  State.reset.pending = [] ∧ State.reset.QueueWf ∧ ∀ l, let L := State.reset.lane l
    L.start.supplied = false ∧ L.start.phase = .cold ∧ AllGatesOff l L ∧ L.ev.hirq = false
    ∧ L.host.cqHead = 0 ∧ L.host.cqTail = 0 ∧ L.host.eqHead = 0 ∧ L.host.eqTail = 0 ∧ L.host.outcome = .reset ∧ L.host.seqSynced = false
    ∧ L.ox.graphState = .none ∧ L.eng.role = .none ∧ L.eng.up01 = false ∧ L.eng.up12 = false ∧ L.eng.up20 = false ∧ L.safe.faults = []
    ∧ L.int.ce = none ∧ L.int.uc = none ∧ L.int.fa = none ∧ L.mot.energised = false
    ∧ Memory.wf L.host.win = true

/-- On an empty queue 1 µs passes (the model's choice, log entry 1): every lane's fine clock advances by it, and on a supplied lane the local
time does, and the flock time by a macrotick of the corrected rate (00 R9, 08 R281). Choices of the model: log entries 1, 46. -/
def Obligations.IdleStepPassesTime : Prop :=
  ∀ s : State, s.pending = [] → ∃ t, step s = .next t ∧ ∀ l, let T := (s.lane l).time
    ((s.lane l).start.supplied = false → (t.lane l).time = { T with clk10 := T.clk10 + 100 })
    ∧ ((s.lane l).start.supplied = true → ∃ told, (told = 0 ∨ told = T.toldUs + 1)
      ∧ (t.lane l).time = { T with clk10 := T.clk10 + 100, localT := T.localT + 1, flock := flockTick (s.lane l), toldUs := told,
                                   slewUs := T.slewUs + 1 })

/-! ## The host port (09 R297–R308, 01 R48–R50) -/

/-- A NOP is always executed; it sets LAST_SEQ to its SEQ and sets SEQ_SYNCED (R301). Completion is stated of: spiNop. -/
def Obligations.SpiNopSetsSequence : Prop :=
  ∀ (l : LaneId) (cmd : Word) (seq : Byte) (s : State), (s.lane l).answers = true → cmdKind cmd = 0 → cmdAddr cmd % 4 = 0 →
    ∃ t, exec (.spiNop l [cmd, crcWord cmd [] seq]) s = .next t
      ∧ (t.lane l).host.lastSeq = seq ∧ (t.lane l).host.seqSynced = true ∧ (t.lane l).host.outcome = .done
      ∧ (t.lane l).host.crcErr = false ∧ (t.lane l).host.seqErr = false ∧ (t.lane l).host.formatErr = false
      ∧ (∃ w, (t.lane l).host.miso = [w, 0]) ∧ (t.lane l).host.cqTail = (s.lane l).host.cqTail ∧ KeepsEngines (s.lane l) (t.lane l)
      ∧ IntKept (s.lane l) (t.lane l)

/-- A READ is always executed; SEQ_ERR follows when its SEQ is not LAST_SEQ + 1, and LAST_SEQ takes its SEQ (R301). It answers LEN + 1 data
words and the response word of R300; the data word of a register is its value, where the host's privilege covers it. One word at an
address that names another lane reads 0, completes normally, and is counted and recorded as a violation (R47, R48). Out of sequence the
response is REJECTED and every data word is 0, and such a READ counts as a violation too: these are the model's readings (log entry 53).
Completion is stated of: spiRead. -/
def Obligations.SpiReadAnswers : Prop :=
  ∀ (l : LaneId) (cmd : Word) (seq : Byte) (pad : List Word) (ecc : List (Nat × EccOutcome)) (s : State),
    (s.lane l).answers = true → cmdKind cmd = 1 → cmdAddr cmd % 4 = 0 → pad.length = cmdLen cmd + 2 →
    ∃ t, exec (.spiRead l (cmd :: crcWord cmd [] seq :: pad) ecc) s = .next t
      ∧ (t.lane l).host.lastSeq = seq ∧ (t.lane l).host.outcome = .done
      ∧ (t.lane l).host.seqErr = (seq != (s.lane l).host.lastSeq + 1) ∧ (t.lane l).host.crcErr = false ∧ (t.lane l).host.formatErr = false
      ∧ ∃ (w : Word) (ws : List (Word × Bool)), ws.length = cmdLen cmd + 1 ∧ (t.lane l).host.poison = ws.any (·.2)
        ∧ (t.lane l).host.miso = [w, 0] ++ ws.map (·.1) ++ [responseWord (ws.map (·.1)) (seq != (s.lane l).host.lastSeq + 1) (poisonMask ws)]
        ∧ (seq ≠ (s.lane l).host.lastSeq + 1 → ws = List.replicate (cmdLen cmd + 1) (0, false))
        ∧ (∀ v ownerOnly, seq = (s.lane l).host.lastSeq + 1 → cmdLen cmd = 0 → ecc = [] → (s.lane l).host.hSilent = false →
            adrLane (cmdAddr cmd) = l.num → adrEngine (cmdAddr cmd) < 6 → arrayWord (cmdAddr cmd) = none →
            engineWord l (s.lane l) (adrEngine (cmdAddr cmd)) (adrOffset (cmdAddr cmd)) = some (v, ownerOnly) →
            ownerOnly = false ∨ (s.lane l).priv (.spi l) = .owner → ws = [(v, false)])
        ∧ (cmdLen cmd = 0 → ecc = [] → adrLane (cmdAddr cmd) ≠ l.num → ws = [(0, false)]
          ∧ (t.lane l).eng = { (s.lane l).eng with violCount := satInc (s.lane l).eng.violCount, violAddr := BitVec.ofNat 24 (cmdAddr cmd),
                                                   violWrite := false, violUnmapped := true })

/-- A write of any value by the OWNER to LANE offset 0x008 clears LANE_VIOL_COUNT and the last violation of offset 0x00C. A write to the
read-only registers 0x000 and 0x004 is a violation, counted and recorded, and writes nothing (R50). Completion is stated of:
laneViolClear, spiWrite. -/
def Obligations.AccessViolations : Prop :=
  (∀ (l : LaneId) (cmd v : Word) (seq : Byte) (s : State), let L := s.lane l
    L.answers = true → L.host.seqSynced = true → seq = L.host.lastSeq + 1 → cmdKind cmd = 2 → cmdLen cmd = 0 →
    cmdAddr cmd % 4 = 0 → adrLane (cmdAddr cmd) = l.num → adrEngine (cmdAddr cmd) = 0 → adrOffset (cmdAddr cmd) = 0x008 →
    L.priv (.spi l) = .owner →
    ∃ t, exec (.laneViolClear l [cmd, v, crcWord cmd [v] seq]) s = .next t ∧ (t.lane l).host.outcome = .done
      ∧ (t.lane l).eng = { L.eng with violCount := 0, violAddr := 0, violWrite := false, violUnmapped := false })
  ∧ (∀ (l : LaneId) (cmd v : Word) (seq : Byte) (s : State), let L := s.lane l
    L.answers = true → L.host.seqSynced = true → seq = L.host.lastSeq + 1 → cmdKind cmd = 2 → cmdLen cmd = 0 → cmdAddr cmd % 4 = 0 →
    adrLane (cmdAddr cmd) = l.num → adrEngine (cmdAddr cmd) = 0 → (adrOffset (cmdAddr cmd) = 0x000 ∨ adrOffset (cmdAddr cmd) = 0x004) →
    ∃ t, exec (.spiWrite l [cmd, v, crcWord cmd [v] seq]) s = .next t ∧ (t.lane l).host.outcome = .done
      ∧ (∀ a < 0x5000, Store.read 0 (t.lane l).host.win a = Store.read 0 L.host.win a)
      ∧ (t.lane l).eng = { L.eng with violCount := satInc L.eng.violCount, violAddr := BitVec.ofNat 24 (cmdAddr cmd), violWrite := true,
                                      violUnmapped := false })

/-- A WRITE is executed only when SEQ_SYNCED is set and its SEQ is LAST_SEQ + 1; one that equals the last executed transaction is a repeat and
is not executed again; any other sets SEQ_ERR and leaves LAST_SEQ (R301). What is not executed changes no byte of the window outside the
event queue, which takes the event of the transaction's start (10 R334), no queue index that a host writes and no register of another
engine. A write of one word to another lane's address changes no slot and is a violation (R47, R48), as is one to LANE offset 0x008 by a
host without OWNER, by the model's reading (log entry 13). Completion is stated of: spiWrite, laneViolClear. -/
def Obligations.SpiWriteFollowsSequence : Prop :=
  ∀ (l : LaneId) (cmd : Word) (data : List Word) (seq : Byte) (s : State), let L := s.lane l
    L.answers = true → cmdKind cmd = 2 → cmdAddr cmd % 4 = 0 → data.length = cmdLen cmd + 1 →
    ∃ t, exec (.spiWrite l (cmd :: data ++ [crcWord cmd data seq])) s = .next t
      ∧ (L.host.seqSynced = true ∧ seq = L.host.lastSeq + 1 → (t.lane l).host.outcome = .done ∧ (t.lane l).host.lastSeq = seq
          ∧ (t.lane l).host.seqErr = false)
      ∧ (¬(L.host.seqSynced = true ∧ seq = L.host.lastSeq + 1) → (t.lane l).host.lastSeq = L.host.lastSeq ∧ (t.lane l).host.cqTail = L.host.cqTail
          ∧ (t.lane l).host.eqHead = L.host.eqHead ∧ (t.lane l).host.cqHead = L.host.cqHead ∧ IntKept L (t.lane l) ∧ KeepsEngines L (t.lane l)
          ∧ (L.eqRecords l ≤ 1024 → ∀ a, (a < 0x5000 ∨ 0x9000 ≤ a) → Store.read 0 (t.lane l).host.win a = Store.read 0 L.host.win a)
          ∧ if seq = L.host.lastSeq ∧ L.host.lastCmd = some (cmd, crc8 (((cmd :: data).map be32).flatten ++ [seq]))
            then (t.lane l).host.outcome = .repeated ∧ (t.lane l).host.seqErr = false
            else (t.lane l).host.outcome = .notDone ∧ (t.lane l).host.seqErr = true)
      ∧ (L.host.seqSynced = true → seq = L.host.lastSeq + 1 → cmdLen cmd = 0 → adrLane (cmdAddr cmd) ≠ l.num →
          (∀ a < 0x5000, Store.read 0 (t.lane l).host.win a = Store.read 0 L.host.win a)
          ∧ (t.lane l).eng = { L.eng with violCount := satInc L.eng.violCount, violAddr := BitVec.ofNat 24 (cmdAddr cmd), violWrite := true,
                                          violUnmapped := true })
      ∧ ∀ v, L.host.seqSynced = true → seq = L.host.lastSeq + 1 → data = [v] → adrLane (cmdAddr cmd) = l.num →
          adrEngine (cmdAddr cmd) = 0 → adrOffset (cmdAddr cmd) = 0x008 → L.priv (.spi l) ≠ .owner →
          ∃ u, exec (.laneViolClear l [cmd, v, crcWord cmd [v] seq]) s = .next u ∧ (u.lane l).host.outcome = .done
            ∧ (u.lane l).eng = { L.eng with violCount := satInc L.eng.violCount, violAddr := BitVec.ofNat 24 (cmdAddr cmd), violWrite := true,
                                            violUnmapped := false }

/-- Two words written in sequence to a free command slot, with no parity error on their way, stand in the window, least significant byte first
(R304, 00 R5); no other byte outside the event queue changes. Completion is stated of: spiWrite. -/
def Obligations.SpiWriteFillsCommandSlot : Prop :=
  ∀ (l : LaneId) (cmd v w : Word) (seq : Byte) (s : State), let L := s.lane l
    let o := adrOffset (cmdAddr cmd)
    L.answers = true → Memory.wf L.host.win = true → L.host.seqSynced = true → seq = L.host.lastSeq + 1 → cmdKind cmd = 2 → cmdLen cmd = 1 →
    adrLane (cmdAddr cmd) = l.num → adrEngine (cmdAddr cmd) = 6 → o % 8 = 0 → slotFree l L o = true →
    L.eqRecords l ≤ 1024 → L.int.parityHits = [] →
    ∃ t, exec (.spiWrite l [cmd, v, w, crcWord cmd [v, w] seq]) s = .next t
      ∧ Store.reads 0 (t.lane l).host.win o 8 = le32 v ++ le32 w
      ∧ ∀ a, (a < o ∨ o + 8 ≤ a) → (a < 0x5000 ∨ 0x9000 ≤ a) → Store.read 0 (t.lane l).host.win a = Store.read 0 L.host.win a

/-- A DOORBELL in sequence whose new tail meets the two conditions of R308 gives CQ_TAIL that tail, and holds the doorbell until CQ_HEAD
reaches it; a tail that breaks one is a format error and CQ_TAIL keeps its value. A WRITE of EQ_HEAD in sequence frees the records below
it: EQ_HEAD takes the value unless more records than EQ_RECORDS would be held, and HIRQ_N is released when the queue becomes empty; the
command queue stays (R305, 10 R337). Completion is stated of: doorbell, eqHeadWrite. -/
def Obligations.QueueIndexWrites : Prop :=
  (∀ (l : LaneId) (cmd d : Word) (seq : Byte) (s : State), let L := s.lane l
    let T : Half := d.setWidth 16
    let good := (T - L.host.cqHead).toNat ≤ L.cqSlots l ∧ (T - L.host.cqTail).toNat ≤ (T - L.host.cqHead).toNat
    L.answers = true → L.host.seqSynced = true → seq = L.host.lastSeq + 1 → cmdKind cmd = 3 → cmdLen cmd = 0 → cmdAddr cmd % 4 = 0 →
    adrLane (cmdAddr cmd) = l.num → adrEngine (cmdAddr cmd) = 6 → adrOffset (cmdAddr cmd) = 0x004 →
    ∃ t, exec (.doorbell l [cmd, d, crcWord cmd [d] seq]) s = .next t
      ∧ (good → (t.lane l).host.cqTail = T ∧ (t.lane l).host.dbHeld = (T != L.host.cqHead) ∧ (t.lane l).host.outcome = .done
          ∧ (t.lane l).host.lastSeq = seq ∧ (t.lane l).host.formatErr = false)
      ∧ (¬good → (t.lane l).host.cqTail = L.host.cqTail ∧ (t.lane l).host.formatErr = true ∧ (t.lane l).host.outcome = .notDone
          ∧ (t.lane l).host.lastSeq = L.host.lastSeq))
  ∧ (∀ (l : LaneId) (cmd v : Word) (seq : Byte) (s : State), let L := s.lane l
    let h : Half := v.setWidth 16
    L.answers = true → L.host.seqSynced = true → seq = L.host.lastSeq + 1 → cmdKind cmd = 2 → cmdLen cmd = 0 →
    cmdAddr cmd % 4 = 0 → adrLane (cmdAddr cmd) = l.num → adrEngine (cmdAddr cmd) = 6 → adrOffset (cmdAddr cmd) = 0x00C →
    (L.host.eqTail - h).toNat ≤ L.eqRecords l → (L.host.eqTail + 1 - h).toNat ≤ L.eqRecords l →
    ∃ t, exec (.eqHeadWrite l [cmd, v, crcWord cmd [v] seq]) s = .next t
      ∧ (t.lane l).host.eqHead = h ∧ (t.lane l).host.lastSeq = seq ∧ (t.lane l).host.outcome = .done
      ∧ (t.lane l).host.cqTail = L.host.cqTail ∧ (t.lane l).host.cqHead = L.host.cqHead ∧ KeepsEngines L (t.lane l)
      ∧ (L.route 0x94 = 0 → L.ev.pending = [] → L.host.eqTail = h → (t.lane l).ev.hirq = false))

/-- Every transaction of the port, and every step, keeps the host windows in their canonical form (the model's form, log entry 6). Whatever
the front command is, a lane that is forced off stays so, but for a loss or return of its supply, a reset or a new start of its lane logic
(02 R65, 13 R395), and STO_N stays low but for its own rise (02 R79): meanwhile no gate of the lane is on. A lane is ENERGISED only with
STO_N high, no STO held and nothing forcing its gates off, and every step keeps this (02 R80, 05 R196). Choices of the model: log entries
6, 9. -/
def Obligations.PortKeepsWindowCanonical : Prop :=
  (∀ (l : LaneId) (mosi : List Word) (ecc : List (Nat × EccOutcome)) (i : Instr) (s t : State),
    (i = .spiNop l mosi ∨ i = .spiRead l mosi ecc ∨ i = .spiWrite l mosi ∨ i = .doorbell l mosi ∨ i = .eqHeadWrite l mosi
      ∨ i = .laneViolClear l mosi) →
    Memory.wf (s.lane l).host.win = true → exec i s = .next t → Memory.wf (t.lane l).host.win = true)
  ∧ (∀ s t : State, step s = .next t →
    ((∀ l, Memory.wf (s.lane l).host.win = true) → ∀ l, Memory.wf (t.lane l).host.win = true)
    ∧ (∀ l, (s.lane l).gate.forcedOff = true → (∀ i, s.pending.head? = some i → startsLane l i = false) →
        (t.lane l).gate.forcedOff = true ∧ AllGatesOff l (t.lane l))
    ∧ (∀ l, (s.lane l).gate.stoHigh = false → s.pending.head? ≠ some (.stoNRising l) →
        (t.lane l).gate.stoHigh = false ∧ AllGatesOff l (t.lane l))
    ∧ ((∀ l, (s.lane l).EnergisedOk) → ∀ l, (t.lane l).EnergisedOk))

/-- A port on which no transaction arrives for HOST_SILENT_TIME raises an H report, and a port that has carried none with a CRC error for a
second ends its own (R303, 02 Table 2-1). Neither touches the queues of the port. Completion is stated of: hostSilentTimeout,
hostCrcSecond. -/
def Obligations.PortReportsBeginAndEnd : Prop :=
  ∀ (l : LaneId) (s : State), let L := s.lane l
    (L.answers = true → L.host.asleep = false → L.host.hSilent = false → L.host.run.nat Item.silentTime ≠ 0 →
      ∃ t, exec (.hostSilentTimeout l) s = .next t ∧ (t.lane l).host.hSilent = true ∧ (t.lane l).hasFault .host l = true
        ∧ (t.lane l).host.hCrc = L.host.hCrc ∧ (t.lane l).host.tasks = L.host.tasks ∧ (t.lane l).host.cqTail = L.host.cqTail)
    ∧ (L.running = true → L.host.hCrc = true →
      ∃ t, exec (.hostCrcSecond l) s = .next t ∧ (t.lane l).host = { L.host with hCrc := false, crcTimes := [] }
        ∧ ((∀ f ∈ L.safe.faults, f.kind = .host → f.lane = l → f.part = 0) → (t.lane l).hasFault .host l = false)
        ∧ KeepsEngines L (t.lane l) ∧ (t.lane l).int = L.int)

/-! ## Opcodes that only read (11 R349, R353–R362) -/

/-- The status opcodes return the registers of their engine, and change nothing of the lane (11 R349, R353, Tables 11-4, 11-5): LANE
0x000–0x018 for the holder of OWNER, with 0x008 and 0x00C reading 0 for any other host, SENSE 0x000–0x010, GATE 0x000–0x008, FLOCK
0x000–0x01C, POWER 0x000–0x00C and INTEGRITY 0x000–0x03C. Completion is stated of: laneStatus, senseLaneStatus, gateStatus, flockStatus,
powerStatus, integCounts. -/
def Obligations.StatusOpcodesReturnRegisters : Prop :=
  (∀ (c : Ctx) (s : State), let L := s.lane c.lane
    (Ready 0x0103 c [] s → L.ownerOf c.tid c.sender = true →
      exec (.laneStatus c []) s = .next (ended c s (replyRes (regBytes c.lane L 0 7)) L))
    ∧ (Ready 0x0410 c [] s → exec (.senseLaneStatus c []) s = .next (ended c s (replyRes (regBytes c.lane L 3 5)) L))
    ∧ (Ready 0x0501 c [] s → exec (.gateStatus c []) s = .next (ended c s (replyRes (regBytes c.lane L 4 3)) L))
    ∧ (Ready 0x0610 c [] s → exec (.flockStatus c []) s = .next (ended c s (replyRes (regBytes c.lane L 5 8)) L))
    ∧ (Ready 0x0A10 c [] s → exec (.powerStatus c []) s = .next (ended c s (replyRes (regBytes c.lane L 9 4)) L))
    ∧ (Ready 0x0903 c [] s → exec (.integCounts c []) s = .next (ended c s (replyRes (regBytes c.lane L 8 16)) L)))
  ∧ (∀ (c : Ctx) (s : State), Ready 0x0103 c [] s →
    ∃ b, exec (.laneStatus c []) s = .next (ended c s (replyRes b) (s.lane c.lane)) ∧ b.length = 28
      ∧ ((s.lane c.lane).ownerOf c.tid c.sender = false → (b.drop 8).take 8 = zeros 8)
      ∧ b.take 8 = (regBytes c.lane (s.lane c.lane) 0 2))

/-- LANE_IDENT (11 R354, Table 11-6), INTEG_FAULT_READ (R362), EVENT_COUNTS (10 R343), START_RESULTS (11 R371) and OX_GRAPH_INFO (R360, Table
11-9) return every byte that these lay out, and change nothing of the lane. Choices of the model: log entry 3. Completion is stated of:
laneIdent, integFaultRead, eventCounts, startResults, oxGraphInfo. -/
def Obligations.RecordOpcodesReturnRecords : Prop :=
  ∀ (c : Ctx) (s : State), let L := s.lane c.lane
    (∀ im : Option Image, L.start.image = im → Ready 0x0101 c [] s →
      exec (.laneIdent c []) s = .next (ended c s (replyRes ([0x64, 0x72, 0x02, BitVec.ofNat 8 c.lane.num] ++ le32 Config.romVersion
        ++ le64 (Config.dieId c.lane) ++ [BitVec.ofNat 8 L.start.imgInUse.num] ++ le24 ((im.map (·.gen)).getD 0)
        ++ [BitVec.ofNat 8 ((if L.host.run.t2 then 1 else 0) + (if L.minimal then 2 else 0)), L.start.bootCount] ++ le16 L.start.patchLevel
        ++ zeros 8)) L))
    ∧ (Ready 0x0901 c [] s → exec (.integFaultRead c []) s
        = .next (ended c s (replyRes (recBytes L.int.ce ++ recBytes L.int.uc ++ recBytes L.int.fa ++ [L.int.ovf.setWidth 8, 0, 0, 0])) L))
    ∧ (Ready 0x0801 c [] s → ∃ b, exec (.eventCounts c []) s = .next (ended c s (replyRes b) L) ∧ b.length = 288
      ∧ b.take 256 = Store.reads 0 L.ev.cnt 0 256
      ∧ ∀ n < 256, (byteAt b (256 + n / 8)).getLsbD (n % 8) = L.ev.pending.contains n)
    ∧ (Ready 0x0B10 c [] s → exec (.startResults c []) s
        = .next (ended c s (replyRes (bootRecord L ++ fitBytes 32 L.start.startTests ++ L.start.testResult.bytes)) L))
    ∧ (∀ g : Conf, Ready 0x0204 c [] s → g = (if L.ox.graphState = .none then {} else L.host.run) →
      exec (.oxGraphInfo c []) s = .next (ended c s (replyRes (
        [BitVec.ofNat 8 (g.partNodes 0).length, BitVec.ofNat 8 (g.partNodes 1).length, BitVec.ofNat 8 (g.partNodes 2).length,
          BitVec.ofNat 8 (L.ox.graphState.code + (if L.ox.signature then 4 else 0))] ++ le16 (BitVec.ofNat 16 g.tableTop)
        ++ [BitVec.ofNat 8 (g.graph.filter fun p => p.2.tracked).length, L.eng.gen] ++ le32 g.graphCrc
        ++ le32 ((L.host.trans.map (·.want.graphCrc)).getD 0))) L))

/-- LANE_READ of another lane contributes nothing; of its own it returns the poison mask and the words, as its own port would read them
(R355). Completion is stated of: laneRead. -/
def Obligations.LaneReadReturnsWords : Prop :=
  ∀ (c : Ctx) (blk : List Byte) (s : State), let L := s.lane c.lane
    let addr := fieldOf (rd32 blk 0) 0 24
    let n := (byteAt blk 3).toNat
    Ready 0x0102 c blk s → blk.length = 4 → addr % 4 = 0 → adrLane addr < 3 → 1 ≤ n → n ≤ 128 → adrOffset addr + 4 * n ≤ 2 ^ 18 →
    L.minimal = false → L.healthyNum (adrLane addr) = true →
    (adrLane addr ≠ c.lane.num → exec (.laneRead c blk) s = .next (ended c s okRes L))
    ∧ (adrLane addr = c.lane.num → ∃ ws M, hostReads c.lane (L.ownerOf c.tid c.sender) addr n [] L = (ws, M) ∧ ws.length = n
        ∧ exec (.laneRead c blk) s = .next (ended c s (replyRes (poisonBytes ws ++ (ws.map fun w => le32 w.1).flatten)) M))

/-- CFG_GET returns each named item with its running value, or with its staged value where one is staged and asked for (R359); OX_TRACE_READ
returns a probe's descriptor and samples from a ring index on (R361); FLOCK_CLAIM_READ returns up to 32 claim entries (R358). None changes
the lane. OX_NODE_READ of one node returns its entry of Table 11-10 and clears the SAT bit it read; every other node keeps its state.
Completion is stated of: cfgGet, oxTraceRead, flockClaimRead, oxNodeRead. -/
def Obligations.ReadOpcodesReturnData : Prop :=
  (∀ (c : Ctx) (blk : List Byte) (s : State), let L := s.lane c.lane
    (∀ id : Half, Ready 0x0705 c blk s → blk = [0, 1, 0, 0] ++ le16 id → (itemDef id.toNat).isSome = true →
      exec (.cfgGet c blk) s = .next (ended c s (replyRes (le16 id ++ zeros 2 ++ le32 (L.host.run.item id.toNat))) L))
    ∧ (∀ (id : Half) (t : Trans) (v : Word), Ready 0x0705 c blk s → blk = [1, 1, 0, 0] ++ le16 id → (itemDef id.toNat).isSome = true →
      L.host.trans = some t → Store.find t.staged id.toNat = some v →
      exec (.cfgGet c blk) s = .next (ended c s (replyRes (le16 id ++ zeros 2 ++ le32 v)) L))
    ∧ (∀ (p : Probe) (first : Half) (n : Byte) (k : Byte), Ready 0x0254 c blk s →
      blk = [BitVec.ofNat 8 c.lane.num, k] ++ le16 first ++ [n, 0, 0, 0] → k.toNat < 8 → L.trace.probes.getD k.toNat {} = p → p.en = true →
      1 ≤ n.toNat → n.toNat ≤ 64 → first.toNat < p.depth → n.toNat ≤ p.samples → L.eng.healthy.get c.lane = true →
      exec (.oxTraceRead c blk) s = .next (ended c s (replyRes (p.bytes ++ ringRead L p first.toNat n.toNat)) L))
    ∧ (∀ (ch : Channel) (start : Half), Ready 0x0611 c blk s → blk = [BitVec.ofNat 8 ch.num, 0] ++ le16 start → 1 ≤ start.toNat →
      start.toNat ≤ 1023 →
      exec (.flockClaimRead c blk) s = .next (ended c s (replyRes (((((((L.host.run.slots ch).filter fun p => p.2.spare && start.toNat ≤ p.1).map
        (·.1)).take 32).map (claimBytes (L.chan ch))).flatten))) L)))
  ∧ (∀ (c : Ctx) (n : Byte) (s : State), let L := s.lane c.lane
    let blk := [1, n] ++ zeros 18
    Ready 0x0230 c blk s → (L.host.run.node n.toNat).typ ≠ 0 →
    exec (.oxNodeRead c blk) s
      = .next (ended c s (replyRes (nodeEntry L n.toNat)) (updNode n.toNat (fun x => { x with sat := false }) L)))

/-! ## Admission, replication and results (01 R40, R41; 09 R309–R315) -/

/-- A packet that passes every check and finds a completion record, a reply slot and a task free is admitted: CQ_HEAD advances, a completion
record is reserved, and its task is made, replicated unless the opcode is local. A packet that fails a check is refused: CQ_HEAD passes
it, no task remains, and its completion, where no command of its flow stands before it, carries the status of the check: NOT_PERMITTED
where its privilege does not cover its opcode, LANE_EXCLUDED on an excluded or debugged lane, BAD_CRC for a segment whose CRC fails,
BAD_PARAM for segments that disagree, TOO_LARGE beyond 4 segments, 1,024 bytes or the queue. A slot that holds no first segment is
discarded and counted. A packet that waits stays at CQ_HEAD, and WAIT names what it waits for (R307, R309, R310, R312, R322, 01 R42, R52).
Completion is stated of: packetAdmission. -/
def Obligations.AdmissionChecksThePacket : Prop :=
  (∀ (l : LaneId) (n : Nat) (hd : List Byte) (s : State), let L := s.lane l
    let p := joinSegs (.spi l) hd (segments l L n)
    Offered l L n hd → packetFault L (byteAt hd 7) p = none →
    (∀ o, opInfo p.opcode = some o → packetDenied L p = none → waitFor l p L = 0 →
      ∃ t, exec (.packetAdmission l) s = .next t ∧ (t.lane l).host.cqHead = L.host.cqHead + BitVec.ofNat 16 n ∧ (t.lane l).host.resv = L.host.resv + 1
        ∧ (t.lane l).host.admitted = satInc L.host.admitted
        ∧ (∃ k, (t.lane l).host.tasks = L.host.tasks ++ [k] ∧ k.pkt = p ∧ k.origin = l ∧ k.done = false ∧ k.isLocal = o.isLocal)
        ∧ (o.isLocal = true → (t.lane l).herdTx = L.herdTx) ∧ (o.isLocal = false → ∃ m, (t.lane l).herdTx = L.herdTx ++ [.packet m] ∧ m.pkt = p)
        ∧ (t.lane l).host.win = L.host.win)
    ∧ (∀ o, opInfo p.opcode = some o → (L.priv (.spi l)).covers o.priv = false → recordFree l L = true → FlowFree l L →
      ∃ t, exec (.packetAdmission l) s = .next t ∧ Refused l n p.tag stNotPermitted L (t.lane l) ∧ (t.lane l).herdTx = L.herdTx)
    ∧ (∀ o, opInfo p.opcode = some o → (L.priv (.spi l)).covers o.priv = true → o.isLocal = false → L.eng.excluded = true ∨ L.eng.debug = true →
      recordFree l L = true → FlowFree l L →
      ∃ t, exec (.packetAdmission l) s = .next t ∧ Refused l n p.tag stLaneExcluded L (t.lane l) ∧ (t.lane l).herdTx = L.herdTx))
  ∧ (∀ (l : LaneId) (n : Nat) (hd : List Byte) (s : State), let L := s.lane l
    let p := joinSegs (.spi l) hd (segments l L n)
    (∀ st, Offered l L n hd → packetFault L (byteAt hd 7) p = some st → recordFree l L = true → FlowFree l L →
      ∃ t, exec (.packetAdmission l) s = .next t ∧ Refused l n p.tag st L (t.lane l) ∧ (t.lane l).herdTx = L.herdTx)
    ∧ (Lies l L hd → segIndex hd = 0 → segCount hd = n → n ≤ 4 → n ≤ L.cqSlots l → totalLen hd ≤ 1024 → 1 ≤ n → n ≤ L.host.cqHeld →
      ((∃ i < n, segCrcOk (totalLen hd) i ((segments l L n).getD i []) = false) → recordFree l L = true →
        recordFree l (report l 0x59 0 0 L) = true → FlowFree l L →
        ∃ t, exec (.packetAdmission l) s = .next t ∧ Refused l n p.tag stBadCrc L (t.lane l) ∧ Reported L (t.lane l) 0x59)
      ∧ ((∀ i < n, segCrcOk (totalLen hd) i ((segments l L n).getD i []) = true) → segsAgree hd (segments l L n) = false →
        recordFree l L = true → FlowFree l L →
        ∃ t, exec (.packetAdmission l) s = .next t ∧ Refused l n p.tag stBadParam L (t.lane l)))
    ∧ (Lies l L hd → segIndex hd = 0 → 4 < segCount hd ∨ 1024 < totalLen hd ∨ L.cqSlots l < segCount hd → L.host.cqHeld ≠ 0 →
      recordFree l L = true → FlowFree l L →
      ∃ t, exec (.packetAdmission l) s = .next t ∧ Refused l 1 (rd16 hd 2) stTooLarge L (t.lane l))
    ∧ (Lies l L hd → segIndex hd ≠ 0 → L.host.cqHeld ≠ 0 →
      exec (.packetAdmission l) s = .next (s.setLane l (advanceCq 1 { L with host := { L.host with cqDiscard := satInc L.host.cqDiscard } }))))
  ∧ (∀ (l : LaneId) (n : Nat) (hd : List Byte) (s : State), let L := s.lane l
    let p := joinSegs (.spi l) hd (segments l L n)
    Offered l L n hd → packetFault L (byteAt hd 7) p = none → packetDenied L p = none → waitFor l p L ≠ 0 →
    exec (.packetAdmission l) s = .next (s.setLane l { L with host := { L.host with wait := waitFor l p L } }))

/-- The lead (or the lane that numbers in its place, log entry 72) numbers an unnumbered packet with the next replication number and announces
it, and no other lane does; a numbered packet of another lane becomes a task of each healthy lane, in whose own flow it completes nothing,
with the privilege that admitted it (01 R58); a copy of one taken before makes no second task. It leaves the port's queues (01 R40).
Completion is stated of: replicatedPacket. -/
def Obligations.ReplicationNumbersPackets : Prop :=
  ∀ (l : LaneId) (m : ReplMsg) (s : State), let L := s.lane l
    L.running = true → L.eng.healthy.get l = true → L.eng.excluded = false → L.eng.debug = false → m.origin ≠ l →
    (m.rn = none → L.numbers l = true → L.eng.numbered.get m.origin ≤ m.oseq → m.minimal = L.minimal →
      ∃ t, exec (.replicatedPacket l m) s = .next t ∧ (t.lane l).herdTx = L.herdTx ++ [.packet { m with rn := some L.eng.nextRn }]
        ∧ (t.lane l).eng.nextRn = L.eng.nextRn + 1
        ∧ ∃ k, (t.lane l).host.tasks = L.host.tasks ++ [k] ∧ k.pkt = m.pkt ∧ k.rn = some L.eng.nextRn ∧ k.origin = m.origin ∧ k.priv = m.priv)
    ∧ (∀ n, m.rn = some n → m.oseq < L.eng.numbered.get m.origin →
      exec (.replicatedPacket l m) s = .next (s.setLane l { L with eng := { L.eng with nextRn := max L.eng.nextRn (n + 1) } }))
    ∧ (∀ n, m.rn = some n → L.eng.numbered.get m.origin ≤ m.oseq → m.minimal = L.minimal →
      ∃ t, exec (.replicatedPacket l m) s = .next t ∧ (t.lane l).herdTx = L.herdTx ∧ (t.lane l).eng.nextRn = max L.eng.nextRn (n + 1)
        ∧ ∃ k, (t.lane l).host.tasks = L.host.tasks ++ [k] ∧ k.pkt = m.pkt ∧ k.rn = some n ∧ k.origin = m.origin ∧ k.priv = m.priv)
    ∧ (m.rn = none → L.numbers l = false → exec (.replicatedPacket l m) s = .next s)

/-- A lane's result is kept until every lane that takes part has reported. The result that completes a replicated command writes one
completion record at EQ_TAIL, in place of its reservation, or sends it to its remote host; at LANE_REPLY_WAIT a command whose lanes have
not all reported completes, but not one that waits for a store (09 R320). The status is OK when every lane succeeded, else that of the
lowest-numbered failing lane, else TIMEOUT (01 R41, 09 R313). Choices of the model: log entries 23, 72. Completion is stated of:
laneResultReport, laneReplyWaitExpiry. -/
def Obligations.ReplicatedResults : Prop :=
  (∀ (l j : LaneId) (rn : Nat) (r : LaneRes) (k : Task) (s : State), let L := s.lane l
    L.running = true → L.taskOf l rn = some k → NextOut l L k → k.part.get j = true → k.pkt.noCompletion = false → k.pkt.opcode ≠ 0x0710 →
    (∀ i, i ≠ j → k.part.get i = true → (k.results.get i).isSome = true) →
    ∃ t, exec (.laneResultReport l j rn r) s = .next t ∧ Completed l k L (t.lane l) ∧ KeepsEngines L (t.lane l))
  ∧ (∀ (l j i : LaneId) (rn : Nat) (r : LaneRes) (k : Task) (s : State), let L := s.lane l
    L.running = true → L.taskOf l rn = some k → L.task k.tid = some k → k.part.get j = true → i ≠ j → k.part.get i = true → k.results.get i = none →
    L.eng.healthy.get i = true →
    exec (.laneResultReport l j rn r) s = .next (s.setLane l
      (updTask k.tid (fun x =>
        { x with results := x.results.set j (some r), started := x.started || j == l, waiting := x.waiting && !(j == l) }) L)))
  ∧ (∀ (l j : LaneId) (rn : Nat) (r : LaneRes) (s : State), let L := s.lane l
    L.running = true → L.taskOf l rn = none → exec (.laneResultReport l j rn r) s = .next s)
  ∧ (∀ (l : LaneId) (k : Task) (s : State), let L := s.lane l
    L.running = true → NextOut l L k → k.isLocal = false → k.delayed = false →
    (waitsForStore L k = true → exec (.laneReplyWaitExpiry l k.tid) s = .next s)
    ∧ (waitsForStore L k = false → k.pkt.noCompletion = false → k.pkt.opcode ≠ 0x0710 →
      ∃ t, exec (.laneReplyWaitExpiry l k.tid) s = .next t ∧ Completed l k L (t.lane l)))
  ∧ (∀ (code : Half) (part : Tri Bool) (rs : Tri (Option LaneRes)), let j := joinResults code part rs
    ((∀ l, part.get l = true → ∃ r, rs.get l = some r ∧ r.status = stOk) → j.status = stOk)
    ∧ (∀ l r, part.get l = true → rs.get l = some r → r.status ≠ stOk →
        (∀ i x, i.num < l.num → part.get i = true → rs.get i = some x → x.status = stOk) → j.status = r.status)
    ∧ ((∀ l r, part.get l = true → rs.get l = some r → r.status = stOk) → (∃ l, part.get l = true ∧ rs.get l = none) → j.status = stTimeout))

/-- A timed command waits until the flock time is at or after EXEC_AT, and then has its effect: a timed LANE_STO is taken for the next fast
sample (R315, 11 R368). Choices of the model: log entries 24, 72. Completion is stated of: timedCommandStart. -/
def Obligations.TimedCommandStarts : Prop :=
  ∀ (l : LaneId) (k : Task) (s : State), let L := s.lane l
    L.running = true → L.task k.tid = some k → k.pkt.timed = true → k.waiting = true →
    ((timeNotBefore L.now k.pkt.execAt = false ∨ k.rn = none ∨ ∃ e ∈ L.host.tasks, e.sooner k = true) →
      exec (.timedCommandStart l k.tid) s = .next s)
    ∧ (timeNotBefore L.now k.pkt.execAt = true → k.rn.isSome = true → k.waitsPool = false → (∀ e ∈ L.host.tasks, e.sooner k = false) →
      k.pkt.opcode = 0x0111 → k.pkt.block = [] → k.started = false → k.done = false →
      L.eng.healthy.get l = true → L.eng.excluded = false → L.eng.debug = false →
      exec (.timedCommandStart l k.tid) s = .next (s.setLane l (finishTask l k.tid okRes
        (let M := updTask k.tid (fun t => { t with waiting := false }) L
         { M with safe := { M.safe with stoReq := true } }))))

/-! ## Claims and the configuration transaction (01 R54, R55; 09 R317–R319; 11 R356, R357) -/

/-- A claim with the commissioning key while motion is disabled gives OWNER to its host; a wrong key does not, and the third within 10 minutes
locks the host out; a release, or the end of the time without activity, gives OWNER back, and closes an open transaction unless the
claimant holds OWNER by configuration (R319); the lockout ends after its time (R54, R55). Choices of the model: log entries 9, 67.
Completion is stated of: laneOwnerClaim, laneOwnerRelease, laneClaimTimeout, claimLockoutEnd. -/
def Obligations.OwnerClaims : Prop :=
  ∀ (c : Ctx) (blk : List Byte) (s : State), let L := s.lane c.lane
    let right := rd32 blk 0 = L.host.run.item Item.keyLo ∧ rd32 blk 4 = L.host.run.item Item.keyHi
    (Ready 0x0105 c blk s → blk.length = 8 → (L.keyCount c.sender).locked = false → right →
      ¬(L.host.run.item Item.keyLo = 0 ∧ L.host.run.item Item.keyHi = 0) → L.mot.enabled = false →
      ∃ M, exec (.laneOwnerClaim c blk) s = .next (ended c s okRes M) ∧ M.eng = { L.eng with claim := some c.sender }
        ∧ M.priv c.sender = .owner ∧ (L.ownerIs c.sender = false → M.host.trans = none))
    ∧ (Ready 0x0105 c blk s → blk.length = 8 → (L.keyCount c.sender).locked = false → ¬right →
      exec (.laneOwnerClaim c blk) s = .next (ended c s (failRes stNotPermitted) (wrongKey c.sender L))
      ∧ ((wrongKey c.sender L).keyCount c.sender).locked
        = decide (2 ≤ ((L.keyCount c.sender).times.filter fun t => L.time.clk10 < t + keyWindow10).length)
      ∧ (wrongKey c.sender L).eng.claim = L.eng.claim ∧ (wrongKey c.sender L).mot = L.mot)
    ∧ (Ready 0x0105 c blk s → blk.length = 8 → (L.keyCount c.sender).locked = true →
      exec (.laneOwnerClaim c blk) s = .next (ended c s (failRes stNotPermitted) L))
    ∧ (Ready 0x0106 c [] s → L.eng.claim = some c.sender →
      exec (.laneOwnerRelease c []) s
        = .next (ended c s okRes { L with eng := { L.eng with claim := none },
                                          host := { L.host with trans := if L.host.run.priv c.sender = .owner then L.host.trans else none } }))
    ∧ (∀ h, L.running = true → L.eng.claim = some h →
      exec (.laneClaimTimeout c.lane) s
        = .next (s.setLane c.lane { L with eng := { L.eng with claim := none },
                                           host := { L.host with trans := if L.host.run.priv h = .owner then L.host.trans else none } }))
    ∧ (L.running = true → ∃ M, exec (.claimLockoutEnd c.lane c.sender) s = .next (s.setLane c.lane M)
        ∧ (∀ k ∈ M.eng.claimCount, k.host = c.sender → k.locked = false) ∧ M.host = L.host)

/-- CFG_BEGIN opens the device's transaction for its sender; CFG_SET stages values without changing the running configuration; CFG_ABORT and
the time without activity discard what was staged (R317–R319). Choices of the model: log entry 9. Completion is stated of: cfgBegin,
cfgSet, cfgAbort, hostCfgTimeout. -/
def Obligations.TransactionStages : Prop :=
  ∀ (c : Ctx) (s : State), let L := s.lane c.lane
    (Ready 0x0701 c [] s → L.cfgBusy = false →
      exec (.cfgBegin c []) s = .next (ended c s okRes { L with host := { L.host with trans := some (
        ⟨c.sender, [], L.host.committed, false, false⟩ : Trans) } }))
    ∧ (Ready 0x0701 c [] s → L.cfgBusy = true → exec (.cfgBegin c []) s = .next (ended c s (failRes stBusy) L))
    ∧ (∀ (t : Trans) (id : Half) (v : Word), let blk := le16 id ++ [0, 0] ++ le32 v
      Ready 0x0702 c blk s → L.host.trans = some t → t.owner = c.sender → (itemDef id.toNat).isSome = true →
      exec (.cfgSet c blk) s
        = .next (ended c s okRes { L with host := { L.host with trans := some { t with staged := Store.put t.staged id.toNat v } } }))
    ∧ (∀ (t : Trans) (blk : List Byte), Ready 0x0702 c blk s → cfgSetForm blk = true → ((cfgEntries blk).all fun e => (itemDef e.1).isSome) = true →
      L.host.trans = some t → t.owner ≠ c.sender → exec (.cfgSet c blk) s = .next (ended c s (failRes stNotInState) L))
    ∧ (∀ t : Trans, Ready 0x0704 c [] s → L.host.trans = some t → t.owner = c.sender →
      exec (.cfgAbort c []) s = .next (ended c s okRes { L with host := { L.host with trans := none } }))
    ∧ (L.running = true → exec (.hostCfgTimeout c.lane) s = .next (s.setLane c.lane { L with host := { L.host with trans := none } }))

/-- The load opcodes stage in the sender's open transaction, and nothing that runs changes before a commit: node records and their fields
(R356, R357), table words, schedule slots, subscriptions and publications (08 R273). With no transaction of the sender they complete with
NOT_IN_STATE. Completion is stated of: oxGraphLoad, oxTableLoad, oxParamSet, flockSchedLoad, flockSubLoad, flockPubLoad. -/
def Obligations.LoadsStageOnly : Prop :=
  ∀ (c : Ctx) (t : Trans) (blk : List Byte) (s : State), let L := s.lane c.lane
    let staged := fun (w : Conf) (st ld : Bool) =>
      { L with host := { L.host with trans := some { t with want := w, structural := t.structural || st, loaded := t.loaded || ld } } }
    ((L.host.trans.any fun t => t.owner == c.sender) = false →
      (Ready 0x0201 c blk s → loadOk blk = true → exec (.oxGraphLoad c blk) s = .next (ended c s (failRes stNotInState) L))
      ∧ (∀ (first : Half) (v : Word), blk = le16 first ++ [1, 0, 0, 0, 0, 0] ++ le32 v → first.toNat ≤ 24575 → Ready 0x0202 c blk s →
        exec (.oxTableLoad c blk) s = .next (ended c s (failRes stNotInState) L))
      ∧ (∀ (n f : Byte) (v : Word), blk = [n, f, 0, 0] ++ le32 v → f.toNat < 8 → Ready 0x0203 c blk s →
        exec (.oxParamSet c blk) s = .next (ended c s (failRes stNotInState) L))
      ∧ (∀ (first node : Half) (k : Byte), blk = [0, 0] ++ le16 first ++ [1, 0, 0, 0] ++ le16 node ++ [k, 0] → 1 ≤ first.toNat →
        first.toNat ≤ 1023 → k.toNat < 16 → k.toNat % 4 ≠ 3 → Ready 0x0601 c blk s →
        exec (.flockSchedLoad c blk) s = .next (ended c s (failRes stNotInState) L))
      ∧ (∀ (sig : BitVec 20) (node : Half), blk = ([0, 0, 1, 0, 0, 0, 0, 0] : List Byte) ++ le24 ((sig.setWidth 24) <<< 4) ++ [0] ++ le16 node
          ++ [0, 0] → Ready 0x0602 c blk s →
        exec (.flockSubLoad c blk) s = .next (ended c s (failRes stNotInState) L))
      ∧ (∀ (sig : BitVec 20) (a b : BitVec 11), blk = ([0, 0, 1, 0, 0, 0, 0, 0] : List Byte) ++ le24 ((sig.setWidth 24) <<< 4) ++ [0]
          ++ le16 (a.setWidth 16) ++ le16 (b.setWidth 16) → Ready 0x0603 c blk s →
        exec (.flockPubLoad c blk) s = .next (ended c s (failRes stNotInState) L)))
    ∧ (L.host.trans = some t → t.owner = c.sender →
    (Ready 0x0201 c blk s → loadOk blk = true →
      exec (.oxGraphLoad c blk) s = .next (ended c s okRes (staged ((loadRecords blk).foldl putRecord64 t.want) true true)))
    ∧ (∀ (first : Half) (v : Word), blk = le16 first ++ [1, 0, 0, 0, 0, 0] ++ le32 v → first.toNat ≤ 24575 → Ready 0x0202 c blk s →
      exec (.oxTableLoad c blk) s
        = .next (ended c s okRes (staged { t.want with table := Store.write 0 t.want.table first.toNat v } true true)))
    ∧ (∀ (n f : Byte) (v : Word), blk = [n, f, 0, 0] ++ le32 v → f.toNat < 8 → (t.want.node n.toNat).typ ≠ 0 → Ready 0x0203 c blk s →
      exec (.oxParamSet c blk) s = .next (ended c s okRes
        (staged { t.want with graph := Store.write NodeRec.empty t.want.graph n.toNat ((t.want.node n.toNat).setField f.toNat v) } false false)))
    ∧ (∀ (first node : Half) (k : Byte), blk = [0, 0] ++ le16 first ++ [1, 0, 0, 0] ++ le16 node ++ [k, 0] → 1 ≤ first.toNat → first.toNat ≤ 1023 →
      k.toNat < 16 → k.toNat % 4 ≠ 3 → Ready 0x0601 c blk s →
      exec (.flockSchedLoad c blk) s = .next (ended c s okRes 
        (staged { t.want with schedA := Store.write {} t.want.schedA first.toNat ⟨node, k.setWidth 2, k.getLsbD 2, k.getLsbD 3⟩ } false true)))
    ∧ (∀ (sig : BitVec 20) (node : Half), blk = ([0, 0, 1, 0, 0, 0, 0, 0] : List Byte) ++ le24 ((sig.setWidth 24) <<< 4) ++ [0] ++ le16 node ++ [0, 0] →
      Ready 0x0602 c blk s →
      exec (.flockSubLoad c blk) s = .next (ended c s okRes (staged { t.want with subs := [⟨sig, node⟩] } false true)))
    ∧ (∀ (sig : BitVec 20) (a b : BitVec 11), blk = ([0, 0, 1, 0, 0, 0, 0, 0] : List Byte) ++ le24 ((sig.setWidth 24) <<< 4) ++ [0] ++ le16 (a.setWidth 16)
        ++ le16 (b.setWidth 16) → Ready 0x0603 c blk s →
      exec (.flockPubLoad c blk) s = .next (ended c s okRes (staged { t.want with pubs := [⟨sig, a, b⟩] } false true))))

/-! ## Commits and stores (01 R43, 09 R319, R320) -/

/-- The two phases of a commit, seen from each lane: CFG_COMMIT makes the coordinator send prepare and wait, a lane answers the prepare with
the outcome of its own checks, the coordinator sends apply with the next generation once every healthy lane is ready and nothing
otherwise, and a lane takes up apply for its next fast sample: that sample makes the staged configuration the running one, with its
generation, and activates the graph of a structural commit, with sample count 0. Nothing before it changes the running configuration (01
R43, 03 R92, R117). Choices of the model: log entry 62. Completion is stated of: cfgCommit, prepareMessage, prepareAnswer, applyMessage,
fastSample. -/
def Obligations.CommitInTwoPhases : Prop :=
  (∀ (c : Ctx) (t : Trans) (s : State), let L := s.lane c.lane
    Ready 0x0703 c [] s → L.host.trans = some t → t.owner = c.sender → L.coordinator c.lane = c.lane →
    (∃ j, j ≠ c.lane ∧ L.eng.healthy.get j = true) →
    ∃ M, exec (.cfgCommit c []) s = .next (going c s M) ∧ M.herdTx = L.herdTx ++ [.prepare] ∧ M.host.prepOpen = some c.lane
      ∧ M.host.applyWant = some t ∧ M.host.applyGen = none ∧ M.host.prepAns.get c.lane = some (prepCheck c.lane L t)
      ∧ M.host.run = L.host.run ∧ M.eng = L.eng)
  ∧ (∀ (l j : LaneId) (t : Trans) (s : State), let L := s.lane l
    L.running = true → j ≠ l → L.coordinator l = j → (s.lane j).host.applyWant = some t →
    ∃ u, exec (.prepareMessage l j) s = .next u ∧ (u.lane l).host.run = L.host.run
      ∧ (prepCheck l L t = .ready → (u.lane l).herdTx = L.herdTx ++ [.prepAns .ready] ∧ (u.lane l).host.applyWant = some t)
      ∧ (∀ st w, prepCheck l L t = .failed st w → L.host.commitTid = none →
          (u.lane l).herdTx = L.herdTx ++ [.prepAns (.failed st w)] ∧ (u.lane l).host.applyWant = none))
  ∧ (∀ (l j : LaneId) (a : PrepAns) (s : State), let L := s.lane l
    L.running = true → j ≠ l → L.coordinator l = l → L.host.prepOpen = some l → L.eng.healthy.get j = true →
    (∀ i, i ≠ j → (i = l ∨ L.eng.healthy.get i = true) → L.host.prepAns.get i = some .ready) →
    ∃ u, exec (.prepareAnswer l j a) s = .next u ∧ (u.lane l).host.prepOpen = none ∧ (u.lane l).host.run = L.host.run
      ∧ (a = .ready → (u.lane l).herdTx = L.herdTx ++ [.apply (L.eng.gen + 1)] ∧ (u.lane l).host.applyGen = some (L.eng.gen + 1))
      ∧ (a ≠ .ready → L.host.commitTid = none → (u.lane l).herdTx = L.herdTx ∧ (u.lane l).host.applyWant = none
          ∧ (u.lane l).host.applyGen = L.host.applyGen))
  ∧ (∀ (l j : LaneId) (g : Byte) (s : State), let L := s.lane l
    L.running = true → L.host.applyWant.isSome = true → g ≠ L.eng.gen → L.eng.healthy.get j = true → L.eng.formerLead ≠ some j →
    exec (.applyMessage l ⟨j, g⟩) s = .next (s.setLane l { L with host := { L.host with applyGen := some g } }))
  ∧ (∀ (l : LaneId) (i : FastIn) (t : Trans) (g : Byte) (s : State), let L := s.lane l
    L.samples = true → i.lockstepOk = true → L.host.applyGen = some g → L.host.applyWant = some t → L.eng.rejoin = none →
    commitEnded l s.lane L = false → L.eng.debugReq ≠ some false →
    ∃ u, exec (.fastSample l i) s = .next u ∧ ((u.lane l).running = true → (u.lane l).host.run = nextRun L t ∧ (u.lane l).eng.gen = g
      ∧ (u.lane l).host.applyGen = none ∧ (u.lane l).host.applyWant = none
      ∧ (t.structural = true → L.start.phase = .full → (u.lane l).ox.fastCount = 0 ∧ (u.lane l).ox.order = (nextRun L t).order)))

/-- CFG_STORE writes the image that is not in use, with the next image generation, which is not valid meanwhile; the end of the store marks
that image in use and posts event 0x71 (R320). Completion is stated of: cfgStore, configStoreDone. -/
def Obligations.StoreWritesUnusedImage : Prop :=
  (∀ (c : Ctx) (s : State), let L := s.lane c.lane
    Ready 0x0706 c [] s → L.host.trans = none →
    ∃ i, exec (.cfgStore c []) s = .next (going c s { L with host := { L.host with storeTid := some c.tid, storing := some i },
                                                             start := L.start.setUnused none })
      ∧ i.conf = L.host.committed ∧ i.gen = (match L.start.image with
        | some x => x.gen + 1
        | none => 1))
  ∧ (∀ (c : Ctx) (s : State), Ready 0x0706 c [] s → (s.lane c.lane).host.trans.isSome = true →
    exec (.cfgStore c []) s = .next (ended c s (failRes stNotInState) (s.lane c.lane)))
  ∧ (∀ (l : LaneId) (i : Image) (s : State), let L := s.lane l
    L.running = true → L.host.storing = some i → L.host.storeTid = none → L.host.commitTid = none →
    ∃ t, exec (.configStoreDone l) s = .next t ∧ (t.lane l).start.image = some i ∧ (t.lane l).start.imgInUse ≠ L.start.imgInUse
      ∧ (t.lane l).host.storing = none ∧ (t.lane l).host.run = L.host.run ∧ (t.lane l).mot = L.mot
      ∧ Store.find (t.lane l).ev.latest 0x71 ≠ none)

/-! ## Roles and stops (01 R37, 02 R76, 11 R367, R368) -/

/-- LANE_ROLE_SET of a healthy lane that is not the lead is taken for the next fast sample, and of the lead completes with NOT_IN_STATE (R37).
LANE_SS1 asks for SS1 at the next medium execution, and while SS1 runs completes with OK, RESULT byte 4 at 1, and changes nothing (R367);
LANE_STO is taken for the next fast sample (R368). Completion is stated of: laneRoleSet, laneSs1, laneSto. -/
def Obligations.RoleAndStopCommands : Prop :=
  ∀ (c : Ctx) (s : State), let L := s.lane c.lane
    (∀ j : LaneId, let blk : List Byte := [BitVec.ofNat 8 j.num, 0, 0, 0]
      Ready 0x0104 c blk s → L.minimal = false → L.safe.ss1 = none → L.safe.state ≠ .stopped → L.host.run.t2 = false →
      (L.eng.healthy.get j = true → L.eng.lead ≠ some j →
        exec (.laneRoleSet c blk) s = .next (ended c s okRes { L with eng := { L.eng with roleSet := some j } }))
      ∧ (L.eng.lead = some j ∨ L.eng.healthy.get j = false →
        exec (.laneRoleSet c blk) s = .next (ended c s (failRes stNotInState) L)))
    ∧ (Ready 0x0110 c [] s → L.minimal = false → L.mot.enabled = true → L.safe.state ≠ .stopped →
      (L.safe.ss1 = none → exec (.laneSs1 c []) s = .next (ended c s (resultRes 0) { L with safe := { L.safe with ss1Req := true } }))
      ∧ (L.safe.ss1.isSome = true → exec (.laneSs1 c []) s = .next (ended c s (resultRes 1) L)))
    ∧ (Ready 0x0111 c [] s → exec (.laneSto c []) s = .next (ended c s okRes { L with safe := { L.safe with stoReq := true } }))

/-! ## The OX opcodes (03 R120–R129, 04 R151–R160) -/

/-- OX_SETPOINT by the bound writer with a value in MIN–MAX gives the node that value for its next execution; by another sender it completes
with NOT_PERMITTED and outside the range with BAD_PARAM, and the node keeps its value (R123). A node that goes stale posts event 0x54 and
is no longer fresh (R124); a node fed from the flock holds its last value while the network is lost or held (02 R75), and that its
staleness then waits is the model's reading (log entry 75). OX_MANUAL holds a PI or PID at a value until OX_AUTO (R120). Choices of the
model: log entries 9, 75. Completion is stated of: oxSetpoint, oxManual, oxAuto, setpointStale. -/
def Obligations.SetpointsAndManualMode : Prop :=
  ∀ (c : Ctx) (n : Byte) (v : Word) (s : State), let L := s.lane c.lane
    let r := L.host.run.node n.toNat
    let blk := [n, 0, 0, 0] ++ le32 v
    (Ready 0x0210 c blk s → r.t = tSrc → r.kind = 1 →
      (r.boundTo c.sender = true → (L.priv c.sender).covers .operator = true → L.minimal = false → L.ox.graphState = .active →
        L.stopping = false → r.pI 2 ≤ v.toInt → v.toInt ≤ r.pI 3 →
        exec (.oxSetpoint c blk) s = .next (ended c s okRes (updNode n.toNat (fun x => { x with spNew := some v }) L)))
      ∧ (r.boundTo c.sender = false → exec (.oxSetpoint c blk) s = .next (ended c s (failRes stNotPermitted) L))
      ∧ (r.boundTo c.sender = true → (L.priv c.sender).covers .operator = true → v.toInt < r.pI 2 ∨ r.pI 3 < v.toInt →
        exec (.oxSetpoint c blk) s = .next (ended c s (failRes stBadParam) L)))
    ∧ (Ready 0x0212 c blk s → r.isPi = true → L.minimal = false → L.ox.graphState = .active → L.safe.ss1 = none →
      exec (.oxManual c blk) s = .next (ended c s okRes (updNode n.toNat (fun x => { x with manual := some v }) L)))
    ∧ (Ready 0x0213 c [n, 0, 0, 0] s → r.isPi = true → L.minimal = false → (L.nst n.toNat).manual.isSome = true →
      exec (.oxAuto c [n, 0, 0, 0]) s = .next (ended c s okRes (updNode n.toNat (fun x => { x with manual := none }) L)))
    ∧ (∀ l : LaneId, let K := s.lane l
      let r := K.host.run.node n.toNat
      K.running = true → r.t = tSrc → r.kind = 1 → r.p 0 ≠ 0 → (K.nst n.toNat).spFresh = true → K.ox.graphState ≠ .none →
      (r.flockFed = false ∨ K.flock.netLost = false ∧ K.safe.netHold = false →
        ∃ t, exec (.setpointStale l n) s = .next t ∧ EventOnly (updNode n.toNat (fun x => { x with spFresh := false }) K) (t.lane l)
          ∧ Posted (t.lane l) 0x54 clsUc (payBytes [n, 0, 0, 0, 0, 0, 0, 0]))
      ∧ (r.flockFed = true → K.flock.netLost = true ∨ K.safe.netHold = true → exec (.setpointStale l n) s = .next s))

/-- A learning pass starts on the lead, with motion enabled and no pass running; OX_LEARN_STOP and the time limit end it with a proposal of
one entry per bin and event 0x51, OX_LEARN_DISCARD drops both, and OX_LEARN_COMMIT opens a commit whose table is the proposal (R126,
R128–R130). Another lane runs no pass. Choices of the model: log entry 60. Completion is stated of: oxLearnStart, oxLearnStop,
oxLearnDiscard, learnTimeLimit, oxLearnCommit. -/
def Obligations.LearningPasses : Prop :=
  ∀ (c : Ctx) (blk : List Byte) (s : State), let L := s.lane c.lane
    let n := (byteAt blk 0).toNat
    let r := L.host.run
    let stop : List Byte := [byteAt blk 0, 0, 0, 0]
    let startOk := blk.length = 32 ∧ (byteAt blk 2).toNat < 4 ∧ byteAt blk 3 = 0 ∧ zerosAt blk 26 2 = true ∧ (r.node n).learns = true
      ∧ (byteAt blk 2).toNat < (r.node (byteAt blk 1).toNat).outs.length ∧ (r.node (byteAt blk 1).toNat).typ ≠ 0
      ∧ 0 ≤ (rd32 blk 16).toInt ∧ (rd32 blk 16).toInt ≤ qUnit ∧ 0 < (rd32 blk 20).toInt ∧ rd16 blk 24 ≠ 0
      ∧ 1 ≤ (rd32 blk 28).toNat ∧ (rd32 blk 28).toNat ≤ 3600000
    L.minimal = false →
    (Ready 0x0220 c blk s → startOk → L.learn.pass = none → L.mot.enabled = true → L.safe.mule = false → L.safe.ss1 = none →
      (L.eng.lead = some c.lane → ∃ p, exec (.oxLearnStart c blk) s = .next (ended c s okRes { L with learn := { L.learn with pass := some p } })
        ∧ p.node = n ∧ p.gain = rd32 blk 16 ∧ p.stepMax = rd32 blk 20 ∧ p.nMin = (rd16 blk 24).toNat ∧ p.timeMax = (rd32 blk 28).toNat
        ∧ p.sums = [] ∧ p.counts = [])
      ∧ (L.eng.lead ≠ some c.lane → exec (.oxLearnStart c blk) s = .next (ended c s okRes L)))
    ∧ (Ready 0x0220 c blk s → startOk → (L.learn.pass.isSome = true ∨ L.mot.enabled = false ∨ L.safe.mule = true ∨ L.safe.ss1.isSome = true) →
      exec (.oxLearnStart c blk) s = .next (ended c s (failRes stNotInState) L))
    ∧ (∀ p, L.learn.pass = some p → p.node = n → (r.node n).learns = true → L.eng.lead = some c.lane →
      (Ready 0x0221 c stop s → ∃ M vs, exec (.oxLearnStop c stop) s = .next (ended c s okRes M)
        ∧ EventOnly { L with learn := { pass := none, proposal := some (n, vs) } } M ∧ vs.length = p.bins r
        ∧ (L.running = true → L.eng.healthy.get c.lane = true → ∃ a, Store.find M.ev.latest 0x51 = some a ∧ a.cls = clsInfo
          ∧ a.payload.setWidth 16 = 1#8 ++ byteAt blk 0))
      ∧ (Ready 0x0223 c stop s → ∃ M, exec (.oxLearnDiscard c stop) s = .next (ended c s okRes M) ∧ EventOnly { L with learn := {} } M)
      ∧ (L.running = true → ∃ t vs, exec (.learnTimeLimit c.lane) s = .next t ∧ vs.length = p.bins r
        ∧ EventOnly { L with learn := { pass := none, proposal := some (n, vs) } } (t.lane c.lane)
        ∧ (L.eng.healthy.get c.lane = true → ∃ a, Store.find (t.lane c.lane).ev.latest 0x51 = some a ∧ a.cls = clsInfo
          ∧ a.payload.setWidth 16 = 2#8 ++ byteAt blk 0)))
    ∧ (∀ vs, L.learn.proposal = some (n, vs) → (r.node n).learns = true → Ready 0x0222 c stop s → L.coordinator c.lane = c.lane →
      L.cfgBusy = false → (∃ j, j ≠ c.lane ∧ L.eng.healthy.get j = true) →
      ∃ M t, exec (.oxLearnCommit c stop) s = .next (going c s M) ∧ M.herdTx = L.herdTx ++ [.prepare] ∧ M.host.applyWant = some t
        ∧ t.want.table = Store.writes 0 L.host.committed.table (L.host.committed.node n).tblBase.toNat vs
        ∧ M.host.learnCommit = true ∧ M.host.run = r)

/-- OX_DEBUG_ENTER of a healthy lane, with motion disabled, is taken by the named lane for its next fast sample and noted by the others; a
debugged lane steps its graph node by node, runs it for COUNT samples and leaves debug by OX_DEBUG_EXIT; a lane that is not DEBUG_ACTIVE
completes these with NOT_IN_STATE (R151–R154); a step whose node's result is no multiple of 15 off reports the residue mismatch (R153). A
halt through the test access port makes a running lane DEBUG_ACTIVE at its next fast sample (R151), EXTEST holds every gate off, a scan of
IDCODE shifts its 32 bits out (14 R442), and TRST_N low holds the port in reset (14 Table 14-3). Choices of the model: log entries 45, 61.
Completion is stated of: oxDebugEnter, oxDebugStep, oxDebugRun, oxDebugExit, debugHalt, tapInstruction. -/
def Obligations.DebugCommands : Prop :=
  (∀ (c : Ctx) (s : State), let L := s.lane c.lane
    L.minimal = false →
    (∀ j : LaneId, let blk : List Byte := [BitVec.ofNat 8 j.num, 0, 0, 0]
      Ready 0x0240 c blk s → L.eng.healthy.get j = true → L.debugOf c.lane j = false → L.mot.enabled = false →
      exec (.oxDebugEnter c blk) s = .next (ended c s okRes { L with eng :=
        if j = c.lane then { L.eng with debugReq := some true } else { L.eng with debugNamed := some j } }))
    ∧ (L.eng.debug = true → L.eng.halted = false → L.ox.dbgRun = none →
      (Ready 0x0241 c [] s → ∃ M, exec (.oxDebugStep c []) s = .next (ended c s okRes M)
        ∧ (c.upsets = [] → { M with ox := L.ox, time := L.time } = L)
        ∧ (∀ n ns, L.ox.order.filter (fun i => (L.host.run.node i).part == L.ox.dbgPart) = ns → ns[L.ox.dbgNext]? = some n →
            (L.ox.dbgNext + 1 < ns.length → M.ox.dbgNext = L.ox.dbgNext + 1 ∧ M.ox.dbgPart = L.ox.dbgPart)
            ∧ ((∃ e, .result (BitVec.ofNat 8 n) e ∈ c.upsets ∧ e % 15 ≠ 0) → n < 256 → Reported L M 0x23)))
      ∧ (∀ k : Half, k ≠ 0 → let blk := le16 k ++ [0xFF, 0]
        Ready 0x0242 c blk s → exec (.oxDebugRun c blk) s
          = .next (going c s { L with ox := { L.ox with dbgRun := some (k.toNat, 0, none), dbgTid := some c.tid } }))
      ∧ (Ready 0x0243 c [] s → exec (.oxDebugExit c []) s = .next (ended c s okRes { L with eng := { L.eng with debugReq := some false } })))
    ∧ (L.eng.debug = false →
      (Ready 0x0241 c [] s → exec (.oxDebugStep c []) s = .next (ended c s (failRes stNotInState) L))
      ∧ (Ready 0x0243 c [] s → exec (.oxDebugExit c []) s = .next (ended c s (failRes stNotInState) L))))
  ∧ (∀ (l : LaneId) (s : State), let L := s.lane l
    (L.start.trstHigh = true → L.running = true →
      exec (.debugHalt l) s = .next (s.setLane l { L with eng := { L.eng with debugReq := some true, halted := true } }))
    ∧ (L.start.trstHigh = false → exec (.debugHalt l) s = .next s)
    ∧ (L.start.supplied = true →
      (L.start.trstHigh = true →
        (∃ t, exec (.tapInstruction l .extest) s = .next t ∧ AllGatesOff l (t.lane l) ∧ (t.lane l).eng = L.eng ∧ (t.lane l).mot = L.mot)
        ∧ (∀ i : TapInstr, i = .bypass ∨ i = .samplePreload ∨ i = .idcode → exec (.tapInstruction l i) s
            = .next (s.setLane l { L with start := { L.start with tap := i }, gate := { L.gate with extest := false } }))
        ∧ (∀ tdi, let bits := if l = .l0 then tdi else if l = .l1 then (s.lane .l0).start.tdo else (s.lane .l1).start.tdo
          L.start.tap = .idcode → bits.length = 32 → ∃ t, exec (.tapInstruction l (.scan tdi)) s = .next t
          ∧ (t.lane l).start.tdo = tapIdcode ∧ (t.lane l).start.tapReg = bits))
      ∧ (L.start.trstHigh = false → ∀ i : TapInstr, (∀ b, i ≠ .trst b) → exec (.tapInstruction l i) s = .next s)
      ∧ exec (.tapInstruction l (.trst false)) s = .next (s.setLane l { L with
          start := { L.start with trstHigh := false, tap := .idcode, tapReg := [], tdo := [] }, gate := { L.gate with extest := false } })))

/-- OX_TRACE_SETUP sets the probes and the trigger, OX_TRACE_ARM is taken for the next fast sample, a trigger leaves no probe ARMED and a
host's trigger goes to the other lanes, a message of another lane triggers too and is not sent on, and OX_TRACE_STOP freezes (R157–R161).
Completion is stated of: oxTraceSetup, oxTraceArm, oxTraceTrigger, traceTriggerMessage, oxTraceStop. -/
def Obligations.TraceCommands : Prop :=
  ∀ (c : Ctx) (blk : List Byte) (s : State), let L := s.lane c.lane
    (Ready 0x0250 c blk s → setupForm blk = true → setupOk L.host.run blk = true → L.tracing = false →
      ∃ u, exec (.oxTraceSetup c blk) s = .next (ended c s okRes { L with trace := { L.trace with probes := setupProbes blk, setup := some u } })
        ∧ u.kind = (byteAt blk 33).setWidth 2 ∧ u.node = byteAt blk 34 ∧ u.value = rd32 blk 36 ∧ u.cycle = byteAt blk 41)
    ∧ (Ready 0x0250 c blk s → setupForm blk = true → setupOk L.host.run blk = true → L.tracing = true →
      exec (.oxTraceSetup c blk) s = .next (ended c s (failRes stNotInState) L))
    ∧ (Ready 0x0251 c [] s → L.minimal = false → L.trace.setup.isSome = true → L.tracing = false →
      exec (.oxTraceArm c []) s = .next (ended c s okRes { L with trace := { L.trace with armReq := true } }))
    ∧ ((∃ p ∈ L.trace.probes, p.state = .armed) →
      (Ready 0x0252 c [] s → L.minimal = false → ∃ M, exec (.oxTraceTrigger c []) s = .next (ended c s okRes M)
        ∧ (∀ p ∈ M.trace.probes, p.state ≠ .armed) ∧ M.herdTx = L.herdTx ++ [.traceTrigger L.time.clk10]
        ∧ ReportOnly L M ∧ IntKept L M)
      ∧ (∀ (j : LaneId) (dt at10 : Nat), j ≠ c.lane → L.running = true → ∃ t, exec (.traceTriggerMessage c.lane j dt at10) s = .next t
        ∧ (∀ p ∈ (t.lane c.lane).trace.probes, p.state ≠ .armed) ∧ (t.lane c.lane).herdTx = L.herdTx ∧ ReportOnly L (t.lane c.lane)
        ∧ IntKept L (t.lane c.lane)))
    ∧ (Ready 0x0253 c [] s → ∃ M, exec (.oxTraceStop c []) s = .next (ended c s okRes M) ∧ M = { L with trace := M.trace }
      ∧ (∀ p ∈ M.trace.probes, p.state ≠ .armed ∧ p.state ≠ .triggered) ∧ M.trace.mem = L.trace.mem)

/-! ## Motion (05 R171, R178–R182, R188–R196; 07 R247) -/

/-- MOTION_ENABLE on a lane whose winding may be driven starts with the offset measurement, gates off; on a lane whose winding is energised it
completes with the lane's bit; on one whose winding may not be driven it leaves the gates off and completes with no bit (R196). The
offsets are stored and the precharge turns the low sides on (R171, R247); its end takes the enable on, or raises PRECHARGE. Choices of the
model: log entry 31. Completion is stated of: motionEnable, offsetMeasurementDone, prechargeEnd. -/
def Obligations.MotionEnable : Prop :=
  ∀ (c : Ctx) (s : State), let L := s.lane c.lane
    let E := { L with mot := { L.mot with
      enabled := true, disableReq := none, stoHold := L.mot.stoHold && !L.gate.stoHigh,
      offsetsDue := L.mot.offsetsDue || !L.mot.energised, flyDue := L.mot.flyDue || !L.mot.energised } }
    (Ready 0x0301 c [] s → L.minimal = false → L.ox.graphState = .active → L.safe.state ≠ .colt → L.safe.state ≠ .stopped → L.safe.ss1 = none →
      (∃ j, L.host.run.hasWinding j = true ∧ L.stoOf c.lane j = false) → L.mot.enabled = true ∨ tooFast L = false →
      (L.mot.energised = true → exec (.motionEnable c []) s = .next (ended c s (resultRes (laneBit c.lane)) E))
      ∧ (L.mot.energised = false → L.mot.enable = .idle → E.mayDrive c.lane = true → E.drivePos = true →
        ∃ M, exec (.motionEnable c []) s = .next (going c s M) ∧ M.mot.enabled = true ∧ M.mot.enable = .offsets ∧ M.mot.enableTids = [c.tid]
          ∧ AllGatesOff c.lane M ∧ M.eng = L.eng ∧ M.safe = L.safe ∧ M.ox = L.ox)
      ∧ (L.mot.energised = false → L.mot.enable = .idle → E.mayDrive c.lane = false →
        exec (.motionEnable c []) s = .next (ended c s (resultRes 0) (gatesOff E))))
    ∧ (Ready 0x0301 c [] s → L.minimal = false → L.ox.graphState ≠ .active →
      exec (.motionEnable c []) s = .next (ended c s (failRes stNotInState) L))
    ∧ (∀ a b : Half, let O := { L with mot := { L.mot with offA := a, offB := b, offsetsDue := false } }
      L.running = true → L.mot.enable = .offsets → O.mayDrive c.lane = true → O.drivePos = true →
      exec (.offsetMeasurementDone c.lane a b) s = .next (s.setLane c.lane (startPrecharge O)))
    ∧ (L.powered = true → L.mot.enable = .precharge →
      exec (.prechargeEnd c.lane true) s = .next (s.setLane c.lane { L with
        gate := { L.gate with demand := .allOff }, mot := { L.mot with enable := if L.mot.fly then .presets else .release } })
      ∧ (L.mot.enableTids = [] → ∃ t, exec (.prechargeEnd c.lane false) s = .next t ∧ (t.lane c.lane).mot.enable = .idle
        ∧ (t.lane c.lane).gate.demand = .allOff ∧ (t.lane c.lane).gate.prechargeFail = true ∧ .bridgeDown ∈ (t.lane c.lane).herdTx
        ∧ (L.running = true → Reported L (t.lane c.lane) 0x45)))

/-- MOTION_DISABLE disables motion, names the bridge's state for the next update point, aborts what waits of the MOTION engine, drops a
learning pass and freezes the trace; the graph and the gates' state of the moment stay (R195). During SS1 it completes with NOT_IN_STATE.
Completion is stated of: motionDisable. -/
def Obligations.MotionDisable : Prop :=
  ∀ (c : Ctx) (b : Byte) (s : State), let L := s.lane c.lane
    let blk := [b, 0, 0, 0]
    Ready 0x0302 c blk s → L.minimal = false → b.toNat ≤ 2 →
    (L.safe.ss1 = none → ∃ M, exec (.motionDisable c blk) s = .next (ended c s okRes M) ∧ M.mot.enabled = false
      ∧ M.mot.disableReq = some (disableEnd L b) ∧ M.mot.enable = .idle ∧ M.mot.vel = none ∧ M.learn = {}
      ∧ (∀ k ∈ M.host.tasks, k.waiting = true → opEngine k.pkt.opcode ≠ 2) ∧ (∀ p ∈ M.trace.probes, p.state ≠ .armed ∧ p.state ≠ .triggered)
      ∧ M.gate = L.gate ∧ M.ox = L.ox ∧ M.eng = L.eng ∧ M.sen = L.sen ∧ M.safe = L.safe)
    ∧ (L.safe.ss1.isSome = true → exec (.motionDisable c blk) s = .next (ended c s (failRes stNotInState) L))

/-- Host velocity mode is entered, changed and left at the next medium execution: each command is taken in order; a value against the voted
speed above MOTION_REV_SPEED completes with REFUSED_SPEED and changes nothing, and 0 is always accepted (R189, R190). Completion is stated
of: motionVelEnter, motionVelSet, motionVelExit. -/
def Obligations.HostVelocityMode : Prop :=
  ∀ (c : Ctx) (v : Word) (s : State), let L := s.lane c.lane
    let asked := fun r => { L with mot := { L.mot with velReq := L.mot.velReq ++ [r] } }
    L.minimal = false →
    (Ready 0x0310 c [] s → L.mot.enabled = true → L.host.run.ss1Ref.isSome = true → L.safe.mule = false → L.safe.ss1 = none →
      (L.inVel = false → exec (.motionVelEnter c []) s = .next (ended c s okRes (asked .enter)))
      ∧ (L.inVel = true → exec (.motionVelEnter c []) s = .next (ended c s (failRes stNotInState) L)))
    ∧ (Ready 0x0311 c (le32 v) s → L.inVel = true →
      (velReverses L v = false → exec (.motionVelSet c (le32 v)) s = .next (ended c s okRes (asked (.set v))))
      ∧ (velReverses L v = true → exec (.motionVelSet c (le32 v)) s = .next (ended c s (failRes stRefusedSpeed) L)))
    ∧ velReverses L 0 = false
    ∧ (Ready 0x0312 c [] s → L.inVel = true → exec (.motionVelExit c []) s = .next (ended c s okRes (asked .exit)))

/-- A SHARE_OUT message starts a ramp of the sender's weight from its present value to 0 and changes no weight (R180); at its end the weight
is 0, and the withdrawing lane itself is not ENERGISED and has its gates off. A delivered-torque count that reaches its limit raises a W
fault on the lane itself, and a lane still ENERGISED 1 ms after its count reached the limit is excluded by the others (R182). With no Hall
edge for the time of R188, six-step takes the speed as below MOTION_REV_SPEED. Choices of the model: log entries 9, 77. Completion is
stated of: shareOut, shareRampEnd, tqDevCount, tqDevEnergisedCheck, hallNoEdgeTimeout. -/
def Obligations.TorqueShares : Prop :=
  ∀ (l j : LaneId) (s : State), let L := s.lane l
    L.running = true →
    (j ≠ l → L.mot.w.get j ≠ 0 → exec (.shareOut l j) s = .next (s.setLane l { L with mot :=
      { L.mot with ramp := L.mot.ramp.set j (some (newRamp L.host.run false (L.mot.w.get j))) } }))
    ∧ (∀ r, L.mot.ramp.get j = some r → r.up = false → r.ended = true →
      ∃ t, exec (.shareRampEnd l j) s = .next t ∧ (t.lane l).mot.w = L.mot.w.set j 0 ∧ (t.lane l).mot.ramp = L.mot.ramp.set j none
        ∧ (j = l → (t.lane l).mot.energised = false ∧ (t.lane l).gate.demand = .allOff) ∧ (j ≠ l → (t.lane l).gate = L.gate ∧ (t.lane l).sen = L.sen))
    ∧ (L.host.run.nat Item.tqDevCount ≤ (L.eng.devCnt.get l).toNat → L.ownW l = false →
      ∃ t, exec (.tqDevCount l l) s = .next t ∧ (t.lane l).hasFault .winding l = true ∧ Reported L (t.lane l) 0x3B
        ∧ (t.lane l).mot = L.mot ∧ (t.lane l).gate = L.gate)
    ∧ (∀ h, j ≠ l → L.eng.healthy.get j = true → L.eng.recs.get j = some h → h.r.health.getLsbD 6 = true →
      L.eng.devHit.get j = true →
      ∃ t, exec (.tqDevEnergisedCheck l j) s = .next t ∧ (t.lane l).eng.healthy = L.eng.healthy.set j false ∧ .exclude j ∈ (t.lane l).herdTx
        ∧ (t.lane l).hasFault .lane j = true)
    ∧ (L.sen.hallSpdValid = false → exec (.hallNoEdgeTimeout l) s = .next (s.setLane l { L with mot := { L.mot with revSlow := true } }))

/-! ## Gates and bridges (02 R79–R81, 07 R240–R256) -/

/-- A low pulse of 300 ns or longer on STO_N turns every gate of the lane off, clears ENERGISED and holds the gates off when it rises again; a
pulse shorter than 100 ns is ignored, and one between the two does the one or the other (R79, R80). Lanes with a winding that disagree on
STO_ACTIVE raise the discrepancy as a W fault on those whose STO_N is low (R81). Choices of the model: log entries 3, 10, 21. Completion
is stated of: stoNFalling, stoNRising, stoDiscrepancy. -/
def Obligations.StoBall : Prop :=
  ∀ (l : LaneId) (ns : Nat) (s : State), let L := s.lane l
    let off := fun (M : LaneSt) => M.gate.stoHigh = false ∧ AllGatesOff l M ∧ M.gate.demand = .allOff ∧ M.mot.energised = false
      ∧ M.mot.stoHold = true ∧ M.sen = L.sen ∧ M.ox = L.ox
    (300 ≤ ns → ∃ t, exec (.stoNFalling l ns) s = .next t ∧ off (t.lane l))
    ∧ (ns < 100 → exec (.stoNFalling l ns) s = .next s)
    ∧ (100 ≤ ns → ns < 300 → ∃ t, exec (.stoNFalling l ns) s = .next t
        ∧ (off (t.lane l) ∨ t.lane l = { L with time := { L.time with free := L.time.free + 1 } }))
    ∧ (∃ t, exec (.stoNRising l) s = .next t ∧ (t.lane l).gate = { L.gate with stoHigh := true } ∧ (t.lane l).mot = L.mot
        ∧ (L.gate.demand = .allOff → L.gate.reaction = .none → AllGatesOff l (t.lane l)))
    ∧ (L.running = true → stoDiffers l L = true → ∃ t, exec (.stoDiscrepancy l) s = .next t ∧ Reported L (t.lane l) 0x46
        ∧ ∀ j ∈ stoLanes l L, (t.lane l).hasFault .winding j = true)

/-- A trip of the fast or the gross comparator, an undervoltage and a failed handshake each send BRIDGE_DOWN at once and are reported with
their own source; the PWM block turns all gates off, or all high sides off by LOW_SIDE_SHORT on the first trip of one leg, and a trip that
LOW_SIDE_SHORT already answers turns all off (R240, R243, R252–R256). The end of blanking after a gross report is no trip of its own
(R251). A BRIDGE_DOWN received is noted for the next fast sample. Choices of the model: log entry 10. Completion is stated of: scFastTrip,
scGrossTrip, vgdUvlo, bootUvlo, handshakeTimeout, bridgeDownSymbol. -/
def Obligations.BridgeFaults : Prop :=
  ∀ (l : LaneId) (i : TripIn) (s : State), let L := s.lane l
    let told := fun (M : LaneSt) (src : Byte) => .bridgeDown ∈ M.herdTx ∧ (L.running = true → Reported L M src)
    let react := fun (M : LaneSt) => M.gate.scCount = satInc L.gate.scCount
      ∧ (L.host.run.nat Item.scPolicy = 0 ∨ L.gate.vgdUvlo = true ∨ L.gate.reaction ≠ .none ∨ 2 ≤ legCount (tripLegs i) →
          M.gate.reaction = .allOff ∧ AllGatesOff l M)
      ∧ (L.host.run.nat Item.scPolicy ≠ 0 → L.gate.vgdUvlo = false → L.gate.reaction = .none → L.gate.sampleLegs = 0 →
          legCount (tripLegs i) < 2 → M.gate.reaction = .lowSideShort)
    (L.gateLive l = true →
      (¬(i.blankEnd = true ∧ i.grossSince = true) → ∃ t, exec (.scFastTrip l i) s = .next t ∧ told (t.lane l) 0x40 ∧ react (t.lane l))
      ∧ (i.blankEnd = true → i.grossSince = true → exec (.scFastTrip l i) s = .next s)
      ∧ (∃ t, exec (.scGrossTrip l i) s = .next t ∧ told (t.lane l) 0x41 ∧ react (t.lane l))
      ∧ (∃ t, exec (.vgdUvlo l) s = .next t ∧ told (t.lane l) 0x42 ∧ AllGatesOff l (t.lane l) ∧ (t.lane l).gate.uvloCount = satInc L.gate.uvloCount)
      ∧ (∀ leg : Leg, ∃ t, exec (.bootUvlo l leg) s = .next t ∧ told (t.lane l) 0x43
          ∧ (t.lane l).gate.bootUvlo = L.gate.bootUvlo ||| leg.bit)
      ∧ (∀ leg : Leg, ∃ t, exec (.handshakeTimeout l leg) s = .next t ∧ told (t.lane l) 0x44
          ∧ (t.lane l).gate.hsFail = L.gate.hsFail ||| leg.bit))
    ∧ (∀ j : LaneId, j ≠ l → L.running = true → exec (.bridgeDownSymbol l j) s
        = .next (s.setLane l { L with eng := { L.eng with bridgeDown := L.eng.bridgeDown.set j true } }))

/-- With every supply up and fewer than three events in the last second the undervoltage's W fault ends by itself; with three it stands
(R244). A supply back above its rising threshold ends its forcing of the gates, and in the Colt stage the hardware precharges for
HOLD_EFFORT again (R243, R245). Choices of the model: log entry 32. Completion is stated of: uvloRecover, backAboveUvlo. -/
def Obligations.SuppliesRecover : Prop :=
  ∀ (l : LaneId) (s : State), let L := s.lane l
    (L.running = true → L.gate.vgdUvlo = false → L.gate.bootUvlo = 0 → L.gate.uvloLatched = false →
      ((uvloRecent L).length < 3 → ∃ t, exec (.uvloRecover l) s = .next t ∧ (t.lane l).gate.pendUvlo = []
        ∧ (t.lane l).safe.faults = L.safe.faults.filter fun f => !(f.kind == .winding && f.lane == l && isUvlo f.src))
      ∧ (3 ≤ (uvloRecent L).length → exec (.uvloRecover l) s = .next s))
    ∧ (L.gateLive l = true → L.start.coltOn = false →
      exec (.backAboveUvlo l none) s = .next (s.setLane l { L with gate := { L.gate with vgdUvlo := false } })
      ∧ ∀ leg : Leg, exec (.backAboveUvlo l (some leg)) s
          = .next (s.setLane l { L with gate := { L.gate with bootUvlo := L.gate.bootUvlo &&& ~~~leg.bit } }))
    ∧ (L.gateLive l = true → L.start.coltOn = true → coltNow l L = .holdEffort → L.start.coltReady = true →
      ∃ t, exec (.backAboveUvlo l none) s = .next t ∧ (t.lane l).gate = { L.gate with vgdUvlo := false, demand := .precharge }
        ∧ (t.lane l).start = L.start)

/-! ## Events (10 R325–R339) -/

/-- An arrival at the doorbell of a source routed to the local queue writes one record at EQ_TAIL, with the source's count, which returns to
0, and asserts HIRQ_N where its group has no hold-off and signals; with no free record it is dropped, counted, and pending (R328, R330,
R335, R337). Nothing but the EVENT engine and the event queue changes. Choices of the model: log entry 54. Completion is stated of:
eventArrival. -/
def Obligations.ArrivalWritesOrDrops : Prop :=
  ∀ (l : LaneId) (src : Byte) (cls : BitVec 3) (p : BitVec 64) (s : State), let L := s.lane l
    L.running = true → ringable l src = true → pinSource src = false → (deviceWide src = true → L.eng.healthy.get l = true) →
    Store.wf 0 L.ev.cnt = true →
    ∃ t, exec (.eventArrival l src cls p) s = .next t ∧ EventOnly L (t.lane l) ∧ Posted (t.lane l) src cls p
      ∧ (L.route src = 1 → L.room l = true → (t.lane l).host.eqTail = L.host.eqTail + 1 ∧ Store.read 0 (t.lane l).ev.cnt src.toNat = 0
          ∧ (L.host.run.nat (Item.holdoff + groupOf src) = 0 → L.signals (groupOf src) = true → (t.lane l).ev.hirq = true))
      ∧ (L.route src = 1 → L.room l = false → (t.lane l).host.eqTail = L.host.eqTail ∧ (t.lane l).ev.eqDrops = satInc L.ev.eqDrops
          ∧ (t.lane l).host.eqOvf = true ∧ src.toNat ∈ (t.lane l).ev.pending
          ∧ Store.read 0 (t.lane l).ev.cnt src.toNat = satInc (Store.read 0 L.ev.cnt src.toNat))
      ∧ (L.route src = 0 → (t.lane l).host = L.host)

/-- A hold-off timer that expires asserts HIRQ_N only if the queue still holds records (R338). HOST_SLEEP with an empty event queue puts the
port's host to sleep with its wake mask, and with records in it completes with NOT_IN_STATE (R339). A KIND 3 message for this device
becomes arrivals at the remote sources that match its records, and a record that none matches is discarded and counted; the message is
forwarded to the other lanes once, and its copies are discarded (R333). Choices of the model: log entries 9, 50. Completion is stated of:
holdoffTimerExpiry, hostSleep, remoteEventMessage. -/
def Obligations.HoldoffsAndRemoteEvents : Prop :=
  ((∀ (l : LaneId) (g : Fin 16) (s : State), let L := s.lane l
    L.running = true → L.ev.holdRunning.getLsbD g.val = true →
    exec (.holdoffTimerExpiry l g) s = .next (s.setLane l { L with ev :=
      { L.ev with holdRunning := L.ev.holdRunning &&& ~~~(1#16 <<< g.val), hirq := L.ev.hirq || L.host.eqHeld != 0 } }))
  ∧ (∀ (c : Ctx) (m : Half) (p : LaneId) (s : State), let L := s.lane c.lane
    let blk := le16 m ++ [0, 0]
    Ready 0x0710 c blk s → c.sender = .spi p →
    (L.host.eqHeld = 0 → exec (.hostSleep c blk) s
      = .next (ended c s okRes { L with host := { L.host with asleep := true }, ev := { L.ev with wakeMask := m } }))
    ∧ (L.host.eqHeld ≠ 0 → exec (.hostSleep c blk) s = .next (ended c s (failRes stNotInState) L))))
  ∧ (∀ (l : LaneId) (node : Half) (id : Byte) (r : EventRec) (s : State), let L := s.lane l
    L.running = true → L.host.run.nodeId ≠ 0 →
    (L.flock.seenMsgs.any (fun m => m.1 == node && m.2.1 == id) = false →
      ∃ t, exec (.remoteEventMessage l node L.host.run.nodeId id [r]) s = .next t
        ∧ (t.lane l).herdTx = L.herdTx ++ [.remoteEvents node L.host.run.nodeId id [r]]
        ∧ (t.lane l).flock.seenMsgs.any (fun m => m.1 == node && m.2.1 == id) = true
        ∧ (∀ n, L.host.run.remoteSource node r.source = some n → Posted (t.lane l) (BitVec.ofNat 8 (0xA0 + n)) r.cls r.payload
            ∧ (t.lane l).ev.unmatched = L.ev.unmatched)
        ∧ (L.host.run.remoteSource node r.source = none → (t.lane l).ev.unmatched = satInc L.ev.unmatched ∧ (t.lane l).ev.latest = L.ev.latest))
    ∧ (L.flock.seenMsgs.any (fun m => m.1 == node && m.2.1 == id) = true →
      exec (.remoteEventMessage l node L.host.run.nodeId id [r]) s = .next s)
    ∧ (∀ d, d ≠ L.host.run.nodeId → exec (.remoteEventMessage l node d id [r]) s = .next s))

/-! ## Memory integrity and fault records (12 R376–R388) -/

/-- The scrubber moves on by one word in each slot; a single-bit error is counted and reported as SCRUB_SBE, and an uncorrectable word is
counted, reported as SCRUB_DED and left poisoned (R378). The always-on scrubber does the same over memory 7, and reports where the lane's
fault collector runs. Choices of the model: log entries 55, 76. Completion is stated of: scrubSlot, aonScrubSlot. -/
def Obligations.ScrubbersReadWords : Prop :=
  ∀ (l : LaneId) (s : State), let L := s.lane l
    let m := L.int.scrubMem
    let w := L.int.scrubWord
    (L.running = true → L.dom (memDomain m) = .on → w + 1 < memWords m →
      (L.int.poisoned.contains (m, w) = false → (∀ e ∈ L.int.flipped, e.1 ≠ (m, w)) → exec (.scrubSlot l .clean) s
        = .next (s.setLane l { L with int := { L.int with scrubSlots := L.int.scrubSlots + 1, scrubWord := w + 1 } }))
      ∧ (L.int.poisoned.contains (m, w) = false → ∀ syn, ∃ t, exec (.scrubSlot l (.single syn)) s = .next t ∧ (t.lane l).int.scrubWord = w + 1
          ∧ Store.read 0 (t.lane l).int.sbe m = satInc (Store.read 0 L.int.sbe m) ∧ Reported L (t.lane l) 0x02
          ∧ (t.lane l).int.poisoned = L.int.poisoned)
      ∧ (∀ syn, ∃ t, exec (.scrubSlot l (.double syn)) s = .next t ∧ (t.lane l).int.scrubWord = w + 1
          ∧ Store.read 0 (t.lane l).int.ded m = satInc (Store.read 0 L.int.ded m) ∧ Reported L (t.lane l) 0x03
          ∧ (m, w) ∈ (t.lane l).int.poisoned ∧ (3 ≤ m → m ≤ 6 → (m, w) ∈ (t.lane l).int.repairQ)))
    ∧ (L.start.supplied = true → L.start.vinGood = true → L.int.poisoned.contains (7, L.int.aonWord) = false →
      ((∀ e ∈ L.int.flipped, e.1 ≠ (7, L.int.aonWord)) →
        exec (.aonScrubSlot l .clean) s = .next (s.setLane l { L with int := { L.int with aonWord := (L.int.aonWord + 1) % 1024 } }))
      ∧ (∀ syn, ∃ t, exec (.aonScrubSlot l (.single syn)) s = .next t ∧ (t.lane l).int.aonWord = (L.int.aonWord + 1) % 1024
        ∧ Store.read 0 (t.lane l).int.sbe 7 = satInc (Store.read 0 L.int.sbe 7) ∧ (L.running = true → Reported L (t.lane l) 0x02)
        ∧ (7, L.int.aonWord) ∉ (t.lane l).int.poisoned)
      ∧ ∀ syn, ∃ t, exec (.aonScrubSlot l (.double syn)) s = .next t ∧ (t.lane l).int.aonWord = (L.int.aonWord + 1) % 1024
        ∧ Store.read 0 (t.lane l).int.ded 7 = satInc (Store.read 0 L.int.ded 7) ∧ (L.running = true → Reported L (t.lane l) 0x03)
        ∧ (7, L.int.aonWord) ∈ (t.lane l).int.poisoned)

/-- An idle entry of the merge buffer is drained into its word: its valid bytes stand in the window, no other byte changes, and one that is
not full counts MERGE_RMW; a byte that fails its parity leaves the word poisoned and is reported as MERGE_POISON (R376, R377). A repaired
word is clean again and counted (R379). Choices of the model: log entries 7, 76. Completion is stated of: mergeIdleDrain, repairDone. -/
def Obligations.DrainsAndRepairs : Prop :=
  ∀ (l : LaneId) (e : MergeEnt) (rest : List MergeEnt) (s : State), let L := s.lane l
    L.running = true →
    (L.int.merge = e :: rest → (∀ x ∈ rest, e.touched ≤ x.touched) → Memory.wf L.host.win = true → L.int.poisoned.contains (e.mem, e.word) = false →
      L.int.parityHits = [] →
      (∀ bad : Bool, ∃ t, exec (.mergeIdleDrain l .clean bad) s = .next t ∧ e ∉ (t.lane l).int.merge
        ∧ (∀ i < 8, e.valid.getLsbD i = true →
            Store.read 0 (t.lane l).host.win (8 * e.word + i) = (e.bytes >>> (8 * i)).setWidth 8 ∨ bad = true)
        ∧ (bad = false → (∀ a, (∀ i < 8, e.valid.getLsbD i = true → a ≠ 8 * e.word + i) →
            Store.read 0 (t.lane l).host.win a = Store.read 0 L.host.win a) ∧ (t.lane l).int.poisoned = L.int.poisoned)
        ∧ (t.lane l).int.mergeRmw = (if e.valid = 0xFF then L.int.mergeRmw else satInc L.int.mergeRmw)
        ∧ (bad = true → (e.mem, e.word) ∈ (t.lane l).int.poisoned ∧ (t.lane l).int.mergePoison = satInc L.int.mergePoison
            ∧ Reported L (t.lane l) 0x05)))
    ∧ (∀ (m w : Nat) (q : List (Nat × Nat)), L.int.repairQ = (m, w) :: q →
      (repairable m w = true → exec (.repairDone l) s = .next (s.setLane l { L with int :=
        { L.int with repairQ := q, poisoned := L.int.poisoned.filter (· != (m, w)),
                     flipped := L.int.flipped.filter (·.1 != (m, w)), repairs := satInc L.int.repairs } }))
      ∧ (repairable m w = false → m ≠ 3 → exec (.repairDone l) s = .next (s.setLane l { L with int := { L.int with repairQ := q } })))

/-- A record of a class is marked HANDLED by firmware, or by the collector itself after 100 µs, and nothing else changes (R386).
INTEG_FAULT_CLEAR clears a CE record that is handled, with its overflow bit, and leaves the records of the other classes; a UC record
whose cause stands is kept and reported with CAUSE_PRESENT and the lane's bit (11 R363). Choices of the model: log entry 22. Completion is
stated of: faultHandlingDone, faultHandledTimeout, integFaultClear. -/
def Obligations.FaultRecordsHandledAndCleared : Prop :=
  (∀ (l : LaneId) (cls : BitVec 3) (r : FaultRec) (s : State), let L := s.lane l
    let t := s.setLane l { L with int := L.int.setSlot cls (some { r with handled := true }) }
    2 ≤ cls.toNat → cls.toNat ≤ 4 → L.int.slot cls = some r →
    (L.running = true → exec (.faultHandlingDone l cls) s = .next t) ∧ (L.alive = true → exec (.faultHandledTimeout l cls) s = .next t))
  ∧ (∀ (c : Ctx) (r : FaultRec) (s : State), let L := s.lane c.lane
    let lanes : Byte := BitVec.ofNat 8 (2 ^ c.lane.num)
    L.eng.killed = false →
    (Ready 0x0902 c [lanes, 1, 0, 0] s → L.int.ce = some r → r.handled = true → r.cls = 2 →
      ∃ M, exec (.integFaultClear c [lanes, 1, 0, 0]) s = .next (ended c s okRes M) ∧ M.int.ce = none ∧ M.int.uc = L.int.uc
        ∧ M.int.fa = L.int.fa ∧ M.int.ovf = L.int.ovf &&& ~~~1)
    ∧ (Ready 0x0902 c [lanes, 2, 0, 0] s → L.int.uc = some r → recordGone c.lane r L = false →
      ∃ M, exec (.integFaultClear c [lanes, 2, 0, 0]) s = .next (ended c s ⟨stCausePresent, laneBit c.lane, [], false⟩ M) ∧ M.int.uc = some r
        ∧ M.int.ce = L.int.ce ∧ M.int.fa = L.int.fa ∧ M.int.ovf = L.int.ovf))

/-! ## Sensing (06 R203–R229) -/

/-- A sin/cos pair inside the window moves the position word by the phase's difference modulo one period; a first pair outside it is bridged
by the last difference, and a second one declares the sensor lost: an S fault, reported, with the alignment given up (R203, R209, R210).
Choices of the model: log entry 57. Completion is stated of: sincosConversion. -/
def Obligations.SineCosinePairs : Prop :=
  ∀ (l : LaneId) (a b : BitVec 14) (t10 : Nat) (s : State), let L := s.lane l
    let p := correctPair L.host.run a b
    let new := atan16 p.1 p.2.1
    let d := (new - L.sen.phase).toInt
    let out := ampLow L.host.run p = true ∨ ampHigh L.host.run p = true
    L.converts = true → L.hasSc l = true → L.sen.started = true → L.sen.scLost = false →
    (¬out → absI d ≤ 0x2000 → ∃ t, exec (.sincosConversion l a b t10) s = .next t ∧ EventOnly { L with sen := (t.lane l).sen } (t.lane l)
      ∧ (t.lane l).sen.word.setWidth 16 = new ∧ (L.sen.word.setWidth 16 = L.sen.phase → (t.lane l).sen.word = L.sen.word + BitVec.ofInt 32 d)
      ∧ (t.lane l).sen.phase = new ∧ (t.lane l).sen.prevDelta = BitVec.ofInt 16 d
      ∧ (t.lane l).sen.outRun = 0 ∧ (t.lane l).sen.conv10 = t10 ∧ (t.lane l).sen.scLost = false)
    ∧ (out → L.sen.outRun = 0 → ∃ t, exec (.sincosConversion l a b t10) s = .next t ∧ t.lane l = { L with sen := (t.lane l).sen }
      ∧ (t.lane l).sen.word = L.sen.word + BitVec.ofInt 32 L.sen.prevDelta.toInt ∧ (t.lane l).sen.outRun = 1 ∧ (t.lane l).sen.scLost = false)
    ∧ (out → L.sen.outRun = 1 → ∃ t, exec (.sincosConversion l a b t10) s = .next t ∧ (t.lane l).sen.scLost = true
      ∧ (t.lane l).sen.aligned = false ∧ (t.lane l).hasFault .sensor l = true ∧ Reported L (t.lane l) 0x38)
    ∧ (¬out → 0x2000 < absI d → ∃ t, exec (.sincosConversion l a b t10) s = .next t ∧ (t.lane l).sen.scLost = true
      ∧ (t.lane l).sen.lossCause = lossOverspeed ∧ Reported L (t.lane l) 0x38)

/-- An accepted Hall state outside the Colt stage becomes the lane's: the next state in forward order is a forward edge at its time, an
impossible state is an error and makes the Hall speed not valid; a change shorter than the filter is discarded and counted (R211, R212). A
conversion of VLNK is the newest code (R228); one of AUX1 inside its range is delivered, and the second in a row outside it is a range
fault, raised as UC, while the node keeps the last good code (R230). Completion is stated of: hallStateAccepted, hallGlitch,
auxConversion. -/
def Obligations.HallsAndAuxiliaryInputs : Prop :=
  (∀ (l : LaneId) (h : BitVec 3) (t10 : Nat) (s : State), let L := s.lane l
    L.start.supplied = true → L.converts = true → L.hasHall l = true →
    (L.start.coltOn = false → ∃ t, exec (.hallStateAccepted l h t10) s = .next t ∧ (t.lane l).sen.hallState = h
      ∧ (t.lane l).start.coltHall = some h ∧ (t.lane l).gate = L.gate
      ∧ (hallIdx h = none → (t.lane l).sen.hallPending = L.sen.hallPending + 1 ∧ (t.lane l).sen.hallSpdValid = false)
      ∧ (∀ i, L.sen.hallSeen = true → hallIdx L.sen.hallState = some i → hallIdx h = some ((i + 1) % 6) → L.ownValid l = false →
          (t.lane l).sen.edgeDir = false ∧ (t.lane l).sen.lastEdge10 = some t10 ∧ (t.lane l).sen.edgeIndex = BitVec.ofNat 3 ((i + 1) % 6)
          ∧ (t.lane l).sen.hallPending = L.sen.hallPending))
    ∧ exec (.hallGlitch l) s = .next (s.setLane l { L with sen := { L.sen with hallGlitch := satInc L.sen.hallGlitch } }))
  ∧ (∀ (l : LaneId) (code : BitVec 12) (s : State), let L := s.lane l
    let out := auxOut code (L.host.run.int Item.aux1Lo) (L.host.run.int Item.aux1Hi)
    L.converts = true →
    exec (.auxConversion l .vlnk code) s = .next (s.setLane l { L with sen := { L.sen with vlnkCode := code } })
    ∧ (out = false → L.sen.aux1Fault = false → ∃ t, exec (.auxConversion l .aux1 code) s = .next t
        ∧ t.lane l = { L with sen := (t.lane l).sen } ∧ (t.lane l).sen.aux1Held = code ∧ (t.lane l).sen.aux1Run = 0
        ∧ (t.lane l).sen.aux1Fault = false)
    ∧ (out = true → L.sen.aux1Fault = false → L.sen.aux1Run = 1 → ∃ t, exec (.auxConversion l .aux1 code) s = .next t
        ∧ (t.lane l).sen.aux1Fault = true ∧ (t.lane l).sen.aux1Held = L.sen.aux1Held ∧ Reported L (t.lane l) 0x3A))

/-- At the end of the extrapolation the lane takes the Hall step where it is available, and otherwise withdraws its share with SHARE_OUT
(R222, R223). SENSE_ALIGN_SET, with motion disabled, gives a lane with a valid own sensor the period count nearest the named angle, and
its bit in the result; any other lane keeps what it has (R208). Completion is stated of: extrapolationEnd, senseAlignSet. -/
def Obligations.LadderAndAlignment : Prop :=
  (∀ (l : LaneId) (s : State), let L := s.lane l
    L.running = true → L.sen.source = .extrapolating → L.sen.sharingOut = false →
    (hallStep L.sen.speed L = true → ∃ t, exec (.extrapolationEnd l) s = .next t ∧ (t.lane l).sen.source = .hall
      ∧ (t.lane l).sen.extrapFrom = none ∧ (t.lane l).gate = L.gate ∧ (t.lane l).herdTx = L.herdTx)
    ∧ (hallStep L.sen.speed L = false → L.mot.w.get l ≠ 0 → ∃ t, exec (.extrapolationEnd l) s = .next t
      ∧ (t.lane l).herdTx = L.herdTx ++ [.shareOut] ∧ (t.lane l).sen.sharingOut = true ∧ (t.lane l).mot.w = L.mot.w
      ∧ (t.lane l).mot.ramp.get l = some (newRamp L.host.run false (L.mot.w.get l))))
  ∧ (∀ (c : Ctx) (v : Word) (s : State), let L := s.lane c.lane
    Ready 0x0401 c (le32 v) s → L.minimal = false → L.mot.enabled = false → (∃ j, L.sensorValid c.lane j = true) →
    (L.ownValid c.lane = true → ∃ M, exec (.senseAlignSet c (le32 v)) s = .next (ended c s (resultRes (laneBit c.lane)) M)
      ∧ EventOnly { L with sen := { L.sen with period := nearestPeriod L.time.clk10 v L, aligned := true } } M)
    ∧ (L.ownValid c.lane = false → exec (.senseAlignSet c (le32 v)) s = .next (ended c s (resultRes 0) L)))

/-! ## Safe-state timers (02 R70–R76) -/

/-- A spent Mule budget starts SS1 with MULE_EXPIRED; each second of Mule time posts event 0x11; Mule mode ends when none of its conditions
holds; and a network lost for its stale time is the sixth condition, which puts the device into Mule mode (R70–R75). The decisions of
R67–R73: the six conditions; the Stop test and STO on every lane stop the device with all gates off; a condition that holds starts Mule
mode with its cause; in Mule mode a new counted fault starts SS1, or stops a device that the remaining lanes cannot control. SS1 follows
its envelope and ends by the first of R77's endings; its profile starts at |n0| and never rises. LANE_STO stops the lane at its fast
sample (11 R368). Choices of the model: log entries 9, 44, 70. Completion is stated of: fastSample, muleTimerExpiry, muleEventTick,
muleExit, netStaleExpiry. -/
def Obligations.SafeStateTimers : Prop :=
  (∀ (l : LaneId) (L : LaneSt), let m := muleConds l L
    let K := decideState l L
    let sensors := (LaneId.all.filter (L.ownSensor l)).length
    (m.testBit 0 = ((LaneId.all.filter L.eng.healthy.get).length == 1) ∧ m.testBit 1 = L.oneWinding l
      ∧ m.testBit 2 = (!L.host.run.t2 && decide (sensors < 2)) ∧ m.testBit 3 = L.safe.unresolved
      ∧ m.testBit 4 = (L.host.run.t2 && decide (2 ≤ (L.safe.counted.filter fun f => f.1 == .lane || f.1 == .winding || f.1 == .sensor).length))
      ∧ m.testBit 5 = L.safe.netStale)
    ∧ (L.eng.excluded = false → L.safe.state ≠ .stopped → L.safe.state ≠ .colt →
      (∀ c, stopCheck l L = some c → K.safe.state = .stopped ∧ K.safe.stopCause = c ∧ K.safe.endState = .sto ∧ K.gate.demand = .allOff
        ∧ (K.gate.reaction ≠ .lowSideShort → AllGatesOff l K) ∧ K.mot.enabled = false)
      ∧ (stopCheck l L = none → L.safe.state ≠ .ss1 →
        (L.safe.mule = false → m ≠ 0 → K.safe.state = .mule ∧ K.safe.mule = true ∧ K.safe.muleRemain = L.safe.muleRemain
          ∧ K.safe.muleCause = (if L.safe.startOne then 7 else firstCond m) ∧ K.mot = L.mot)
        ∧ (L.safe.mule = false → m = 0 → K.safe.state = restState L ∧ K.safe.mule = false ∧ K.mot = L.mot)
        ∧ (L.safe.mule = true → newFault m L = true →
          (canControl l L = true → L.host.run.ss1Ref.isSome = true → L.safe.ss1 = none → K.safe.state = .ss1 ∧ K.safe.ss1 = some (newSs1 L)
            ∧ K.safe.stopCause = 0x21)
          ∧ (canControl l L = false → K.safe.state = .stopped ∧ K.safe.stopCause = 0x21 ∧ K.safe.endState = cfgEnd L))
        ∧ (L.safe.mule = true → newFault m L = false → K.safe.state = L.safe.state ∧ K.safe.mule = true ∧ K.mot = L.mot))))
  ∧ (∀ (c : Conf) (d n0 : Int) (t : Nat), 0 ≤ d → nRef c d n0 0 = absI n0 ∧ 0 ≤ nRef c d n0 t ∧ nRef c d n0 (t + 1) ≤ nRef c d n0 t)
  ∧ (∀ (l : LaneId) (valid : Bool) (n n0 : Word) (r : Ss1Run) (L : LaneSt), let K := ss1Sample l valid n L r
    let inside := absI n.toInt ≤ nRef L.host.run r.decel.toInt n0.toInt (r.t + 1) + r.margin.toInt
    let late : Prop := absI n0.toInt * 400000000 + r.textra * 400000 * r.decel.toInt
      < ((r.t + 1 : Nat) : Int) * (L.host.run.tf25 * L.host.run.nat Item.medDiv) * r.decel.toInt
    let ended := fun (c : Byte) => K.safe.state = .stopped ∧ K.safe.stopCause = c ∧ K.safe.endState = r.endState ∧ K.safe.ss1 = none
    (r.n0 = none → valid = false → ended 0x29)
    ∧ (r.n0 = some n0 → r.viol < 2 → r.still < 4 → r.invalid < 2 →
      (valid = true → ¬inside → r.viol = 1 → ended 0x24)
      ∧ (valid = true → inside → absI n.toInt ≤ r.stand.toInt → r.still = 3 → ended L.safe.stopCause)
      ∧ (valid = true → inside → r.stand.toInt < absI n.toInt → late → ended 0x25)
      ∧ (valid = true → inside → r.stand.toInt < absI n.toInt → ¬late →
        K = { L with safe := { L.safe with ss1 := some { r with t := r.t + 1, invalid := 0, seen := false, viol := 0, still := 0 } } })
      ∧ (valid = false → ¬late → r.invalid = 1 → ended 0x29)
      ∧ (valid = false → ¬late → r.invalid = 0 →
        K = { L with safe := { L.safe with ss1 := some { r with t := r.t + 1, invalid := 1, seen := false, still := 0 } } })))
  ∧ (∀ (l : LaneId) (i : FastIn) (s : State), let L := s.lane l
    L.samples = true → i.lockstepOk = true → L.safe.stoReq = true → L.eng.rejoin = none → L.eng.debugReq = none →
    ∃ t, exec (.fastSample l i) s = .next t ∧ let M := t.lane l
      (M.running = true → M.safe.state = .stopped ∧ M.safe.endState = .sto ∧ M.safe.stopCause = 0x23 ∧ M.safe.ss1 = none
        ∧ M.mot.enabled = false ∧ M.gate.demand = .allOff) ∧ (M.gate.reaction ≠ .lowSideShort → AllGatesOff l M))
  ∧ ∀ (l : LaneId) (s : State), let L := s.lane l
    L.running = true →
    (L.inMule = true → L.host.run.ss1Ref.isSome = true → ∃ t, exec (.muleTimerExpiry l) s = .next t ∧ (t.lane l).safe.state = .ss1
      ∧ (t.lane l).safe.ss1 = some (newSs1 L) ∧ (t.lane l).safe.stopCause = 0x20 ∧ (t.lane l).safe.muleRemain = 0
      ∧ (t.lane l).safe.faults = L.safe.faults)
    ∧ (L.inMule = true → L.eng.healthy.get l = true → ∃ t, exec (.muleEventTick l) s = .next t ∧ EventOnly L (t.lane l)
      ∧ ∃ p, Posted (t.lane l) 0x11 clsState p)
    ∧ (L.inMule = true → muleConds l L = 0 → ∃ t, exec (.muleExit l) s = .next t ∧ (t.lane l).safe.mule = false
      ∧ (t.lane l).safe.state = restState L ∧ (t.lane l).mot = L.mot ∧ (t.lane l).safe.muleRemain = L.safe.muleRemain)
    ∧ (L.inMule = true → muleConds l L ≠ 0 → exec (.muleExit l) s = .next s)
    ∧ (L.safe.netHold = true → ∃ t, exec (.netStaleExpiry l) s = .next t ∧ (t.lane l).safe.netStale = true
      ∧ (L.eng.excluded = false → L.safe.mule = false → (L.safe.state = .full ∨ L.safe.state = .degraded ∨ L.safe.state = .netHold) → allSto l L = false →
          stopTest l L = false → (t.lane l).safe.mule = true ∧ (t.lane l).safe.state = .mule ∧ (t.lane l).mot = L.mot))

/-! ## The herdline (00 R9; 01 R16–R36; 02 R63–R65; 13 R420) -/

/-- A sample record that arrives whole over one of the lane's links is held with every field as it was sent and with its sample instant on the
lane's own clock (R17, R22); one whose CHECK is wrong counts as a link error on that link and is reported, and no record is taken from it
(R18). Completion is stated of: herdSampleRecord. -/
def Obligations.SampleRecordsArrive : Prop :=
  ∀ (l : LaneId) (k : Link) (at10 : Nat) (s : State), let L := s.lane l
    L.running = true → (k.peer l).isSome = true →
    (∀ (r : HerdRec) (j : LaneId), r.lane = BitVec.ofNat 2 j.num → j ≠ l →
      (∀ o, L.eng.recs.get j = some o → o.inst10 ≤ at10 - r.age.toNat - linkDelay) →
      ∃ t, exec (.herdSampleRecord l k r.bytes at10) s = .next t
        ∧ (t.lane l).eng.recs = L.eng.recs.set j (some ⟨r, at10 - r.age.toNat - linkDelay, at10⟩) ∧ (t.lane l).mot = L.mot)
    ∧ (∀ b : List Byte, recordOk b = false →
      ∃ t, exec (.herdSampleRecord l k b at10) s = .next t ∧ (t.lane l).eng = { L.eng with linkErr := L.eng.linkErr.upd k.slot satInc }
        ∧ Reported L (t.lane l) 0x30 ∧ ReportOnly { L with eng := (t.lane l).eng } (t.lane l))

/-- LANE_DOWN and an EXCLUDE of another lane make that lane known to be out of service, an EXCLUDE of the lane itself is taken for its next
fast sample, a kill order of a lane in the accept mask forces every gate off until a reset and one of another lane does nothing, and
PLANNED_SLEEP takes its sender out of the healthy set without a fault (02 R63–R65, 13 R420). 2.9 ms after an exclusion a healthy lane
sends a kill order if the excluded lane still shows ENERGISED or has been silent for 1 ms, and none otherwise (02 R65). The lead's time is
followed by steps of at most 10 µs, one in each 1 ms, and by a lane outside the vote at once over a difference above 100 µs; another
lane's is not (00 R9). Choices of the model: log entry 9. Completion is stated of: laneDownSymbol, excludeOrder, killOrder, plannedSleep,
killCheck, timeMessage. -/
def Obligations.HerdlineMessages : Prop :=
  (∀ (l j i : LaneId) (s : State), let L := s.lane l
    (L.running = true → j ≠ l →
      exec (.laneDownSymbol l j) s = .next (s.setLane l { L with eng := { L.eng with down := L.eng.down.set j true } })
      ∧ exec (.excludeOrder l j l) s = .next (s.setLane l { L with eng := { L.eng with dropNow := true } })
      ∧ (i ≠ l → exec (.excludeOrder l j i) s = .next (s.setLane l { L with eng := { L.eng with down := L.eng.down.set i true } })))
    ∧ (L.start.supplied = true → L.start.coreReady = true →
      (L.eng.acceptMask.get j = true → ∃ t, exec (.killOrder l j) s = .next t ∧ AllGatesOff l (t.lane l) ∧ (t.lane l).gate.forcedOff = true
        ∧ (t.lane l).eng.killed = true ∧ (t.lane l).eng.excluded = true ∧ (t.lane l).eng.role = .none ∧ (t.lane l).mot.energised = false)
      ∧ (L.eng.acceptMask.get j = false → exec (.killOrder l j) s = .next s))
    ∧ (L.running = true → j ≠ l → L.eng.healthy.get j = true → ∃ t, exec (.plannedSleep l j) s = .next t
      ∧ (t.lane l).eng.healthy = L.eng.healthy.set j false ∧ (t.lane l).eng.sleeping = L.eng.sleeping.set j true
      ∧ (t.lane l).safe.faults = L.safe.faults))
  ∧ (∀ (l j : LaneId) (t0 now10 : Nat) (s : State), let L := s.lane l
    let checked := { L with eng := { L.eng with exclAt := L.eng.exclAt.set j none } }
    L.running = true → L.eng.healthy.get l = true → L.eng.exclAt.get j = some t0 →
    (t0 + killDelay ≤ now10 →
      ((L.eng.recs.get j = none ∨ ∃ h, L.eng.recs.get j = some h ∧ (h.r.energised = true ∨ h.at10 + silentTime10 ≤ now10)) →
        exec (.killCheck l j now10) s = .next (s.setLane l (send (.kill j) checked)))
      ∧ (∀ h, L.eng.recs.get j = some h → h.r.energised = false → now10 < h.at10 + silentTime10 →
        exec (.killCheck l j now10) s = .next (s.setLane l checked)))
    ∧ (now10 < t0 + killDelay → exec (.killCheck l j now10) s = .next s))
  ∧ (∀ (l j : LaneId) (u : Word) (s : State), let L := s.lane l
    let d := (u - L.time.localT).toInt
    L.running = true → j ≠ l →
    (L.eng.lead = some j → L.eng.healthy.get l = false → 100 < absI d → exec (.timeMessage l j u) s = .next (s.setLane l { L with time := { L.time with localT := u } }))
    ∧ (L.eng.lead = some j → L.eng.healthy.get l = true ∨ absI d ≤ 100 →
      (1000 ≤ L.time.slewUs → exec (.timeMessage l j u) s
        = .next (s.setLane l { L with time := { L.time with localT := L.time.localT + BitVec.ofInt 32 (clampI d (-10) 10), slewUs := 0 } }))
      ∧ (L.time.slewUs < 1000 → exec (.timeMessage l j u) s = .next s))
    ∧ (L.eng.lead ≠ some j → exec (.timeMessage l j u) s = .next s))

/-- A link without valid records for LANE_MISS_COUNT samples is down, a K fault that is reported, and a valid record brings it up (the model's
reading, log entry 17); a lane relays a record whose sender shows that the link between the two others delivered nothing (log entry 17); a
lane without records for as many votes is silent and excluded, and the standby takes the lead from a silent lead (R21, R22, R31; 02 R64).
Choices of the model: log entries 15, 17. Completion is stated of: herdSampleRecord, linkDown, laneSilent. -/
def Obligations.LossOfLinksAndLanes : Prop :=
  ∀ (l : LaneId) (s : State), let L := s.lane l
    L.running = true →
    (∀ (k : Link) (r : HerdRec) (j : LaneId) (at10 : Nat), (k.peer l).isSome = true → r.lane = BitVec.ofNat 2 j.num → j ≠ l →
      ∃ t, exec (.herdSampleRecord l k r.bytes at10) s = .next t ∧ (t.lane l).eng.up k = true ∧ (t.lane l).mot = L.mot)
    ∧ (∀ (k : Link) (r : HerdRec) (j : LaneId) (at10 : Nat), k.peer l = some j → r.lane = BitVec.ofNat 2 j.num →
      (∀ h, L.eng.recs.get j = some h → h.inst10 ≤ at10 - r.age.toNat - linkDelay) →
      (ownLinks l).all L.eng.up = true → r.linkRx (farLink l) = false →
      ∃ t, exec (.herdSampleRecord l k r.bytes at10) s = .next t ∧ (t.lane l).eng.relay = true
        ∧ .record { r with age := satAdd r.age linkDelay }.bytes ∈ (t.lane l).herdTx)
    ∧ (∀ k : Link, L.eng.up k = true → L.host.run.nat Item.missCount ≤ (L.eng.linkMiss.get k.slot).toNat →
      (∀ j, L.eng.down.get j = false ∧ L.eng.sleeping.get j = false) →
      ∃ t, exec (.linkDown l k) s = .next t ∧ (t.lane l).eng.up k = false ∧ (t.lane l).hasFault .link k.slot = true
        ∧ ((k.peer l).isSome = true → Reported L (t.lane l) 0x31))
    ∧ (∀ j, j ≠ l → L.eng.isolated = false → L.eng.healthy.get j = true → L.host.run.nat Item.missCount ≤ (L.eng.miss.get j).toNat →
      ∃ t, exec (.laneSilent l j) s = .next t ∧ (t.lane l).eng.healthy = L.eng.healthy.set j false
        ∧ (t.lane l).eng.silent = L.eng.silent.set j true ∧ .exclude j ∈ (t.lane l).herdTx ∧ (t.lane l).hasFault .lane j = true
        ∧ (L.eng.lead = some j → L.eng.role = .standby → (t.lane l).eng.role = .lead ∧ (t.lane l).eng.lead = some l))

/-- A disagreement that reaches its count among three contributors excludes the named lane, or makes the standby lead where it is the lead; on
position or speed the named lane declares its own sensor lost. Between two contributors the vote is unresolved (R24, R31, R34, R35; 06
R220, R221). The voted value is the middle of three, the mean of two inside the window, the lead's of two outside it, and a lone one
(R23). A lane accepts the lead's TQ inside the window of another contributor's, or with no other contributor, and else holds the one it
has (R29). The count of a lane outside the window of every other rises, and any other vote of it resets it (R24). Choices of the model:
log entries 15, 68. Completion is stated of: tqDisagreeCount, sensorDisagree. -/
def Obligations.DisagreementsReachTheirCount : Prop :=
  (∀ (win : Int) (L : LaneSt) (x y z : LaneId) (a b c : Int), x ≠ y →
    voted plainDist win L [] = none ∧ voted plainDist win L [(x, a)] = some a
    ∧ (absI (a - b) ≤ win → voted plainDist win L [(x, a), (y, b)] = some (roundDiv (a + b) 2))
    ∧ (win < absI (a - b) → (L.eng.lead = some x → voted plainDist win L [(x, a), (y, b)] = some a)
      ∧ (L.eng.lead = some y → voted plainDist win L [(x, a), (y, b)] = some b)
      ∧ (L.eng.lead ≠ some x → L.eng.lead ≠ some y → L.eng.standby = some y → voted plainDist win L [(x, a), (y, b)] = some b))
    ∧ ∃ m, voted plainDist win L [(x, a), (y, b), (z, c)] = some m ∧ (a ≤ b ∧ b ≤ c ∨ c ≤ b ∧ b ≤ a → m = b)
      ∧ (b ≤ a ∧ a ≤ c ∨ c ≤ a ∧ a ≤ b → m = a) ∧ (a ≤ c ∧ c ≤ b ∨ b ≤ c ∧ c ≤ a → m = c))
  ∧ (∀ (l x : LaneId) (t10 : Nat) (v : Int) (L : LaneSt), let vs := tqVotes l t10 L
    let win := L.host.run.int Item.tqWin
    let M := voteTq l t10 L
    L.eng.lead = some x →
    ((x, v) ∈ vs → ((∃ q ∈ vs, q.1 ≠ x ∧ absI (v - q.2) ≤ win) ∨ ∀ q ∈ vs, q.1 = x) → M.eng.tqAcc = satQ v ∧ M.eng.accepting = true)
    ∧ ((x, v) ∈ vs → (∃ q ∈ vs, q.1 ≠ x) → (∀ q ∈ vs, q.1 ≠ x → win < absI (v - q.2)) →
      M.eng.tqAcc = L.eng.tqAcc ∧ M.eng.accepting = false)
    ∧ ((∀ p ∈ vs, p.1 ≠ x) → M.eng.tqAcc = L.eng.tqAcc ∧ M.eng.accepting = false)
    ∧ (mixedGen l t10 L = false → (∀ j, missingOne l t10 (fun _ _ => true) L = false → (∃ a, (j, a) ∈ vs) → 2 ≤ vs.length →
      M.eng.tqCnt.get j = if outsideAll plainDist win vs (j, ((vs.find? fun q => q.1 == j).map (·.2)).getD 0)
        then satInc (L.eng.tqCnt.get j) else 0)))
  ∧ (∀ (l j : LaneId) (s : State), let L := s.lane l
    L.running = true →
    (L.eng.healthy.get j = true → L.host.run.nat Item.tqCount ≤ (L.eng.tqCnt.get j).toNat →
      (L.eng.tqIn = ⟨true, true, true⟩ → j ≠ l → (L.eng.lead = some j → L.eng.role = .standby) →
        ∃ t, exec (.tqDisagreeCount l j) s = .next t ∧ (t.lane l).eng.healthy = L.eng.healthy.set j false ∧ .exclude j ∈ (t.lane l).herdTx
          ∧ (L.eng.lead = some j → (t.lane l).eng.role = .lead ∧ (t.lane l).eng.lead = some l))
      ∧ (L.eng.tqIn.lanes.length = 2 → ∃ t, exec (.tqDisagreeCount l j) s = .next t ∧ (t.lane l).safe.unresolved = true))
    ∧ (L.host.run.nat Item.posCount ≤ (L.eng.posCnt.get j).toNat →
      (L.eng.posIn = ⟨true, true, true⟩ → j = l → L.hasSc l = true → L.sen.scLost = false → ∃ t, exec (.sensorDisagree l j .pos) s = .next t
        ∧ (t.lane l).sen.scLost = true ∧ (t.lane l).sen.lossCause = lossPos ∧ (t.lane l).hasFault .sensor l = true)
      ∧ (L.eng.posIn.lanes.length = 2 → ∃ t, exec (.sensorDisagree l j .pos) s = .next t ∧ (t.lane l).safe.unresolved = true))
    ∧ (L.host.run.nat Item.spdCount ≤ (L.eng.spdCnt.get j).toNat →
      (L.eng.spdIn = ⟨true, true, true⟩ → j = l → L.hasSc l = true → L.sen.scLost = false → ∃ t, exec (.sensorDisagree l j .spd) s = .next t
        ∧ (t.lane l).sen.scLost = true ∧ (t.lane l).sen.lossCause = lossSpd ∧ (t.lane l).hasFault .sensor l = true)
      ∧ (L.eng.spdIn.lanes.length = 2 → ∃ t, exec (.sensorDisagree l j .spd) s = .next t ∧ (t.lane l).safe.unresolved = true)))

/-- After 64 samples inside the windows a rejoining lane is healthy again: as standby where there is none and it may lead, as watch otherwise
(R36, R38). Choices of the model: log entries 15, 18. Completion is stated of: rejoinComplete. -/
def Obligations.RejoinCompletes : Prop :=
  ∀ (l : LaneId) (s : State), let L := s.lane l
    L.running = true → L.ox.graphState = .active → L.eng.rejoin = some 64 →
    ∃ t, exec (.rejoinComplete l) s = .next t ∧ (t.lane l).eng.healthy = L.eng.healthy.set l true ∧ (t.lane l).eng.rejoin = none
      ∧ (t.lane l).eng.excluded = false ∧ (t.lane l).hasFault .lane l = false ∧ (t.lane l).start.phase = .full
      ∧ (t.lane l).eng.role = (if L.eng.standby = none ∧ ¬(L.host.run.t2 = true ∧ l = .l2) then .standby else .watch)

/-! ## The Welor link (08 R264–R296) -/

/-- Claims and Gander: lane 2 notes an announced claim; a claimant whose wait is over takes the lowest free SPARE slot and announces it; a
holder silent for 16 cycles leaves the claim table; lane 2 drives BGE as its window edges say, counts and reports a cut frame, and is lost
at the second edge in sequence at which the ball differs; the transmitting lane of a cut frame, and of FLOCK_REJOIN, gives up its clock of
the flock (R283–R288, R296). Choices of the model: log entries 9, 48. Completion is stated of: claimAnnounce, claimBackoffExpiry,
claimHolderSilent, ganderCutMessage, ganderWindowEdge, flockRejoin. -/
def Obligations.ClaimsAndGander : Prop :=
  (∀ (ch : Channel) (slot : Nat) (s : State), (s.lane .l2).running = true → ∃ t, exec (.claimAnnounce .l2 ch slot) s = .next t
    ∧ ((t.lane .l2).chan ch).announcedSlots = [slot] ∧ KeepsDrive (s.lane .l2) (t.lane .l2))
  ∧ (∀ (l : LaneId) (ch : Channel) (slot : Nat) (s : State), let L := s.lane l
    LaneSt.onFlock l ch L = true →
    ((L.chan ch).backoff ≠ some 0 → exec (.claimBackoffExpiry l ch) s = .next s)
    ∧ ((L.chan ch).backoff = some 0 → txLane ch = l → (L.chan ch).synced = true → (L.host.run.item Item.flockClaim).getLsbD ch.num = true →
      (L.chan ch).held = 0 → (L.chan ch).claiming = none → freeSpare L.host.run ch (L.chan ch) = some slot →
      ∃ t, exec (.claimBackoffExpiry l ch) s = .next t ∧ ((t.lane l).chan ch).claiming = some (slot, 0, false)
        ∧ ((t.lane l).chan ch).backoff = none ∧ .claim ch slot ∈ (t.lane l).herdTx ∧ KeepsDrive L (t.lane l))
    ∧ (∀ e, (L.chan ch).claimOf slot = some e →
      (16 ≤ e.silent → ∃ t, exec (.claimHolderSilent l ch slot) s = .next t ∧ ((t.lane l).chan ch).claimOf slot = none
        ∧ ((L.chan ch).held.toNat = slot → ((t.lane l).chan ch).held = 0) ∧ KeepsDrive L (t.lane l))
      ∧ (e.silent < 16 → exec (.claimHolderSilent l ch slot) s = .next s))
    ∧ (txLane ch = l → ∃ t, exec (.ganderCutMessage l ch) s = .next t ∧ (t.lane l).clocked = false
      ∧ ((t.lane l).chan ch).state = .integrating)
    ∧ (txLane ch ≠ l → exec (.ganderCutMessage l ch) s = .next s))
  ∧ (∀ (ch : Channel) (active : Bool) (s : State), let L := s.lane .l2
    LaneSt.onFlock .l2 ch L = true → (L.chan ch).bgeReleased = false →
    (mayOpen ch L = true → ∃ t, exec (.ganderWindowEdge .l2 ch true active true) s = .next t ∧ ((t.lane .l2).chan ch).bge = true
      ∧ (t.lane .l2).flock.chA.cuts = L.flock.chA.cuts ∧ (t.lane .l2).flock.chB.cuts = L.flock.chB.cuts ∧ KeepsDrive L (t.lane .l2))
    ∧ (∃ t, exec (.ganderWindowEdge .l2 ch false false false) s = .next t ∧ ((t.lane .l2).chan ch).bge = false
      ∧ ((t.lane .l2).chan ch).cuts = (L.chan ch).cuts)
    ∧ ((L.chan ch).bge = true → ∃ t, exec (.ganderWindowEdge .l2 ch false true false) s = .next t ∧ ((t.lane .l2).chan ch).bge = false
      ∧ ((t.lane .l2).chan ch).cuts = satInc (L.chan ch).cuts ∧ .cut ch ∈ (t.lane .l2).herdTx ∧ Reported L (t.lane .l2) 0x52
      ∧ KeepsDrive L (t.lane .l2))
    ∧ ((L.chan ch).bgeMiss = 1 → ∃ t, exec (.ganderWindowEdge .l2 ch false false true) s = .next t ∧ (t.lane .l2).start.fa = true
      ∧ (t.lane .l2).start.faSrc = 0x53 ∧ (t.lane .l2).flock.chA.bgeReleased = true ∧ (t.lane .l2).flock.chB.bgeReleased = true))
  ∧ (∀ (c : Ctx) (ch : Channel) (s : State), let L := s.lane c.lane
    let blk := [BitVec.ofNat 8 ch.num, 0, 0, 0]
    let other := L.chan (if ch = .A then .B else .A)
    Ready 0x0620 c blk s → L.minimal = false →
    (other.txLost = false → other.rxLost = false →
      (LaneSt.onFlock c.lane ch L = true → txLane ch = c.lane → ∃ M, exec (.flockRejoin c blk) s = .next (ended c s okRes M) ∧ M.clocked = false
        ∧ KeepsDrive L M)
      ∧ (txLane ch ≠ c.lane → exec (.flockRejoin c blk) s = .next (ended c s okRes L)))
    ∧ ((other.txLost = true ∨ other.rxLost = true) → exec (.flockRejoin c blk) s = .next (ended c s (failRes stNotInState) L)))

/-- What is received: a safe-signal record of a subscribed signal takes effect once per SEQ and is forwarded; a static or dynamic frame that
fails a test counts in the counter of that test, and an accepted one counts for its channel; a command fragment is for its destination,
from a remote entry, and once a message; an old reassembly is discarded and counted (R270, R274, R275, R292). Choices of the model: log
entries 9, 49, 50, 69. Completion is stated of: forwardedSafeRecord, staticFrameReceived, dynamicFrameReceived, commandFragment,
reassemblyTimeout. -/
def Obligations.FlockReception : Prop :=
  (∀ (l : LaneId) (b : List Byte) (e : SubEnt) (s : State), let L := s.lane l
    L.running = true → b.length = 16 → sigAt b 0 ≠ 0 → L.host.run.subs.find? (fun e => e.sig == sigAt b 0) = some e →
    (crc32c (be16 e.node ++ b.take 12) ≠ rd32be b 12 → exec (.forwardedSafeRecord l b) s
      = .next (s.setLane l { L with flock := { L.flock with safeBad := satInc L.flock.safeBad } }))
    ∧ (crc32c (be16 e.node ++ b.take 12) = rd32be b 12 →
      (Store.find L.flock.seqs (sigAt b 0).toNat = some (rd16be b 4) → exec (.forwardedSafeRecord l b) s = .next s)
      ∧ (Store.find L.flock.seqs (sigAt b 0).toNat ≠ some (rd16be b 4) → ∃ t, exec (.forwardedSafeRecord l b) s = .next t
        ∧ Store.find (t.lane l).flock.seqs (sigAt b 0).toNat = some (rd16be b 4) ∧ (t.lane l).herdTx = L.herdTx ++ [.safeRecord b]
        ∧ ((byteAt b 3).getLsbD 0 = false → (t.lane l).ox = L.ox))))
  ∧ (∀ (l : LaneId) (ch : Channel) (x : RxFrame) (s : State), let L := s.lane l
    let f := Frame.ofBytes x.bytes
    let inTime : Bool := !(absI (devOf L.host.run x) > L.host.run.nat Item.precision)
    let fits : Bool := f.slot == x.slot && f.cycle == L.flock.cycle.toNat && f.payload.length == L.host.run.payload ch && x.endsInSlot
      && sourceOk L.host.run ch (L.chan ch) f
    LaneSt.onFlock l ch L = true → L.clocked = true → L.attempting = false → (L.chan ch).claiming = none → L.flock.integStep = 0 →
    (x.decodable = false ∨ (inTime = true ∧ frameCrcOk x.bytes = false) →
      exec (.staticFrameReceived l ch x) s = .next (s.setLane l { L with flock := { L.flock with crcErr := satInc L.flock.crcErr } }))
    ∧ (x.decodable = true → inTime = false →
      exec (.staticFrameReceived l ch x) s = .next (s.setLane l { L with flock := { L.flock with slotBoundary := satInc L.flock.slotBoundary } }))
    ∧ (x.decodable = true → inTime = true → frameCrcOk x.bytes = true → fits = false →
      (L.host.run.schedEnt ch x.slot).spare = false →
      exec (.staticFrameReceived l ch x) s = .next (s.setLane l { L with flock := { L.flock with mismatch := satInc L.flock.mismatch } }))
    ∧ (x.decodable = true → inTime = true → frameCrcOk x.bytes = true → fits = false → (L.host.run.schedEnt ch x.slot).spare = true →
      ∃ t, exec (.staticFrameReceived l ch x) s = .next t ∧ (t.lane l).flock.mismatch = satInc L.flock.mismatch
        ∧ (t.lane l).flock.crcErr = L.flock.crcErr ∧ (t.lane l).flock.slotBoundary = L.flock.slotBoundary ∧ KeepsDrive L (t.lane l)
        ∧ ∀ k, k ∈ ((t.lane l).chan ch).frames ↔ k = x.slot ∨ k ∈ (L.chan ch).frames)
    ∧ (x.decodable = true → inTime = true → frameCrcOk x.bytes = true → fits = true → ∃ t, exec (.staticFrameReceived l ch x) s = .next t
      ∧ (t.lane l).flock.crcErr = L.flock.crcErr ∧ (t.lane l).flock.slotBoundary = L.flock.slotBoundary
      ∧ (t.lane l).flock.mismatch = L.flock.mismatch
      ∧ (f.source = L.host.run.nodeId → ((t.lane l).chan ch).txThis = true ∧ ((t.lane l).chan ch).txQuiet = 0)
      ∧ (f.source ≠ L.host.run.nodeId → L.time.synced = true → ((t.lane l).chan ch).rxThis = true ∧ ((t.lane l).chan ch).rxQuiet = 0)))
  ∧ (∀ (l : LaneId) (ch : Channel) (x : RxFrame) (s : State), let L := s.lane l
    let f := Frame.ofBytes x.bytes
    let inTime : Bool := !(absI (devOf L.host.run x) > L.host.run.nat Item.precision)
    let M := updChan ch (fun y => { y with dynFrameEnd := some L.time.clk10 }) L
    LaneSt.onFlock l ch L = true → L.clocked = true →
    (x.decodable = false ∨ (inTime = true ∧ frameCrcOk x.bytes = false) →
      exec (.dynamicFrameReceived l ch x) s = .next (s.setLane l { M with flock := { M.flock with crcErr := satInc L.flock.crcErr } }))
    ∧ (x.decodable = true → inTime = false →
      exec (.dynamicFrameReceived l ch x) s = .next (s.setLane l { M with flock := { M.flock with slotBoundary := satInc L.flock.slotBoundary } }))
    ∧ (x.decodable = true → inTime = true → frameCrcOk x.bytes = true →
      f.slot ≠ (L.chan ch).slotCounter ∨ L.host.run.nat Item.dynPayload < f.payload.length →
      exec (.dynamicFrameReceived l ch x) s = .next (s.setLane l { M with flock := { M.flock with mismatch := satInc L.flock.mismatch } }))
    ∧ (x.decodable = true → inTime = true → frameCrcOk x.bytes = true → f.slot = (L.chan ch).slotCounter →
      f.payload.length ≤ L.host.run.nat Item.dynPayload →
      (f.source = L.host.run.nodeId → exec (.dynamicFrameReceived l ch x) s
        = .next (s.setLane l (updChan ch (fun y => { y with txThis := true, txQuiet := 0 }) M)))
      ∧ (f.source ≠ L.host.run.nodeId → L.time.synced = true → (L.chan ch).rxLost = false → (L.chan ch).txLost = false →
        let N := updChan ch (fun y => { y with rxThis := true, rxQuiet := 0 }) M
        ((byteAt f.payload 2).toNat % 16 = 1 →
          exec (.dynamicFrameReceived l ch x) s = exec (.commandFragment l ch f.source f.payload) (s.setLane l N))
        ∧ ((byteAt f.payload 2).toNat % 16 ≠ 1 → (byteAt f.payload 2).toNat % 16 ≠ 3 →
          exec (.dynamicFrameReceived l ch x) s = .next (s.setLane l N)))))
  ∧ (∀ (l : LaneId) (ch : Channel) (src : Half) (pay : List Byte) (id : Byte) (n : Fin 16) (s : State), let L := s.lane l
    LaneSt.onFlock l ch L = true →
    (rd16be pay 0 ≠ L.host.run.nodeId → exec (.commandFragment l ch src pay) s = .next s)
    ∧ (rd16be pay 0 = L.host.run.nodeId → (byteAt pay 2).toNat % 16 = 1 → 8 ≤ pay.length → id = byteAt pay 3 →
      (L.host.run.remoteOf src = none → exec (.commandFragment l ch src pay) s
        = .next (s.setLane l { L with eng := { L.eng with violCount := satInc L.eng.violCount } }))
      ∧ (L.host.run.remoteOf src = some n → (∃ j, ∃ m ∈ (s.lane j).flock.seenMsgs, m.1 = src ∧ m.2.1 = id) →
        exec (.commandFragment l ch src pay) s
          = .next (s.setLane l { L with flock := { L.flock with reasm := L.flock.reasm.filter fun r => !r.of src id } }))
      ∧ (L.host.run.remoteOf src = some n → (∀ j, ∀ m ∈ (s.lane j).flock.seenMsgs, ¬(m.1 = src ∧ m.2.1 = id)) →
        L.flock.reasm.find? (fun r => r.of src id) = none → (byteAt pay 4).toNat % 16 ≤ (byteAt pay 4).toNat / 16 → 1 ≤ (byteAt pay 4).toNat / 16 →
        exec (.commandFragment l ch src pay) s = .next (s.setLane l { L with flock := { L.flock with reasm := L.flock.reasm
          ++ [⟨src, id, (byteAt pay 4).toNat / 16 + 1, [((byteAt pay 4).toNat % 16, (pay.drop 8).take (rd16be pay 6).toNat)], L.flock.cycles⟩] } })))
    ∧ ((∃ r ∈ L.flock.reasm, r.of src id = true ∧ r.startCycle + 16 ≤ L.flock.cycles) → exec (.reassemblyTimeout l src id) s
        = .next (s.setLane l { L with flock := { L.flock with reasm := L.flock.reasm.filter (fun r => !r.of src id),
                                                              reasmDrop := satInc L.flock.reasmDrop } }))
    ∧ ((∀ r ∈ L.flock.reasm, r.of src id = true → L.flock.cycles < r.startCycle + 16) → exec (.reassemblyTimeout l src id) s = .next s))

/-- The cycle: the clock of a lane goes on by FLOCK_CYCLE_LEN; a lane that measured nothing for two cycles, but for a single sync node, loses
it, and one whose integration succeeded is synchronised; a cold-start node that ends its attempt's cycle 3 is synchronised, as the
bellwether that its attempt made it; frames go out in own, claimed or held slots only, from a healthy synchronised lane; minislots advance
the slot counter; an attempt begins with the CAS and a STARTUP frame of cycle 0 after a listening period or collision wait that was silent
for every lane, and a listening lane that hears a CAS integrates (R267, R271, R275–R279, R282). Choices of the model: log entries 46, 47.
Completion is stated of: flockCycleStart, staticSlotActionPoint, minislotBoundary, casReceived, coldstartListenExpiry,
collisionWaitExpiry. -/
def Obligations.FlockCyclesAndAttempts : Prop :=
  (∀ (l : LaneId) (s : State), let L := s.lane l
    flockRuns l L = true → L.attempting = false →
    (L.clocked = true → ∃ t, exec (.flockCycleStart l) s = .next t ∧ (t.lane l).flock.cycle = L.flock.cycle + 1
      ∧ (t.lane l).flock.cycleStart = L.flock.cycleStart + BitVec.ofNat 32 (L.host.run.nat Item.cycleLen)
      ∧ (t.lane l).time.flock = (t.lane l).flock.cycleStart)
    ∧ (L.time.synced = true → L.flock.devs = [] → 1 ≤ L.flock.noSync → (∀ ch, receives l ch = true → (L.chan ch).state ≠ .singleSync) →
      ∃ t, exec (.flockCycleStart l) s = .next t ∧ (t.lane l).clocked = false)
    ∧ (L.time.synced = false → L.flock.attemptCycle = none → L.flock.integStep = 2 → L.flock.integGot = true → L.flock.integBad = false →
      ∃ t, exec (.flockCycleStart l) s = .next t ∧ (t.lane l).time.synced = true
        ∧ ∀ ch, receives l ch = true → ((t.lane l).chan ch).state = .sync)
    ∧ (L.time.synced = false → L.flock.attemptCycle = some 3 → ∃ t, exec (.flockCycleStart l) s = .next t ∧ (t.lane l).time.synced = true
        ∧ (t.lane l).flock.attemptCycle = none ∧ (t.lane l).flock.bellSelf = L.flock.bellSelf
        ∧ (t.lane l).flock.bellwether = L.flock.bellwether
        ∧ ∀ ch, receives l ch = true →
          ((t.lane l).chan ch).state = if L.flock.integGot = false ∧ L.flock.devs = [] then .singleSync else .sync))
  ∧ (∀ (l : LaneId) (ch : Channel) (slot : Nat) (idle : Bool) (g : List Byte) (r : List (List Byte)) (s : State), let L := s.lane l
    LaneSt.onFlock l ch L = true →
    (L.flock.attemptCycle = none →
      (txLane ch = l → L.eng.healthy.get l = true → (L.chan ch).synced = true → L.host.run.ownSlot ch slot = true →
        ∃ t, exec (.staticSlotActionPoint l ch slot) s = .next t ∧ ∃ f : Frame, (t.lane l).flockTx = L.flockTx ++ [(ch, f.bytes)]
          ∧ f.slot = slot ∧ f.cycle = L.flock.cycle.toNat ∧ f.source = L.host.run.nodeId ∧ f.startup = false ∧ f.claim = false
          ∧ f.payload.length = L.host.run.payload ch ∧ KeepsDrive L (t.lane l))
      ∧ ((txLane ch ≠ l ∨ L.eng.healthy.get l = false ∨ (L.chan ch).synced = false
          ∨ L.host.run.ownSlot ch slot = false ∧ (L.chan ch).claimSlot ≠ some slot ∧ (L.chan ch).held.toNat ≠ slot) →
        exec (.staticSlotActionPoint l ch slot) s = .next s))
    ∧ (L.clocked = true →
      ((L.chan ch).mini = 0 → ∃ t, exec (.minislotBoundary l ch idle) s = .next t ∧ ((t.lane l).chan ch).mini = 1
        ∧ ((t.lane l).chan ch).slotCounter = L.host.run.statics ch + 1 ∧ KeepsDrive L (t.lane l))
      ∧ ((L.chan ch).mini ≠ 0 → ∃ t, exec (.minislotBoundary l ch true) s = .next t ∧ ((t.lane l).chan ch).mini = (L.chan ch).mini + 1
        ∧ ((t.lane l).chan ch).slotCounter = (L.chan ch).slotCounter + 1 ∧ KeepsDrive L (t.lane l))
      ∧ ((L.chan ch).mini ≠ 0 → (L.chan ch).dynFrameEnd = none → ∃ t, exec (.minislotBoundary l ch false) s = .next t
        ∧ ((t.lane l).chan ch).slotCounter = (L.chan ch).slotCounter)
      ∧ ((L.chan ch).mini ≠ 0 → txLane ch = l → transmits l L = true → L.host.run.nat Item.dynSlot = (L.chan ch).slotCounter + 1 →
        (L.chan ch).dynPending = g :: r → fitsSegment L.host.run ch ((L.chan ch).mini + 1) g.length = true →
        ∃ t, exec (.minislotBoundary l ch true) s = .next t ∧ ((t.lane l).chan ch).dynPending = r
          ∧ ∃ f : Frame, (t.lane l).flockTx = L.flockTx ++ [(ch, f.bytes)] ∧ f.payload = g ∧ f.slot = L.host.run.nat Item.dynSlot
            ∧ f.source = L.host.run.nodeId))
    ∧ ((L.chan ch).state = .listen → ∃ t, exec (.casReceived l ch) s = .next t ∧ (t.lane l).clocked = false
      ∧ ((t.lane l).chan ch).state = .integrating ∧ KeepsDrive L (t.lane l)))
  ∧ (∀ (l : LaneId) (ch : Channel) (slot : Nat) (s : State), let L := s.lane l
    LaneSt.onFlock l ch L = true → txLane ch = l → L.attempting = false → L.host.run.syncSlot ch = some slot →
    L.eng.healthy.get l = true → othersSilent l s.lane L = true →
    let begun := fun (M : LaneSt) => (M.chan ch).state = .coldstart ∧ M.flock.attemptCycle = some 0 ∧ M.flock.bellSelf = true
      ∧ M.flock.bellwether = L.host.run.nodeId ∧ ∃ f : Frame, M.flockTx = L.flockTx ++ [(ch, casSymbol), (ch, f.bytes)] ∧ f.startup = true ∧ f.slot = slot ∧ f.cycle = 0
        ∧ f.source = L.host.run.nodeId ∧ KeepsDrive L M
    ((L.chan ch).state = .listen → L.flock.giveUp = false → ∃ t, exec (.coldstartListenExpiry l) s = .next t ∧ begun (t.lane l))
    ∧ (L.flock.collisionWait = true → ∃ t, exec (.collisionWaitExpiry l) s = .next t ∧ begun (t.lane l)))

/-! ## Operating points, sleep and waking (13 R411–R424) -/

/-- Operating points: POWER_OP_SET lowers the divider at once and raises it only when the voltage is there, and a change asked for during a
raise waits for its end (the model's reading, log entry 37); a PMBus controller's status decides, and a fault is cleared once; after the
time-out the lane stays at its point. A VIN warning moves a lane at OP1 to OP2 and reports, and the restore goes back (R412–R414, R424; 11
R366). Choices of the model: log entries 9, 36, 37. Completion is stated of: powerOpSet, opChangeDone, pmbusStatusPoll, pmbusAckTimeout,
vinWarning, vinRestore. -/
def Obligations.OperatingPoints : Prop :=
  (∀ (c : Ctx) (op : Byte) (s : State), let L := s.lane c.lane
    let blk := [op, 0, 0, 0]
    Ready 0x0A03 c blk s → 1 ≤ op.toNat → op.toNat ≤ 3 →
    (op = 3 ∧ L.ox.graphState = .active ∨ op = 1 ∧ L.pow.vinWarn = true →
      exec (.powerOpSet c blk) s = .next (ended c s (failRes stNotInState) L))
    ∧ (∀ k, L.pow.vinWarn = false → L.pow.change = some k → k.raise = true → (op = 3 → L.ox.graphState ≠ .active) →
      exec (.powerOpSet c blk) s = .next (going c s { L with pow := { L.pow with nextOp := L.pow.nextOp ++ [(op.toNat, some c.tid)] } }))
    ∧ (L.pow.vinWarn = false → L.pow.change = none → L.pow.nextOp = [] → (op = 3 → L.ox.graphState ≠ .active) →
      (L.pow.op = op.toNat → exec (.powerOpSet c blk) s = .next (ended c s okRes L))
      ∧ (L.pow.op ≠ op.toNat → L.pow.corePmbus = false → exec (.powerOpSet c blk) s = .next (going c s { L with pow := { L.pow with
          op := if op.toNat < L.pow.op then L.pow.op else op.toNat,
          change := some { target := op.toNat, raise := op.toNat < L.pow.op, cleared := false, tid := some c.tid, pmbus := false } } }))))
  ∧ (∀ (l : LaneId) (k : OpChange) (status : Half) (s : State), let L := s.lane l
    let reached := fun (t : State) => (t.lane l).pow.op = k.target ∧ (t.lane l).pow.vcore = BitVec.ofNat 16 (opMv k.target)
      ∧ (t.lane l).pow.change = none ∧ KeepsDrive L (t.lane l)
    L.powered = true → L.pow.change = some k → L.pow.nextOp = [] →
    (k.pmbus = false → ∃ t, exec (.opChangeDone l) s = .next t ∧ reached t)
    ∧ (k.pmbus = true →
      (status &&& 0x8840 = 0 → ∃ t, exec (.pmbusStatusPoll l status) s = .next t ∧ reached t)
      ∧ (status &&& 0x8840 ≠ 0 → k.cleared = true → exec (.pmbusStatusPoll l status) s = .next (s.setLane l { L with pow := { L.pow with
          pmbusOut := L.pow.pmbusOut ++ [pmbusRead L.host.run] } }))
      ∧ (status &&& 0x8840 ≠ 0 → k.cleared = false → exec (.pmbusStatusPoll l status) s = .next (s.setLane l { L with pow := { L.pow with
          change := some { k with cleared := true }, pmbusOut := L.pow.pmbusOut ++ [pmbusRead L.host.run] ++ [pmbusBytes L.host.run [0x03]] } }))
      ∧ (∃ t, exec (.pmbusAckTimeout l) s = .next t ∧ (t.lane l).pow.pmbusErr = satInc L.pow.pmbusErr ∧ (t.lane l).pow.op = L.pow.op
        ∧ (t.lane l).pow.change = none ∧ KeepsDrive L (t.lane l))))
  ∧ (∀ (l : LaneId) (mv : Half) (s : State), let L := s.lane l
    L.powered = true → L.start.vinGood = true → L.pow.change = none → L.pow.nextOp = [] →
    (∃ t, exec (.vinWarning l mv) s = .next t ∧ (t.lane l).pow.vin = mv ∧ (t.lane l).pow.vinWarn = true
      ∧ (t.lane l).pow.vinWarnCount = satInc L.pow.vinWarnCount ∧ (t.lane l).pow.op = (if L.pow.op = 1 then 2 else L.pow.op)
      ∧ (L.pow.vinWarn = false → (t.lane l).pow.opRestore = L.pow.op) ∧ (L.running = true → Reported L (t.lane l) 0x60)
      ∧ KeepsDrive L (t.lane l))
    ∧ (L.pow.vinWarn = true → ∃ t, exec (.vinRestore l mv) s = .next t ∧ (t.lane l).pow.vin = mv ∧ (t.lane l).pow.vinWarn = false
      ∧ KeepsDrive L (t.lane l) ∧ (L.pow.opRestore = L.pow.op → (t.lane l).pow.op = L.pow.op ∧ (t.lane l).pow.change = none)
      ∧ (L.pow.opRestore < L.pow.op → (t.lane l).pow.op = L.pow.op
        ∧ ∃ k, (t.lane l).pow.change = some k ∧ k.target = L.pow.opRestore ∧ k.raise = true)))

/-- Sleep: a lane answers the prepare phase, agreeing with its domains stopped or refusing with the reason; the lane that received POWER_SLEEP
coordinates, stops its own domains but for PD_CPU and PD_HOST, which act until the commit (the model's reading, log entry 38), and waits
for the answers of the others; the coordinator commits when every named lane has agreed and rolls back at the first refusal or at the end
of the wait; a commit moves the domains to the target rung, a roll-back returns them to On. Waking: POWER_WAKE and the enabled sources
start the wake order, whose steps follow one another and end with the domains On, or with a domain left Off, which loses the lane where
the lane needs it (R418–R423; 11 R364, R365). Choices of the model: log entries 38, 39. Completion is stated of: powerSleep, powerWake,
sleepAnswer, sleepAnswerTimeout, sleepCommitMessage, sleepRollbackMessage, sleepSelfRollback, wakeStepReady, wakeStepTimeout, wakeRising,
wakeFalling, hcsNWake, rxdActivity. -/
def Obligations.SleepAndWaking : Prop :=
  (∀ (c : Ctx) (lanes doms target : Byte) (s : State), let L := s.lane c.lane
    let blk := [lanes, doms, target, 0]
    let ds := Domain.ofMask doms
    (Ready 0x0A01 c blk s → powerBlock blk 2 = true → doms ≠ 0 →
      (sleepMoves blk L = true → exec (.powerSleep c blk) s = .next (ended c s (failRes stNotInState) L))
      ∧ (sleepMoves blk L = false → L.originOf c.lane c.tid ≠ c.lane →
        (lanes.getLsbD c.lane.num = false → exec (.powerSleep c blk) s = .next (ended c s okRes L))
        ∧ (lanes.getLsbD c.lane.num = true →
          (∀ d r, sleepCheck c.lane c.tid ds L = .refuse d r → ∃ t, exec (.powerSleep c blk) s = .next t
            ∧ (t.lane c.lane).herdTx = L.herdTx ++ [.sleepAns (L.originOf c.lane c.tid) (.refuse d r)]
            ∧ (t.lane c.lane).pow.refuseReason = r ∧ (t.lane c.lane).pow.refuseCount = satInc L.pow.refuseCount
            ∧ (t.lane c.lane).pow.pd = L.pow.pd ∧ KeepsDrive L (t.lane c.lane))
          ∧ (sleepCheck c.lane c.tid ds L = .agree → ∃ t, exec (.powerSleep c blk) s = .next t
            ∧ .sleepAns (L.originOf c.lane c.tid) .agree ∈ (t.lane c.lane).herdTx ∧ KeepsDrive L (t.lane c.lane)
            ∧ ∀ d ∈ ds, L.dom d = .on → (t.lane c.lane).dom d = .onStopped)))
      ∧ (sleepMoves blk L = false → L.originOf c.lane c.tid = c.lane → (∃ j, j ≠ c.lane ∧ lanes.getLsbD j.num = true) →
        (lanes.getLsbD c.lane.num = true → sleepCheck c.lane c.tid ds L = .agree) →
        ∃ t, exec (.powerSleep c blk) s = .next t ∧ KeepsDrive L (t.lane c.lane)
          ∧ (lanes.getLsbD c.lane.num = false → (t.lane c.lane).pow.pd = L.pow.pd)
          ∧ (lanes.getLsbD c.lane.num = true → ∀ d, (t.lane c.lane).dom d
              = if d ∈ ds ∧ L.dom d = .on ∧ d ≠ .cpu ∧ d ≠ .host then .onStopped else L.dom d)
          ∧ ∃ h, (t.lane c.lane).pow.shake = some h ∧ h.coordinator = c.lane ∧ h.domains = ds ∧ h.target = rungOf target.toNat
            ∧ (∀ j, h.lanes.get j = lanes.getLsbD j.num) ∧ (∀ j, j ≠ c.lane → h.answers.get j = none)))
    ∧ (Ready 0x0A02 c [lanes, doms, 0, 0] s → powerBlock [lanes, doms, 0, 0] 0 = true →
      (lanes.getLsbD c.lane.num = false → exec (.powerWake c [lanes, doms, 0, 0]) s = .next (ended c s okRes L))
      ∧ (lanes.getLsbD c.lane.num = true → L.pow.waking = none → L.pow.shake = none → (∃ d ∈ ds, d ≠ .aon ∧ L.dom d ≠ .on) →
        ∃ t w, exec (.powerWake c [lanes, doms, 0, 0]) s = .next t ∧ (t.lane c.lane).pow.waking = some w ∧ w.tids = [c.tid]
          ∧ KeepsDrive L (t.lane c.lane) ∧ ∀ d ∈ ds, d ≠ .aon → L.dom d ≠ .on → d ∈ w.domains)))
  ∧ (∀ (l j : LaneId) (d : Domain) (r : BitVec 5) (h : Handshake) (s : State), let L := s.lane l
    L.running = true → L.pow.shake = some h → h.coordinator = l → j ≠ l → h.lanes.get j = true → h.answers.get j = none →
    (∀ i d r, h.answers.get i ≠ some (.refuse d r)) →
    (∃ t, exec (.sleepAnswer l j (.refuse d r)) s = .next t ∧ .sleepRollback ∈ (t.lane l).herdTx ∧ (t.lane l).pow.shake = none
      ∧ KeepsDrive L (t.lane l))
    ∧ (∃ t, exec (.sleepAnswerTimeout l j) s = .next t ∧ .sleepRollback ∈ (t.lane l).herdTx ∧ (t.lane l).pow.shake = none
      ∧ KeepsDrive L (t.lane l))
    ∧ ((∀ i, i ≠ j → h.lanes.get i = true → h.answers.get i = some .agree) →
      ∃ t, exec (.sleepAnswer l j .agree) s = .next t ∧ (t.lane l).pow.shake = none
        ∧ (sleepLost l h L = none → .sleepCommit ∈ (t.lane l).herdTx)
        ∧ (sleepLost l h L ≠ none → .sleepRollback ∈ (t.lane l).herdTx ∧ KeepsDrive L (t.lane l)))
    ∧ ((∃ i, i ≠ j ∧ h.lanes.get i = true ∧ h.answers.get i = none) → exec (.sleepAnswer l j .agree) s
      = .next (s.setLane l { L with pow := { L.pow with shake := some { h with answers := h.answers.set j (some .agree) } } })))
  ∧ (∀ (l : LaneId) (h : Handshake) (s : State), let L := s.lane l
    L.alive = true → L.pow.shake = some h → h.coordinator ≠ l →
    (∃ t, exec (.sleepCommitMessage l) s = .next t ∧ (t.lane l).pow.shake = none
      ∧ ∀ d ∈ h.domains, (t.lane l).dom d = if (L.dom d).code < h.target.code then h.target else L.dom d)
    ∧ (∃ t, exec (.sleepRollbackMessage l) s = .next t ∧ exec (.sleepSelfRollback l) s = .next t ∧ (t.lane l).pow.shake = none
      ∧ KeepsDrive L (t.lane l)
      ∧ ∀ d ∈ h.stopped, L.dom d = .onStopped → (t.lane l).dom d = .on))
  ∧ (∀ (l : LaneId) (d : Domain) (w : Waking) (s : State), let L := s.lane l
    L.powered = true → L.pow.waking = some w →
    (w.step < 3 → exec (.wakeStepReady l) s
      = .next (s.setLane l { L with pow := { L.pow with waking := some { w with step := stepFrom w.domains L (w.step + 1) } } }))
    ∧ (3 ≤ w.step → (∀ d ∈ w.domains, L.dom d ≠ .off) →
      ∃ t, exec (.wakeStepReady l) s = .next t ∧ KeepsDrive L (t.lane l) ∧ ∀ d ∈ w.domains, (t.lane l).dom d = .on)
    ∧ (w.step = 1 → ∃ t, exec (.wakeStepTimeout l d) s = .next t ∧ (t.lane l).start.fa = true ∧ (t.lane l).start.faSrc = 0x62
      ∧ (t.lane l).pow.waking = none)
    ∧ (w.step ≠ 1 → d ∈ w.domains → ∃ t, exec (.wakeStepTimeout l d) s = .next t ∧ (t.lane l).dom d = .off
      ∧ (d ∈ neededDomains → (t.lane l).start.fa = true ∧ (t.lane l).start.faSrc = 0x63)))
  ∧ (∀ (l : LaneId) (ch : Channel) (s : State), let L := s.lane l
    let wakes := fun (t : State) (n : Nat) (ds : List Domain) => L.powered = true → L.start.inReset = false → L.start.bist = none →
      L.start.shutting = none → L.pow.waking = none → L.pow.shake = none → wakeEnabled n L = true →
      (∃ d ∈ ds, L.dom d ≠ .on) → ∃ w, (t.lane l).pow.waking = some w ∧ ∀ d ∈ ds, L.dom d ≠ .on → d ∈ w.domains
    (∃ t, exec (.wakeRising l) s = .next t ∧ (t.lane l).start.wakePin = true ∧ (t.lane l).start.keyoff = false
      ∧ (L.shut = true → (t.lane l).start.wakeCold = true) ∧ KeepsDrive L (t.lane l) ∧ wakes t 0 (Domain.all.filter (· != .aon)))
    ∧ (∃ t, exec (.wakeFalling l) s = .next t ∧ (t.lane l).start.wakePin = false ∧ (t.lane l).start.keyoff = true
      ∧ (t.lane l).pow = L.pow ∧ KeepsDrive L (t.lane l))
    ∧ (∃ t, exec (.hcsNWake l) s = .next t ∧ (L.pow.shake = none → (t.lane l).pow.pd = L.pow.pd) ∧ KeepsDrive L (t.lane l) ∧ wakes t 1 [.cpu, .host])
    ∧ (receives l ch = true → ∃ t, exec (.rxdActivity l ch) s = .next t ∧ (L.pow.shake = none → (t.lane l).pow.pd = L.pow.pd)
      ∧ KeepsDrive L (t.lane l) ∧ wakes t 2 [.cpu, .flock]))

/-! ## Start-up and resets (13 R393–R410, R424–R433; 14 R442, R443) -/

/-- Supply, resets and the Colt stage: a lane without supply keeps its NVM alone; VIN_GOOD starts it at OP2, and with the core supply the Colt
action of its record is applied, ALL_OFF without a valid record; a reset by NRST_N, TEST_EN, VIN or the core voltage sends LANE_DOWN, puts
the gates off and every domain On, and keeps the NVM; a lost clock makes the lane FA (R393–R396, R404, R408, R410, R414, R425; 02 R63; 14
R443). Choices of the model: log entries 9, 33, 34, 36, 45. Completion is stated of: supplyLoss, vinGood, coreSupplyReady,
coltSlowTimeout, coltHallValidHold, nrstN, testEn, vinReset, vcoreLow, clockLoss. -/
def Obligations.ResetsAndColdStart : Prop :=
  (∀ (l : LaneId) (mv : Half) (pmbus : Bool) (s : State), let L := s.lane l
    (∃ t, exec (.supplyLoss l) s = .next t ∧ (t.lane l).start.supplied = false ∧ (t.lane l).start.phase = .cold ∧ AllGatesOff l (t.lane l)
      ∧ (t.lane l).herdTx = [] ∧ (t.lane l).start.imgA = L.start.imgA ∧ (t.lane l).start.imgB = L.start.imgB
      ∧ (t.lane l).start.bootRing = L.start.bootRing ∧ (t.lane l).start.testResult = L.start.testResult)
    ∧ (L.start.supplied = false → ∃ t, exec (.vinGood l .supply pmbus mv) s = .next t ∧ (t.lane l).start.supplied = true
      ∧ (t.lane l).start.vinGood = true ∧ (t.lane l).start.startKind = 0 ∧ (t.lane l).start.cold = true ∧ (t.lane l).start.phase = .cold
      ∧ (t.lane l).pow.op = 2 ∧ AllGatesOff l (t.lane l) ∧ (t.lane l).start.imgA = L.start.imgA ∧ (t.lane l).start.imgB = L.start.imgB)
    ∧ (L.start.supplied = true → L.shut = true → L.start.wakeCold = true → L.start.bist = none →
      ∃ t, exec (.vinGood l .wake pmbus mv) s = .next t ∧ (t.lane l).start.startKind = 1 ∧ (t.lane l).start.cold = true
        ∧ (t.lane l).start.phase = .cold ∧ (t.lane l).pow.op = 2))
  ∧ (∀ (l : LaneId) (nvm : List (Nat × EccOutcome)) (s : State), let L := s.lane l
    let poisoned := nvm.any fun w => foundBad L 1 w.1 w.2
    L.start.supplied = true → L.start.vinGood = true → L.start.coreReady = false → L.start.testEn = false → L.start.phase = .cold →
    ∃ t, exec (.coreSupplyReady l nvm) s = .next t ∧ (t.lane l).start.coreReady = true ∧ (∀ d, (t.lane l).dom d = .on)
      ∧ (L.pow.corePmbus = false → (t.lane l).pow.vcore = 800)
      ∧ ((poisoned = true ∨ chosenColt L.start = none) → (t.lane l).gate.demand = .allOff)
      ∧ (∀ r, poisoned = false → chosenColt L.start = some r → r.t2 = false → L.gate.stoHigh = true → L.mot.stoHold = false →
        (r.action = 1 → (t.lane l).start.coltAction = .activeShort ∧ (t.lane l).gate.demand = .lowSides)
        ∧ (r.action = 0 → (t.lane l).start.coltAction = .allOff ∧ (t.lane l).gate.demand = .allOff)))
  ∧ (∀ (l : LaneId) (s : State), let L := s.lane l
    (L.start.coltOn = true → L.start.coltFast = true → ∃ t, exec (.coltSlowTimeout l) s = .next t ∧ (t.lane l).start.coltFast = false
      ∧ (t.lane l).start.coltOn = true)
    ∧ (L.start.coltOn = true → L.start.coltNoHall = true → coltHallOk L = true → ∃ t, exec (.coltHallValidHold l) s = .next t
      ∧ (t.lane l).start.coltNoHall = false ∧ (t.lane l).start.coltOn = true)
    ∧ (L.start.coltOn = false → exec (.coltSlowTimeout l) s = .next s ∧ exec (.coltHallValidHold l) s = .next s))
  ∧ (∀ (l : LaneId) (n : Nat) (mv : Half) (s : State), let L := s.lane l
    let restarted := fun (t : State) (kind : BitVec 3) => let M := t.lane l
      M.start.inReset = true ∧ M.start.startKind = kind ∧ AllGatesOff l M ∧ (∀ d, M.dom d = .on) ∧ M.eng.role = .none ∧ M.int.ce = none
      ∧ M.int.uc = none ∧ M.start.imgA = L.start.imgA ∧ M.start.imgB = L.start.imgB ∧ M.start.bootRing = L.start.bootRing
      ∧ (L.alive = true → .laneDown ∈ M.herdTx)
    (L.powered = true →
      (n < 200 → exec (.nrstN l n) s = .next s)
      ∧ (1000 ≤ n → ∃ t, exec (.nrstN l n) s = .next t ∧ restarted t 2)
      ∧ (200 ≤ n → n < 1000 → ∃ t, exec (.nrstN l n) s = .next t ∧ (restarted t 2 ∨ t.lane l = { L with time := { L.time with
          free := L.time.free + 1 } }))
      ∧ (10000 ≤ n → ∃ t, exec (.testEn l n) s = .next t ∧ (t.lane l).start.testEn = true ∧ restarted t 2)
      ∧ (∃ t, exec (.vinReset l mv) s = .next t ∧ (t.lane l).pow.vin = mv ∧ (t.lane l).start.vinGood = false ∧ restarted t 4)
      ∧ (∃ t, exec (.vcoreLow l mv) s = .next t ∧ (L.pow.corePmbus = true → (t.lane l).pow.vcore = mv) ∧ restarted t 4)
      ∧ (∃ t, exec (.clockLoss l) s = .next t ∧ (t.lane l).start.fa = true ∧ (t.lane l).start.faSrc = 0x62 ∧ AllGatesOff l (t.lane l)
        ∧ (t.lane l).gate.forcedOff = true ∧ .laneDown ∈ (t.lane l).herdTx ∧ (t.lane l).eng.role = .none))
    ∧ (L.start.supplied = true →
      (0 < n → n < 10000 → exec (.testEn l n) s = .next s)
      ∧ (exec (.testEn l 0) s = .next (s.setLane l { L with start := { L.start with testEn := false } }))))

/-- Start-up and shutdown: the firmware start counts in the boot counter, tests, loads the image of higher generation and announces the lane,
with a failed test FA and at a count of 3 minimal; an election takes the announced lanes as healthy, with lead and standby the first two
that may, and the lead hands over; START_FULL leaves minimal mode; key-off, SHUTDOWN and START_BIST lead to the self-test, whose domains
follow one another and whose end powers the lane down (R399–R408, R427–R433; 01 R27; 11 R370–R372). Choices of the model: log entries 9,
35, 41, 42, 43, 80. Completion is stated of: firmwareStart, announcement, electionClose, handover, restartRecordWait, startFull, shutdown,
startBist, keyoffDelayExpiry, selfTestDomainDone. -/
def Obligations.StartAndShutdown : Prop :=
  (∀ (l : LaneId) (i : FwIn) (im : Image) (s : State), let L := s.lane l
    (mayStart L = false → exec (.firmwareStart l i) s = .next s)
    ∧ (mayStart L = true → 3 ≤ L.start.bootKept.toNat → ∃ t, exec (.firmwareStart l i) s = .next t ∧ (t.lane l).start.phase = .minimal
      ∧ (t.lane l).start.minReason = 1 ∧ (t.lane l).start.bootCount = 3)
    ∧ (mayStart L = true → L.start.fa = false → L.start.bootKept.toNat < 3 →
      ((i.checkerOk = false ∨ i.injectionOk = false ∨ i.analogOk = false) → ∃ t, exec (.firmwareStart l i) s = .next t
        ∧ (t.lane l).start.fa = true ∧ (t.lane l).start.faSrc = 0x27 ∧ .laneDown ∈ (t.lane l).herdTx
        ∧ (t.lane l).start.bootCount = L.start.bootKept + 1)
      ∧ (i.checkerOk = true → i.injectionOk = true → i.analogOk = true → i.nvm = [] → (∀ q ∈ L.int.poisoned, q.1 ≠ 1) →
        L.start.testResult.status ≠ 1 → L.start.elects = true → roleHeld l s.lane = false →
        (L.start.goodA = some im ∧ (∀ b, L.start.goodB = some b → b.gen.toNat ≤ im.gen.toNat)
          ∨ L.start.goodB = some im ∧ (∀ a, L.start.goodA = some a → a.gen.toNat < im.gen.toNat)) →
        ∃ t, exec (.firmwareStart l i) s = .next t ∧ (t.lane l).start.phase = .announced ∧ (t.lane l).host.run = im.conf
          ∧ (t.lane l).start.bootCount = L.start.bootKept + 1 ∧ (t.lane l).eng.electionOpen = true
          ∧ ∃ cur, .announce im.gen false cur ∈ (t.lane l).herdTx)))
  ∧ (∀ (l j lead : LaneId) (gen : BitVec 24) (minimal : Bool) (cur : Word) (rest : List LaneId) (s : State), let L := s.lane l
    (L.powered = true → L.start.fa = false → j ≠ l → L.eng.role = .none → L.eng.lead = none → L.eng.electionOpen = true →
      exec (.announcement l j gen minimal cur) s = .next (s.setLane l { L with eng := { L.eng with
        announced := L.eng.announced.set j (some ⟨gen, minimal, cur⟩) } }))
    ∧ (L.running = true → L.eng.electionOpen = true → (L.eng.announced.get l).isSome = true → L.minimal = false →
      (∀ j a, L.eng.announced.get j = some a → a.gen = gen) → l ∈ L.eng.members → mayLead L.host.run L.eng.members = lead :: rest →
      ∃ t, exec (.electionClose l) s = .next t ∧ (t.lane l).eng.electionOpen = false
        ∧ (t.lane l).eng.healthy = Tri.tab (fun j => L.eng.members.contains j) ∧ (t.lane l).eng.lead = some lead
        ∧ (t.lane l).eng.standby = rest.head?
        ∧ (t.lane l).eng.role = (if l = lead then .lead else if rest.head? = some l then .standby else .watch)
        ∧ (l = lead → .handover ∈ (t.lane l).herdTx ∧ (t.lane l).start.handover = true))
    ∧ (L.powered = true → j ≠ l → L.start.phase ≠ .full →
      (L.running = true → L.start.phase = .announced → (L.eng.announced.get l).isSome = true → L.start.elects = true →
        exec (.handover l j) s = .next (s.setLane l { L with start := { L.start with handover := true } }))
      ∧ ((L.running = false ∨ L.start.elects = false) → ∃ t, exec (.handover l j) s = .next t ∧ (t.lane l).start.coltOn = false
        ∧ (L.start.coltOn = true → (t.lane l).gate.demand = .allOff)))
    ∧ (L.powered = true → L.start.cold = false → L.start.elects = false → L.start.startKind ≠ 5 → L.start.phase ≠ .full → L.eng.role = .none →
      L.start.fa = false → L.start.testEn = false → ∃ t, exec (.restartRecordWait l) s = .next t ∧ (t.lane l).start.coltOn = true ∧ (t.lane l).start.elects = true
        ∧ (L.running = true → L.start.phase = .announced → ∃ g m c, .announce g m c ∈ (t.lane l).herdTx)))
  ∧ (∀ (c : Ctx) (lanes : Byte) (s : State), let L := s.lane c.lane
    (Ready 0x0B01 c [] s →
      (L.minimal = true → ∃ t, exec (.startFull c []) s = .next t ∧ (t.lane c.lane).start.phase = .fwStart
        ∧ (t.lane c.lane).start.bootCount = 0 ∧ (t.lane c.lane).start.startKind = 5 ∧ (t.lane c.lane).start.elects = true)
      ∧ (L.minimal = false → exec (.startFull c []) s = .next (ended c s (failRes stNotInState) L)))
    ∧ (Ready 0x0B02 c [] s →
      (L.mot.enabled = false → L.safe.ss1 = none → L.start.shutting = none →
        ∃ M, exec (.shutdown c []) s = .next (ended c s okRes M) ∧ M.start.shutting = some 0)
      ∧ ((L.mot.enabled = true ∨ L.safe.ss1.isSome = true) → exec (.shutdown c []) s = .next (ended c s (failRes stNotInState) L)))
    ∧ (Ready 0x0B03 c [lanes, 0, 0, 0] s → lanes ≠ 0 → lanes.toNat < 8 → L.minimal = false → L.mot.enabled = false →
      (∀ j : LaneId, lanes.getLsbD j.num = true → L.eng.healthy.get j = true) → L.start.bist = none → L.start.bistWait = false →
      L.start.shutting = none → lanes.getLsbD c.lane.num = true →
      (∀ j, j ≠ c.lane → (s.lane j).start.bist = none ∧ (s.lane j).start.bistWait = false ∧ (s.lane j).start.shutting = none) →
      ∃ M, exec (.startBist c [lanes, 0, 0, 0]) s = .next (going c s M) ∧ M.start.bistWait = true ∧ M.start.bistTid = some c.tid
        ∧ M.start.bistLanes = Tri.tab fun j => lanes.getLsbD j.num))
  ∧ (∀ (l : LaneId) (pass : Bool) (ms : Byte) (detail : Half) (b : BistRun) (s : State), let L := s.lane l
    (L.keyoffAlive = true →
      (keyoffNow l s.lane L = true → ∃ t, exec (.keyoffDelayExpiry l) s = .next t ∧ (t.lane l).start.shutting = some 1
        ∧ (t.lane l).start.keyoff = false)
      ∧ (keyoffNow l s.lane L = false → exec (.keyoffDelayExpiry l) s
          = .next (s.setLane l { L with start := { L.start with keyoffDue := L.start.keyoff && !L.start.wakePin } })))
    ∧ (L.start.supplied = true → L.start.coreReady = true → L.start.phase = .shutdownTest → L.start.bist = some b → b.abandon = none →
      L.start.testEn = false →
      (b.step < 6 → ∃ t b', exec (.selfTestDomainDone l pass ms detail) s = .next t ∧ (t.lane l).start.bist = some b' ∧ b'.step = b.step + 1
        ∧ b'.res.tested = b.res.tested ||| BitVec.ofNat 8 (2 ^ (testOrder.getD b.step .cpu).num)
        ∧ b'.res.failed = (if pass then b.res.failed else b.res.failed ||| BitVec.ofNat 8 (2 ^ (testOrder.getD b.step .cpu).num)))
      ∧ (b.step = 6 → b.keepPower = false → ∃ t, exec (.selfTestDomainDone l pass ms detail) s = .next t
        ∧ (t.lane l).start.phase = .poweredDown ∧ (t.lane l).start.bist = none ∧ AllGatesOff l (t.lane l)
        ∧ (∀ d ∈ testOrder, (t.lane l).dom d = .off)
        ∧ (t.lane l).start.testResult.status = if pass = true ∧ b.res.failed = 0 then 0 else 1)))

/-! ## The fast sample (03 R92, R135–R139; 01 R18, 09 R306) -/

/-- A fast sample of a lane that survives it ends with the status mirror of that update (09 R306); a failed lockstep comparison makes the lane
FA with its gates off (12 Table 12-4). It takes the winding currents (05 R170), and the only torque it can accept is its own or one that a
record shows (01 R29). Each node type gives the output of Table 3-2 from its inputs, within its limits (03 R99, R106, R120); a node with a
poisoned input keeps its state and poisons its outputs, and no other node changes (12 R381). At the release point the duties go to the
PWM, and the sample record, unless it is poisoned, to the other lanes (04 R135; 01 R16, R17; 12 R381). Choices of the model: log entries
10, 71. Completion is stated of: fastSample, releasePoint. -/
def Obligations.SampleAndRelease : Prop :=
  (∀ (l : LaneId) (i : FastIn) (s : State), let L := s.lane l
    L.samples = true →
    (∃ t, exec (.fastSample l i) s = .next t ∧ let M := t.lane l
      M.running = true → M.host.mirror.length = 40 ∧ (∀ n : Fin 32, M.host.mirror.getD n 0 = Store.read 0 M.ox.status n)
        ∧ M.host.mirror.getD (32 + l.num) 0 = laneReg0 l M ∧ M.host.mirror.getD 35 0 = safeReg0 M ∧ M.host.mirror.getD 36 0 = safeReg1 l M
        ∧ M.host.mirror.getD 37 0 = M.safe.stateTime ∧ M.host.mirror.getD 38 0 = M.now ∧ M.host.mirror.getD 39 0 = M.host.mirrorCount)
    ∧ (i.lockstepOk = false → ∃ t, exec (.fastSample l i) s = .next t ∧ (t.lane l).start.fa = true ∧ (t.lane l).start.faSrc = 0x20
      ∧ AllGatesOff l (t.lane l) ∧ .laneDown ∈ (t.lane l).herdTx ∧ (t.lane l).host.mirrorCount = L.host.mirrorCount)
    ∧ (i.lockstepOk = true → ∃ t, exec (.fastSample l i) s = .next t
      ∧ ((t.lane l).running = true → (t.lane l).mot.ia = currentOf (t.lane l).host.run i.codeA L.mot.offA
        ∧ (t.lane l).mot.ib = currentOf (t.lane l).host.run i.codeB L.mot.offB)
      ∧ ((t.lane l).eng.tqAcc = L.eng.tqAcc ∨ (t.lane l).eng.tqAcc = 0 ∨ (t.lane l).eng.tqAcc = L.eng.tqOwn
        ∨ ∃ j h, j ≠ l ∧ L.eng.recs.get j = some h ∧ (t.lane l).eng.tqAcc = h.r.tq)))
  ∧ (∀ (e : OxEnv) (old cur : Nodes) (n : Nat) (r : NodeRec), let N := evalNode e old cur n r
    let q := inI e old cur r
    let S := Nodes.st old n
    (r.t = 0x02 → N.cur.o1 = r.p 0)
    ∧ (r.t = 0x04 → N.cur.o1 = satQ (mulQ (r.pI 0) (q 0)))
    ∧ (r.t = 0x05 → r.mode ≠ 1 → r.nin = 2 → N.cur.o1 = satQ ((if r.attr.getLsbD 0 then -(q 0) else q 0) + (if r.attr.getLsbD 1 then -(q 1) else q 1)))
    ∧ (r.t = 0x06 → N.cur.o1 = satQ (mulQ (q 0) (q 1)))
    ∧ (r.t = 0x09 → r.nin = 1 → r.pI 1 ≤ r.pI 0 → N.cur.o1.toInt = max (r.pI 1) (min (r.pI 0) (q 0)))
    ∧ (r.t = 0x0B → r.nin = 2 → r.mode = 0 → r.arbiter = false → r.pI 1 ≤ r.pI 0 →
      N.cur.o1.toInt = max (r.pI 1) (min (r.pI 0) (min (q 0) (q 1))))
    ∧ (r.t = 0x0C → r.nin = 2 → r.mode = 0 → r.arbiter = false → r.pI 1 ≤ r.pI 0 → N.cur.o1.toInt = max (r.pI 1) (min (r.pI 0) (max (q 0) (q 1))))
    ∧ (r.t = 0x0E → S.first = false → N.cur.o1 = satQ (roundDiv (S.cur.o1.toInt * qUnit + r.pI 0 * (q 0 - S.cur.o1.toInt)) qUnit))
    ∧ (r.t = 0x10 → (absI (q 0) ≤ r.pI 0 → N.cur.o1 = 0) ∧ (r.pI 0 < q 0 → 0 ≤ r.pI 0 → N.cur.o1.toInt = q 0 - r.pI 0))
    ∧ (r.t = 0x07 → r.nin = 1 →
      (∀ v, S.manual = some v → N.cur.o1 = v)
      ∧ (S.manual = none → r.pI 4 ≤ r.pI 3 → r.pI 4 ≤ N.cur.o1.toInt ∧ N.cur.o1.toInt ≤ r.pI 3)
      ∧ (S.manual = none → S.devPreset = none → S.herdSet = none → S.kpOld = none →
        S.first = true → e.depth = false → r.pI 6 ≤ r.pI 5 →
        let i := clampI (sat48 (S.integ.toInt + (sat48 (roundDiv (r.pI 1 * q 0) 256)).toInt)).toInt (r.pI 6 * 65536) (r.pI 5 * 65536)
        N.integ = sat48 i ∧ N.u = satQ ((satQ (mulQ (r.pI 0) (q 0))).toInt + (integQ (sat48 i)).toInt)))
    ∧ (e.conf.node n = r → Store.wf {} cur = true → (anyPoison e old cur r = true → Nodes.st (stepNode e old cur n) n = { S with cur := { S.cur with poison := 0xF } })
      ∧ (anyPoison e old cur r = false → e.badNodes = [] → Nodes.st (stepNode e old cur n) n = N)
      ∧ ∀ m, m ≠ n → Nodes.st (stepNode e old cur n) m = Nodes.st cur m))
  ∧ (∀ (l : LaneId) (t10 : Nat) (s : State), let L := s.lane l
    L.samples = true →
    (∃ t r, exec (.releasePoint l t10 false) s = .next t ∧ .record (HerdRec.bytes r) ∈ (t.lane l).herdTx
      ∧ r.lane = BitVec.ofNat 2 l.num ∧ r.role = BitVec.ofNat 2 L.eng.role.code ∧ r.excl = L.eng.excluded ∧ r.gen = L.eng.gen
      ∧ r.speed = L.sen.speed ∧ r.tq = L.eng.tqOwn ∧ r.seq = BitVec.ofNat 8 L.ox.fastCount
      ∧ (∀ d, L.ox.staged.duties = some d → (t.lane l).mot.staged = some d)
      ∧ (L.ox.staged.duties = none → (t.lane l).mot.staged = L.mot.staged))
    ∧ (∃ t, exec (.releasePoint l t10 true) s = .next t ∧ (∀ b, .record b ∈ (t.lane l).herdTx → .record b ∈ L.herdTx)
      ∧ (L.ox.graphState ≠ .active → L.ox.staged.sinks = [] → Reported L (t.lane l) 0x0B)))
end

