-- ==== Sys2Proof/Laws/State.lean ====
section
/-! SUPPORT. What the updates of a state leave and change: the lanes of a device, and the fields of a lane under the shared updates. -/

namespace Sys2Proof

/-! ## Triples -/

@[simp] theorem Tri.get_set_same {α : Type} (t : Tri α) (l : LaneId) (v : α) : (t.set l v).get l = v := by cases l <;> rfl

theorem Tri.get_set_ne {α : Type} (t : Tri α) {l j : LaneId} (v : α) (h : j ≠ l) : (t.set l v).get j = t.get j := by
  cases l <;> cases j <;> first | rfl | exact absurd rfl h

@[simp] theorem Tri.get_tab {α : Type} (f : LaneId → α) (l : LaneId) : (Tri.tab f).get l = f l := by cases l <;> rfl

@[simp] theorem Tri.get_map {α β : Type} (t : Tri α) (f : α → β) (l : LaneId) : (t.map f).get l = f (t.get l) := by cases l <;> rfl

@[simp] theorem Tri.set_get {α : Type} (t : Tri α) (l : LaneId) : t.set l (t.get l) = t := by cases l <;> rfl

@[simp] theorem Tri.set_set {α : Type} (t : Tri α) (l : LaneId) (v w : α) : (t.set l v).set l w = t.set l w := by cases l <;> rfl

namespace Machine

/-! ## Lanes of a state -/

@[simp] theorem setLane_pending (s : State) (l : LaneId) (L : LaneSt) : (s.setLane l L).pending = s.pending := rfl

@[simp] theorem lane_setLane_same (s : State) (l : LaneId) (L : LaneSt) : (s.setLane l L).lane l = L := Tri.get_set_same _ _ _

theorem lane_setLane_ne (s : State) {l j : LaneId} (L : LaneSt) (h : j ≠ l) : (s.setLane l L).lane j = s.lane j :=
  Tri.get_set_ne _ _ h

@[simp] theorem setLane_lane (s : State) (l : LaneId) : s.setLane l (s.lane l) = s := by
  cases s; simp [State.setLane, State.lane]

@[simp] theorem pending_lane (s : State) (r : List Instr) (l : LaneId) : ({ s with pending := r } : State).lane l = s.lane l := rfl

/-! ## A command on a lane -/

@[simp] theorem onLane_eq (l : LaneId) (f : LaneSt → LaneSt) (s : State) : onLane l f s = .next (s.setLane l (f (s.lane l))) := rfl

theorem onLaneIf_pos (l : LaneId) (c : LaneSt → Bool) (f : LaneSt → LaneSt) (s : State) (h : c (s.lane l) = true) :
    onLaneIf l c f s = .next (s.setLane l (f (s.lane l))) := by
  simp [onLaneIf, h]

theorem onLaneIf_neg (l : LaneId) (c : LaneSt → Bool) (f : LaneSt → LaneSt) (s : State) (h : c (s.lane l) = false) :
    onLaneIf l c f s = .next s := by
  simp [onLaneIf, h]

/-! ## Shared updates of a lane -/

@[simp] theorem send_time (m : HerdMsg) (L : LaneSt) : (send m L).time = L.time := by
  rfl
@[simp] theorem send_eng (m : HerdMsg) (L : LaneSt) : (send m L).eng = L.eng := by
  rfl
@[simp] theorem send_safe (m : HerdMsg) (L : LaneSt) : (send m L).safe = L.safe := by
  rfl
@[simp] theorem send_ox (m : HerdMsg) (L : LaneSt) : (send m L).ox = L.ox := by
  rfl
@[simp] theorem send_trace (m : HerdMsg) (L : LaneSt) : (send m L).trace = L.trace := by
  rfl
@[simp] theorem send_learn (m : HerdMsg) (L : LaneSt) : (send m L).learn = L.learn := by
  rfl
@[simp] theorem send_mot (m : HerdMsg) (L : LaneSt) : (send m L).mot = L.mot := by
  rfl
@[simp] theorem send_sen (m : HerdMsg) (L : LaneSt) : (send m L).sen = L.sen := by
  rfl
@[simp] theorem send_gate (m : HerdMsg) (L : LaneSt) : (send m L).gate = L.gate := by
  rfl
@[simp] theorem send_flock (m : HerdMsg) (L : LaneSt) : (send m L).flock = L.flock := by
  rfl
@[simp] theorem send_host (m : HerdMsg) (L : LaneSt) : (send m L).host = L.host := by
  rfl
@[simp] theorem send_ev (m : HerdMsg) (L : LaneSt) : (send m L).ev = L.ev := by
  rfl
@[simp] theorem send_int (m : HerdMsg) (L : LaneSt) : (send m L).int = L.int := by
  rfl
@[simp] theorem send_pow (m : HerdMsg) (L : LaneSt) : (send m L).pow = L.pow := by
  rfl
@[simp] theorem send_start (m : HerdMsg) (L : LaneSt) : (send m L).start = L.start := by
  rfl
@[simp] theorem send_flockTx (m : HerdMsg) (L : LaneSt) : (send m L).flockTx = L.flockTx := by
  rfl
@[simp] theorem send_txd (m : HerdMsg) (L : LaneSt) : (send m L).txd = L.txd := by
  rfl
@[simp] theorem send_herdTx (m : HerdMsg) (L : LaneSt) : (send m L).herdTx = L.herdTx ++ [m] := rfl
@[simp] theorem violate_time (a : Nat) (w u : Bool) (L : LaneSt) : (violate a w u L).time = L.time := by
  rfl
@[simp] theorem violate_safe (a : Nat) (w u : Bool) (L : LaneSt) : (violate a w u L).safe = L.safe := by
  rfl
@[simp] theorem violate_ox (a : Nat) (w u : Bool) (L : LaneSt) : (violate a w u L).ox = L.ox := by
  rfl
@[simp] theorem violate_trace (a : Nat) (w u : Bool) (L : LaneSt) : (violate a w u L).trace = L.trace := by
  rfl
@[simp] theorem violate_learn (a : Nat) (w u : Bool) (L : LaneSt) : (violate a w u L).learn = L.learn := by
  rfl
@[simp] theorem violate_mot (a : Nat) (w u : Bool) (L : LaneSt) : (violate a w u L).mot = L.mot := by
  rfl
@[simp] theorem violate_sen (a : Nat) (w u : Bool) (L : LaneSt) : (violate a w u L).sen = L.sen := by
  rfl
@[simp] theorem violate_gate (a : Nat) (w u : Bool) (L : LaneSt) : (violate a w u L).gate = L.gate := by
  rfl
@[simp] theorem violate_flock (a : Nat) (w u : Bool) (L : LaneSt) : (violate a w u L).flock = L.flock := by
  rfl
@[simp] theorem violate_host (a : Nat) (w u : Bool) (L : LaneSt) : (violate a w u L).host = L.host := by
  rfl
@[simp] theorem violate_ev (a : Nat) (w u : Bool) (L : LaneSt) : (violate a w u L).ev = L.ev := by
  rfl
@[simp] theorem violate_int (a : Nat) (w u : Bool) (L : LaneSt) : (violate a w u L).int = L.int := by
  rfl
@[simp] theorem violate_pow (a : Nat) (w u : Bool) (L : LaneSt) : (violate a w u L).pow = L.pow := by
  rfl
@[simp] theorem violate_start (a : Nat) (w u : Bool) (L : LaneSt) : (violate a w u L).start = L.start := by
  rfl
@[simp] theorem violate_herdTx (a : Nat) (w u : Bool) (L : LaneSt) : (violate a w u L).herdTx = L.herdTx := by
  rfl
@[simp] theorem violate_flockTx (a : Nat) (w u : Bool) (L : LaneSt) : (violate a w u L).flockTx = L.flockTx := by
  rfl
@[simp] theorem violate_txd (a : Nat) (w u : Bool) (L : LaneSt) : (violate a w u L).txd = L.txd := by
  rfl
@[simp] theorem gatesOff_time (L : LaneSt) : (gatesOff L).time = L.time := by
  rfl
@[simp] theorem gatesOff_eng (L : LaneSt) : (gatesOff L).eng = L.eng := by
  rfl
@[simp] theorem gatesOff_safe (L : LaneSt) : (gatesOff L).safe = L.safe := by
  rfl
@[simp] theorem gatesOff_ox (L : LaneSt) : (gatesOff L).ox = L.ox := by
  rfl
@[simp] theorem gatesOff_trace (L : LaneSt) : (gatesOff L).trace = L.trace := by
  rfl
@[simp] theorem gatesOff_learn (L : LaneSt) : (gatesOff L).learn = L.learn := by
  rfl
@[simp] theorem gatesOff_sen (L : LaneSt) : (gatesOff L).sen = L.sen := by
  rfl
@[simp] theorem gatesOff_flock (L : LaneSt) : (gatesOff L).flock = L.flock := by
  rfl
@[simp] theorem gatesOff_host (L : LaneSt) : (gatesOff L).host = L.host := by
  rfl
@[simp] theorem gatesOff_ev (L : LaneSt) : (gatesOff L).ev = L.ev := by
  rfl
@[simp] theorem gatesOff_int (L : LaneSt) : (gatesOff L).int = L.int := by
  rfl
@[simp] theorem gatesOff_pow (L : LaneSt) : (gatesOff L).pow = L.pow := by
  rfl
@[simp] theorem gatesOff_herdTx (L : LaneSt) : (gatesOff L).herdTx = L.herdTx := by
  rfl
@[simp] theorem gatesOff_flockTx (L : LaneSt) : (gatesOff L).flockTx = L.flockTx := by
  rfl
@[simp] theorem gatesOff_txd (L : LaneSt) : (gatesOff L).txd = L.txd := by
  rfl
@[simp] theorem freezeTrace_time (L : LaneSt) : (freezeTrace L).time = L.time := by
  rfl
@[simp] theorem freezeTrace_eng (L : LaneSt) : (freezeTrace L).eng = L.eng := by
  rfl
@[simp] theorem freezeTrace_safe (L : LaneSt) : (freezeTrace L).safe = L.safe := by
  rfl
@[simp] theorem freezeTrace_ox (L : LaneSt) : (freezeTrace L).ox = L.ox := by
  rfl
@[simp] theorem freezeTrace_learn (L : LaneSt) : (freezeTrace L).learn = L.learn := by
  rfl
@[simp] theorem freezeTrace_mot (L : LaneSt) : (freezeTrace L).mot = L.mot := by
  rfl
@[simp] theorem freezeTrace_sen (L : LaneSt) : (freezeTrace L).sen = L.sen := by
  rfl
@[simp] theorem freezeTrace_gate (L : LaneSt) : (freezeTrace L).gate = L.gate := by
  rfl
@[simp] theorem freezeTrace_flock (L : LaneSt) : (freezeTrace L).flock = L.flock := by
  rfl
@[simp] theorem freezeTrace_host (L : LaneSt) : (freezeTrace L).host = L.host := by
  rfl
@[simp] theorem freezeTrace_ev (L : LaneSt) : (freezeTrace L).ev = L.ev := by
  rfl
@[simp] theorem freezeTrace_int (L : LaneSt) : (freezeTrace L).int = L.int := by
  rfl
@[simp] theorem freezeTrace_pow (L : LaneSt) : (freezeTrace L).pow = L.pow := by
  rfl
@[simp] theorem freezeTrace_start (L : LaneSt) : (freezeTrace L).start = L.start := by
  rfl
@[simp] theorem freezeTrace_herdTx (L : LaneSt) : (freezeTrace L).herdTx = L.herdTx := by
  rfl
@[simp] theorem freezeTrace_flockTx (L : LaneSt) : (freezeTrace L).flockTx = L.flockTx := by
  rfl
@[simp] theorem freezeTrace_txd (L : LaneSt) : (freezeTrace L).txd = L.txd := by
  rfl
@[simp] theorem releaseBge_time (me : LaneId) (L : LaneSt) : (releaseBge me L).time = L.time := by
  unfold releaseBge; split <;> rfl
@[simp] theorem releaseBge_eng (me : LaneId) (L : LaneSt) : (releaseBge me L).eng = L.eng := by
  unfold releaseBge; split <;> rfl
@[simp] theorem releaseBge_safe (me : LaneId) (L : LaneSt) : (releaseBge me L).safe = L.safe := by
  unfold releaseBge; split <;> rfl
@[simp] theorem releaseBge_ox (me : LaneId) (L : LaneSt) : (releaseBge me L).ox = L.ox := by
  unfold releaseBge; split <;> rfl
@[simp] theorem releaseBge_trace (me : LaneId) (L : LaneSt) : (releaseBge me L).trace = L.trace := by
  unfold releaseBge; split <;> rfl
@[simp] theorem releaseBge_learn (me : LaneId) (L : LaneSt) : (releaseBge me L).learn = L.learn := by
  unfold releaseBge; split <;> rfl
@[simp] theorem releaseBge_mot (me : LaneId) (L : LaneSt) : (releaseBge me L).mot = L.mot := by
  unfold releaseBge; split <;> rfl
@[simp] theorem releaseBge_sen (me : LaneId) (L : LaneSt) : (releaseBge me L).sen = L.sen := by
  unfold releaseBge; split <;> rfl
@[simp] theorem releaseBge_gate (me : LaneId) (L : LaneSt) : (releaseBge me L).gate = L.gate := by
  unfold releaseBge; split <;> rfl
@[simp] theorem releaseBge_host (me : LaneId) (L : LaneSt) : (releaseBge me L).host = L.host := by
  unfold releaseBge; split <;> rfl
@[simp] theorem releaseBge_ev (me : LaneId) (L : LaneSt) : (releaseBge me L).ev = L.ev := by
  unfold releaseBge; split <;> rfl
@[simp] theorem releaseBge_int (me : LaneId) (L : LaneSt) : (releaseBge me L).int = L.int := by
  unfold releaseBge; split <;> rfl
@[simp] theorem releaseBge_pow (me : LaneId) (L : LaneSt) : (releaseBge me L).pow = L.pow := by
  unfold releaseBge; split <;> rfl
@[simp] theorem releaseBge_start (me : LaneId) (L : LaneSt) : (releaseBge me L).start = L.start := by
  unfold releaseBge; split <;> rfl
@[simp] theorem releaseBge_herdTx (me : LaneId) (L : LaneSt) : (releaseBge me L).herdTx = L.herdTx := by
  unfold releaseBge; split <;> rfl
@[simp] theorem releaseBge_flockTx (me : LaneId) (L : LaneSt) : (releaseBge me L).flockTx = L.flockTx := by
  unfold releaseBge; split <;> rfl
@[simp] theorem releaseBge_txd (me : LaneId) (L : LaneSt) : (releaseBge me L).txd = L.txd := by
  unfold releaseBge; split <;> rfl
@[simp] theorem addFault_time (f : Standing) (L : LaneSt) : (addFault f L).time = L.time := by
  unfold addFault; split <;> rfl
@[simp] theorem addFault_eng (f : Standing) (L : LaneSt) : (addFault f L).eng = L.eng := by
  unfold addFault; split <;> rfl
@[simp] theorem addFault_ox (f : Standing) (L : LaneSt) : (addFault f L).ox = L.ox := by
  unfold addFault; split <;> rfl
@[simp] theorem addFault_trace (f : Standing) (L : LaneSt) : (addFault f L).trace = L.trace := by
  unfold addFault; split <;> rfl
@[simp] theorem addFault_learn (f : Standing) (L : LaneSt) : (addFault f L).learn = L.learn := by
  unfold addFault; split <;> rfl
@[simp] theorem addFault_mot (f : Standing) (L : LaneSt) : (addFault f L).mot = L.mot := by
  unfold addFault; split <;> rfl
@[simp] theorem addFault_sen (f : Standing) (L : LaneSt) : (addFault f L).sen = L.sen := by
  unfold addFault; split <;> rfl
@[simp] theorem addFault_gate (f : Standing) (L : LaneSt) : (addFault f L).gate = L.gate := by
  unfold addFault; split <;> rfl
@[simp] theorem addFault_flock (f : Standing) (L : LaneSt) : (addFault f L).flock = L.flock := by
  unfold addFault; split <;> rfl
@[simp] theorem addFault_host (f : Standing) (L : LaneSt) : (addFault f L).host = L.host := by
  unfold addFault; split <;> rfl
@[simp] theorem addFault_ev (f : Standing) (L : LaneSt) : (addFault f L).ev = L.ev := by
  unfold addFault; split <;> rfl
@[simp] theorem addFault_int (f : Standing) (L : LaneSt) : (addFault f L).int = L.int := by
  unfold addFault; split <;> rfl
@[simp] theorem addFault_pow (f : Standing) (L : LaneSt) : (addFault f L).pow = L.pow := by
  unfold addFault; split <;> rfl
@[simp] theorem addFault_start (f : Standing) (L : LaneSt) : (addFault f L).start = L.start := by
  unfold addFault; split <;> rfl
@[simp] theorem addFault_herdTx (f : Standing) (L : LaneSt) : (addFault f L).herdTx = L.herdTx := by
  unfold addFault; split <;> rfl
@[simp] theorem addFault_flockTx (f : Standing) (L : LaneSt) : (addFault f L).flockTx = L.flockTx := by
  unfold addFault; split <;> rfl
@[simp] theorem addFault_txd (f : Standing) (L : LaneSt) : (addFault f L).txd = L.txd := by
  unfold addFault; split <;> rfl
@[simp] theorem endFaults_time (p : Standing → Bool) (L : LaneSt) : (endFaults p L).time = L.time := by
  rfl
@[simp] theorem endFaults_eng (p : Standing → Bool) (L : LaneSt) : (endFaults p L).eng = L.eng := by
  rfl
@[simp] theorem endFaults_ox (p : Standing → Bool) (L : LaneSt) : (endFaults p L).ox = L.ox := by
  rfl
@[simp] theorem endFaults_trace (p : Standing → Bool) (L : LaneSt) : (endFaults p L).trace = L.trace := by
  rfl
@[simp] theorem endFaults_learn (p : Standing → Bool) (L : LaneSt) : (endFaults p L).learn = L.learn := by
  rfl
@[simp] theorem endFaults_mot (p : Standing → Bool) (L : LaneSt) : (endFaults p L).mot = L.mot := by
  rfl
@[simp] theorem endFaults_sen (p : Standing → Bool) (L : LaneSt) : (endFaults p L).sen = L.sen := by
  rfl
@[simp] theorem endFaults_gate (p : Standing → Bool) (L : LaneSt) : (endFaults p L).gate = L.gate := by
  rfl
@[simp] theorem endFaults_flock (p : Standing → Bool) (L : LaneSt) : (endFaults p L).flock = L.flock := by
  rfl
@[simp] theorem endFaults_host (p : Standing → Bool) (L : LaneSt) : (endFaults p L).host = L.host := by
  rfl
@[simp] theorem endFaults_ev (p : Standing → Bool) (L : LaneSt) : (endFaults p L).ev = L.ev := by
  rfl
@[simp] theorem endFaults_int (p : Standing → Bool) (L : LaneSt) : (endFaults p L).int = L.int := by
  rfl
@[simp] theorem endFaults_pow (p : Standing → Bool) (L : LaneSt) : (endFaults p L).pow = L.pow := by
  rfl
@[simp] theorem endFaults_start (p : Standing → Bool) (L : LaneSt) : (endFaults p L).start = L.start := by
  rfl
@[simp] theorem endFaults_herdTx (p : Standing → Bool) (L : LaneSt) : (endFaults p L).herdTx = L.herdTx := by
  rfl
@[simp] theorem endFaults_flockTx (p : Standing → Bool) (L : LaneSt) : (endFaults p L).flockTx = L.flockTx := by
  rfl
@[simp] theorem endFaults_txd (p : Standing → Bool) (L : LaneSt) : (endFaults p L).txd = L.txd := by
  rfl

end Machine

end Sys2Proof
end

