-- ==== Sys2Proof/Laws/Ops.lean ====
section
/-! SUPPORT. What the shared operations can do: an arrival, a report, a change of SAFE_STATE and a task's end each change only the engines
named here. -/

namespace Sys2Proof.Machine

/-! ## Arrivals (10 R325, R328): only the EVENT engine and the event queue of the HOST engine change -/

theorem EventOnly.refl (L : LaneSt) : EventOnly L L := rfl

theorem EventOnly.trans {L M N : LaneSt} (h : EventOnly L M) (k : EventOnly M N) : EventOnly L N := by
  unfold EventOnly at *; rw [k, h]; rfl

theorem EventOnly.ev (L : LaneSt) (e : EvEng) : EventOnly L { L with ev := e } := rfl

theorem signal_only (g : Nat) (L : LaneSt) : EventOnly L (signal g L) := by
  unfold signal; split
  · rfl
  · split
    · unfold raiseIrq; split <;> rfl
    · rfl

theorem oweHit_only (h : ParityHit) (L : LaneSt) : EventOnly L (oweHit h L) := by
  unfold oweHit spendHit; cases h.control <;> rfl

theorem poisonWord_only (m w : Nat) (L : LaneSt) : EventOnly L (poisonWord m w L) := rfl

/-- The words of a record are written in the event queue's engine and counted where their transfer fails. -/
theorem ownWrite_only (first n : Nat) (put : LaneSt → LaneSt) (L : LaneSt) (h : EventOnly L (put L)) :
    EventOnly L (ownWrite first n put L) := by
  unfold ownWrite
  have step : ∀ (l : List ParityHit) (f : LaneSt → ParityHit → LaneSt), (∀ M h, EventOnly M (f M h)) →
      ∀ M, EventOnly L M → EventOnly L (l.foldl f M) := by
    intro l f hf
    induction l with
    | nil => intro M hM; exact hM
    | cons a r ih => intro M hM; exact ih _ (hM.trans (hf M a))
  refine step _ _ (fun M h => ?_) _ (h.trans rfl)
  dsimp only
  refine (oweHit_only h M).trans ?_
  split <;> split <;> rfl

theorem putRecord_only (me : LaneId) (src count : Byte) (cls : BitVec 3) (u r : Bool) (t : Word) (p : BitVec 64) (L : LaneSt) :
    EventOnly L (putRecord me src count cls u r t p L) := by
  unfold putRecord
  have h : ∀ w e l o, EventOnly L { L with host := { L.host with win := w, eqTail := e, lossOwed := l, eqOvf := o } } := fun _ _ _ _ => rfl
  exact EventOnly.trans (ownWrite_only _ _ _ L (h _ _ _ _)) (signal_only _ _)

theorem writeSource_only (me : LaneId) (src : Byte) (r : Bool) (L : LaneSt) : EventOnly L (writeSource me src r L) := by
  unfold writeSource
  split
  · rfl
  · dsimp only
    split
    · exact EventOnly.trans (EventOnly.ev L _) (putRecord_only _ _ _ _ _ _ _ _ _)
    · split <;> rfl

theorem dropRecord_only (src : Byte) (L : LaneSt) : EventOnly L (dropRecord src L) := by
  unfold dropRecord; split <;> rfl

theorem arriveAt_only (me : LaneId) (src : Byte) (n : Nat) (cls : BitVec 3) (p : BitVec 64) (t : Word) (u : Bool) (L : LaneSt) :
    EventOnly L (arriveAt me src n cls p t u L) := by
  unfold arriveAt
  dsimp only
  split
  · rfl
  · split
    · exact EventOnly.trans (EventOnly.ev L _) (writeSource_only _ _ _ _)
    · exact EventOnly.trans (EventOnly.ev L _) (dropRecord_only _ _)

theorem arrive_only (me : LaneId) (src : Byte) (cls : BitVec 3) (p : BitVec 64) (L : LaneSt) : EventOnly L (arrive me src cls p L) := by
  unfold arrive; split
  · exact arriveAt_only _ _ _ _ _ _ _ _
  · rfl

theorem replayFrom_only (me : LaneId) : ∀ (l : List Nat) (L : LaneSt), EventOnly L (replayFrom me l L)
  | [], L => rfl
  | s :: r, L => by
    unfold replayFrom
    refine EventOnly.trans ?_ (replayFrom_only me r _)
    split
    · exact writeSource_only _ _ _ _
    · rfl

theorem replay_only (me : LaneId) (L : LaneSt) : EventOnly L (replay me L) := replayFrom_only _ _ _

/-! What an update of this form leaves. -/

theorem EventOnly.time_eq {L M : LaneSt} (h : EventOnly L M) : M.time = L.time := by rw [h]
theorem EventOnly.eng_eq {L M : LaneSt} (h : EventOnly L M) : M.eng = L.eng := by rw [h]
theorem EventOnly.safe_eq {L M : LaneSt} (h : EventOnly L M) : M.safe = L.safe := by rw [h]
theorem EventOnly.ox_eq {L M : LaneSt} (h : EventOnly L M) : M.ox = L.ox := by rw [h]
theorem EventOnly.trace_eq {L M : LaneSt} (h : EventOnly L M) : M.trace = L.trace := by rw [h]
theorem EventOnly.learn_eq {L M : LaneSt} (h : EventOnly L M) : M.learn = L.learn := by rw [h]
theorem EventOnly.mot_eq {L M : LaneSt} (h : EventOnly L M) : M.mot = L.mot := by rw [h]
theorem EventOnly.sen_eq {L M : LaneSt} (h : EventOnly L M) : M.sen = L.sen := by rw [h]
theorem EventOnly.gate_eq {L M : LaneSt} (h : EventOnly L M) : M.gate = L.gate := by rw [h]
theorem EventOnly.flock_eq {L M : LaneSt} (h : EventOnly L M) : M.flock = L.flock := by rw [h]
theorem EventOnly.int_sbe {L M : LaneSt} (h : EventOnly L M) : M.int.sbe = L.int.sbe := by rw [h]; rfl
theorem EventOnly.int_ded {L M : LaneSt} (h : EventOnly L M) : M.int.ded = L.int.ded := by rw [h]; rfl
theorem EventOnly.int_lastDed {L M : LaneSt} (h : EventOnly L M) : M.int.lastDed = L.int.lastDed := by rw [h]; rfl
theorem EventOnly.int_lastSbe {L M : LaneSt} (h : EventOnly L M) : M.int.lastSbe = L.int.lastSbe := by rw [h]; rfl
theorem EventOnly.int_mergeRmw {L M : LaneSt} (h : EventOnly L M) : M.int.mergeRmw = L.int.mergeRmw := by rw [h]; rfl
theorem EventOnly.int_mergePoison {L M : LaneSt} (h : EventOnly L M) : M.int.mergePoison = L.int.mergePoison := by rw [h]; rfl
theorem EventOnly.int_scrubPasses {L M : LaneSt} (h : EventOnly L M) : M.int.scrubPasses = L.int.scrubPasses := by rw [h]; rfl
theorem EventOnly.int_scrubLast {L M : LaneSt} (h : EventOnly L M) : M.int.scrubLast = L.int.scrubLast := by rw [h]; rfl
theorem EventOnly.int_scrubMax {L M : LaneSt} (h : EventOnly L M) : M.int.scrubMax = L.int.scrubMax := by rw [h]; rfl
theorem EventOnly.int_repairs {L M : LaneSt} (h : EventOnly L M) : M.int.repairs = L.int.repairs := by rw [h]; rfl
theorem EventOnly.int_poisonUsed {L M : LaneSt} (h : EventOnly L M) : M.int.poisonUsed = L.int.poisonUsed := by rw [h]; rfl
theorem EventOnly.int_ceCount {L M : LaneSt} (h : EventOnly L M) : M.int.ceCount = L.int.ceCount := by rw [h]; rfl
theorem EventOnly.int_ucCount {L M : LaneSt} (h : EventOnly L M) : M.int.ucCount = L.int.ucCount := by rw [h]; rfl
theorem EventOnly.int_faCount {L M : LaneSt} (h : EventOnly L M) : M.int.faCount = L.int.faCount := by rw [h]; rfl
theorem EventOnly.int_checkerOk {L M : LaneSt} (h : EventOnly L M) : M.int.checkerOk = L.int.checkerOk := by rw [h]; rfl
theorem EventOnly.int_ce {L M : LaneSt} (h : EventOnly L M) : M.int.ce = L.int.ce := by rw [h]; rfl
theorem EventOnly.int_uc {L M : LaneSt} (h : EventOnly L M) : M.int.uc = L.int.uc := by rw [h]; rfl
theorem EventOnly.int_fa {L M : LaneSt} (h : EventOnly L M) : M.int.fa = L.int.fa := by rw [h]; rfl
theorem EventOnly.int_ovf {L M : LaneSt} (h : EventOnly L M) : M.int.ovf = L.int.ovf := by rw [h]; rfl
theorem EventOnly.int_faSaved {L M : LaneSt} (h : EventOnly L M) : M.int.faSaved = L.int.faSaved := by rw [h]; rfl
theorem EventOnly.int_stamps {L M : LaneSt} (h : EventOnly L M) : M.int.stamps = L.int.stamps := by rw [h]; rfl
theorem EventOnly.int_scrubMem {L M : LaneSt} (h : EventOnly L M) : M.int.scrubMem = L.int.scrubMem := by rw [h]; rfl
theorem EventOnly.int_scrubWord {L M : LaneSt} (h : EventOnly L M) : M.int.scrubWord = L.int.scrubWord := by rw [h]; rfl
theorem EventOnly.int_scrubSlots {L M : LaneSt} (h : EventOnly L M) : M.int.scrubSlots = L.int.scrubSlots := by rw [h]; rfl
theorem EventOnly.int_aonWord {L M : LaneSt} (h : EventOnly L M) : M.int.aonWord = L.int.aonWord := by rw [h]; rfl
theorem EventOnly.int_sbeTimes {L M : LaneSt} (h : EventOnly L M) : M.int.sbeTimes = L.int.sbeTimes := by rw [h]; rfl
theorem EventOnly.int_merge {L M : LaneSt} (h : EventOnly L M) : M.int.merge = L.int.merge := by rw [h]; rfl
theorem EventOnly.int_repairQ {L M : LaneSt} (h : EventOnly L M) : M.int.repairQ = L.int.repairQ := by rw [h]; rfl
theorem EventOnly.pow_eq {L M : LaneSt} (h : EventOnly L M) : M.pow = L.pow := by rw [h]
theorem EventOnly.start_eq {L M : LaneSt} (h : EventOnly L M) : M.start = L.start := by rw [h]
theorem EventOnly.herdTx_eq {L M : LaneSt} (h : EventOnly L M) : M.herdTx = L.herdTx := by rw [h]
theorem EventOnly.flockTx_eq {L M : LaneSt} (h : EventOnly L M) : M.flockTx = L.flockTx := by rw [h]
theorem EventOnly.host_run {L M : LaneSt} (h : EventOnly L M) : M.host.run = L.host.run := by rw [h]
theorem EventOnly.host_committed {L M : LaneSt} (h : EventOnly L M) : M.host.committed = L.host.committed := by rw [h]
theorem EventOnly.host_tasks {L M : LaneSt} (h : EventOnly L M) : M.host.tasks = L.host.tasks := by rw [h]
theorem EventOnly.host_nextTid {L M : LaneSt} (h : EventOnly L M) : M.host.nextTid = L.host.nextTid := by rw [h]
theorem EventOnly.host_trans {L M : LaneSt} (h : EventOnly L M) : M.host.trans = L.host.trans := by rw [h]
theorem EventOnly.host_prepOpen {L M : LaneSt} (h : EventOnly L M) : M.host.prepOpen = L.host.prepOpen := by rw [h]
theorem EventOnly.host_prepAns {L M : LaneSt} (h : EventOnly L M) : M.host.prepAns = L.host.prepAns := by rw [h]
theorem EventOnly.host_commitTid {L M : LaneSt} (h : EventOnly L M) : M.host.commitTid = L.host.commitTid := by rw [h]
theorem EventOnly.host_applyGen {L M : LaneSt} (h : EventOnly L M) : M.host.applyGen = L.host.applyGen := by rw [h]
theorem EventOnly.host_applyWant {L M : LaneSt} (h : EventOnly L M) : M.host.applyWant = L.host.applyWant := by rw [h]
theorem EventOnly.host_storing {L M : LaneSt} (h : EventOnly L M) : M.host.storing = L.host.storing := by rw [h]
theorem EventOnly.host_storeTid {L M : LaneSt} (h : EventOnly L M) : M.host.storeTid = L.host.storeTid := by rw [h]
theorem EventOnly.host_lastRes {L M : LaneSt} (h : EventOnly L M) : M.host.lastRes = L.host.lastRes := by rw [h]
theorem EventOnly.host_cqHead {L M : LaneSt} (h : EventOnly L M) : M.host.cqHead = L.host.cqHead := by rw [h]
theorem EventOnly.host_cqTail {L M : LaneSt} (h : EventOnly L M) : M.host.cqTail = L.host.cqTail := by rw [h]
theorem EventOnly.host_eqHead {L M : LaneSt} (h : EventOnly L M) : M.host.eqHead = L.host.eqHead := by rw [h]
theorem EventOnly.host_slotsUsed {L M : LaneSt} (h : EventOnly L M) : M.host.slotsUsed = L.host.slotsUsed := by rw [h]
theorem EventOnly.host_resv {L M : LaneSt} (h : EventOnly L M) : M.host.resv = L.host.resv := by rw [h]
theorem EventOnly.host_lastSeq {L M : LaneSt} (h : EventOnly L M) : M.host.lastSeq = L.host.lastSeq := by rw [h]
theorem EventOnly.host_asleep {L M : LaneSt} (h : EventOnly L M) : M.host.asleep = L.host.asleep := by rw [h]
theorem EventOnly.host_remoteOut {L M : LaneSt} (h : EventOnly L M) : M.host.remoteOut = L.host.remoteOut := by rw [h]
theorem EventOnly.host_learnCommit {L M : LaneSt} (h : EventOnly L M) : M.host.learnCommit = L.host.learnCommit := by rw [h]
theorem EventOnly.host_admitted {L M : LaneSt} (h : EventOnly L M) : M.host.admitted = L.host.admitted := by rw [h]
theorem EventOnly.host_refused {L M : LaneSt} (h : EventOnly L M) : M.host.refused = L.host.refused := by rw [h]
theorem EventOnly.host_wait {L M : LaneSt} (h : EventOnly L M) : M.host.wait = L.host.wait := by rw [h]
theorem EventOnly.host_dbHeld {L M : LaneSt} (h : EventOnly L M) : M.host.dbHeld = L.host.dbHeld := by rw [h]

@[simp] theorem arrive_time (me : LaneId) (src : Byte) (cls : BitVec 3) (p : BitVec 64) (L : LaneSt) :
    (arrive me src cls p L).time = L.time := (arrive_only me src cls p L).time_eq
@[simp] theorem arrive_eng (me : LaneId) (src : Byte) (cls : BitVec 3) (p : BitVec 64) (L : LaneSt) :
    (arrive me src cls p L).eng = L.eng := (arrive_only me src cls p L).eng_eq
@[simp] theorem arrive_safe (me : LaneId) (src : Byte) (cls : BitVec 3) (p : BitVec 64) (L : LaneSt) :
    (arrive me src cls p L).safe = L.safe := (arrive_only me src cls p L).safe_eq
@[simp] theorem arrive_ox (me : LaneId) (src : Byte) (cls : BitVec 3) (p : BitVec 64) (L : LaneSt) :
    (arrive me src cls p L).ox = L.ox := (arrive_only me src cls p L).ox_eq
@[simp] theorem arrive_trace (me : LaneId) (src : Byte) (cls : BitVec 3) (p : BitVec 64) (L : LaneSt) :
    (arrive me src cls p L).trace = L.trace := (arrive_only me src cls p L).trace_eq
@[simp] theorem arrive_learn (me : LaneId) (src : Byte) (cls : BitVec 3) (p : BitVec 64) (L : LaneSt) :
    (arrive me src cls p L).learn = L.learn := (arrive_only me src cls p L).learn_eq
@[simp] theorem arrive_mot (me : LaneId) (src : Byte) (cls : BitVec 3) (p : BitVec 64) (L : LaneSt) :
    (arrive me src cls p L).mot = L.mot := (arrive_only me src cls p L).mot_eq
@[simp] theorem arrive_sen (me : LaneId) (src : Byte) (cls : BitVec 3) (p : BitVec 64) (L : LaneSt) :
    (arrive me src cls p L).sen = L.sen := (arrive_only me src cls p L).sen_eq
@[simp] theorem arrive_gate (me : LaneId) (src : Byte) (cls : BitVec 3) (p : BitVec 64) (L : LaneSt) :
    (arrive me src cls p L).gate = L.gate := (arrive_only me src cls p L).gate_eq
@[simp] theorem arrive_flock (me : LaneId) (src : Byte) (cls : BitVec 3) (p : BitVec 64) (L : LaneSt) :
    (arrive me src cls p L).flock = L.flock := (arrive_only me src cls p L).flock_eq
@[simp] theorem arrive_int_sbe (me : LaneId) (src : Byte) (cls : BitVec 3) (p : BitVec 64) (L : LaneSt) :
    (arrive me src cls p L).int.sbe = L.int.sbe := (arrive_only me src cls p L).int_sbe
@[simp] theorem arrive_int_ded (me : LaneId) (src : Byte) (cls : BitVec 3) (p : BitVec 64) (L : LaneSt) :
    (arrive me src cls p L).int.ded = L.int.ded := (arrive_only me src cls p L).int_ded
@[simp] theorem arrive_int_lastDed (me : LaneId) (src : Byte) (cls : BitVec 3) (p : BitVec 64) (L : LaneSt) :
    (arrive me src cls p L).int.lastDed = L.int.lastDed := (arrive_only me src cls p L).int_lastDed
@[simp] theorem arrive_int_lastSbe (me : LaneId) (src : Byte) (cls : BitVec 3) (p : BitVec 64) (L : LaneSt) :
    (arrive me src cls p L).int.lastSbe = L.int.lastSbe := (arrive_only me src cls p L).int_lastSbe
@[simp] theorem arrive_int_mergeRmw (me : LaneId) (src : Byte) (cls : BitVec 3) (p : BitVec 64) (L : LaneSt) :
    (arrive me src cls p L).int.mergeRmw = L.int.mergeRmw := (arrive_only me src cls p L).int_mergeRmw
@[simp] theorem arrive_int_mergePoison (me : LaneId) (src : Byte) (cls : BitVec 3) (p : BitVec 64) (L : LaneSt) :
    (arrive me src cls p L).int.mergePoison = L.int.mergePoison := (arrive_only me src cls p L).int_mergePoison
@[simp] theorem arrive_int_scrubPasses (me : LaneId) (src : Byte) (cls : BitVec 3) (p : BitVec 64) (L : LaneSt) :
    (arrive me src cls p L).int.scrubPasses = L.int.scrubPasses := (arrive_only me src cls p L).int_scrubPasses
@[simp] theorem arrive_int_scrubLast (me : LaneId) (src : Byte) (cls : BitVec 3) (p : BitVec 64) (L : LaneSt) :
    (arrive me src cls p L).int.scrubLast = L.int.scrubLast := (arrive_only me src cls p L).int_scrubLast
@[simp] theorem arrive_int_scrubMax (me : LaneId) (src : Byte) (cls : BitVec 3) (p : BitVec 64) (L : LaneSt) :
    (arrive me src cls p L).int.scrubMax = L.int.scrubMax := (arrive_only me src cls p L).int_scrubMax
@[simp] theorem arrive_int_repairs (me : LaneId) (src : Byte) (cls : BitVec 3) (p : BitVec 64) (L : LaneSt) :
    (arrive me src cls p L).int.repairs = L.int.repairs := (arrive_only me src cls p L).int_repairs
@[simp] theorem arrive_int_poisonUsed (me : LaneId) (src : Byte) (cls : BitVec 3) (p : BitVec 64) (L : LaneSt) :
    (arrive me src cls p L).int.poisonUsed = L.int.poisonUsed := (arrive_only me src cls p L).int_poisonUsed
@[simp] theorem arrive_int_ceCount (me : LaneId) (src : Byte) (cls : BitVec 3) (p : BitVec 64) (L : LaneSt) :
    (arrive me src cls p L).int.ceCount = L.int.ceCount := (arrive_only me src cls p L).int_ceCount
@[simp] theorem arrive_int_ucCount (me : LaneId) (src : Byte) (cls : BitVec 3) (p : BitVec 64) (L : LaneSt) :
    (arrive me src cls p L).int.ucCount = L.int.ucCount := (arrive_only me src cls p L).int_ucCount
@[simp] theorem arrive_int_faCount (me : LaneId) (src : Byte) (cls : BitVec 3) (p : BitVec 64) (L : LaneSt) :
    (arrive me src cls p L).int.faCount = L.int.faCount := (arrive_only me src cls p L).int_faCount
@[simp] theorem arrive_int_checkerOk (me : LaneId) (src : Byte) (cls : BitVec 3) (p : BitVec 64) (L : LaneSt) :
    (arrive me src cls p L).int.checkerOk = L.int.checkerOk := (arrive_only me src cls p L).int_checkerOk
@[simp] theorem arrive_int_ce (me : LaneId) (src : Byte) (cls : BitVec 3) (p : BitVec 64) (L : LaneSt) :
    (arrive me src cls p L).int.ce = L.int.ce := (arrive_only me src cls p L).int_ce
@[simp] theorem arrive_int_uc (me : LaneId) (src : Byte) (cls : BitVec 3) (p : BitVec 64) (L : LaneSt) :
    (arrive me src cls p L).int.uc = L.int.uc := (arrive_only me src cls p L).int_uc
@[simp] theorem arrive_int_fa (me : LaneId) (src : Byte) (cls : BitVec 3) (p : BitVec 64) (L : LaneSt) :
    (arrive me src cls p L).int.fa = L.int.fa := (arrive_only me src cls p L).int_fa
@[simp] theorem arrive_int_ovf (me : LaneId) (src : Byte) (cls : BitVec 3) (p : BitVec 64) (L : LaneSt) :
    (arrive me src cls p L).int.ovf = L.int.ovf := (arrive_only me src cls p L).int_ovf
@[simp] theorem arrive_int_faSaved (me : LaneId) (src : Byte) (cls : BitVec 3) (p : BitVec 64) (L : LaneSt) :
    (arrive me src cls p L).int.faSaved = L.int.faSaved := (arrive_only me src cls p L).int_faSaved
@[simp] theorem arrive_int_stamps (me : LaneId) (src : Byte) (cls : BitVec 3) (p : BitVec 64) (L : LaneSt) :
    (arrive me src cls p L).int.stamps = L.int.stamps := (arrive_only me src cls p L).int_stamps
@[simp] theorem arrive_int_scrubMem (me : LaneId) (src : Byte) (cls : BitVec 3) (p : BitVec 64) (L : LaneSt) :
    (arrive me src cls p L).int.scrubMem = L.int.scrubMem := (arrive_only me src cls p L).int_scrubMem
@[simp] theorem arrive_int_scrubWord (me : LaneId) (src : Byte) (cls : BitVec 3) (p : BitVec 64) (L : LaneSt) :
    (arrive me src cls p L).int.scrubWord = L.int.scrubWord := (arrive_only me src cls p L).int_scrubWord
@[simp] theorem arrive_int_scrubSlots (me : LaneId) (src : Byte) (cls : BitVec 3) (p : BitVec 64) (L : LaneSt) :
    (arrive me src cls p L).int.scrubSlots = L.int.scrubSlots := (arrive_only me src cls p L).int_scrubSlots
@[simp] theorem arrive_int_aonWord (me : LaneId) (src : Byte) (cls : BitVec 3) (p : BitVec 64) (L : LaneSt) :
    (arrive me src cls p L).int.aonWord = L.int.aonWord := (arrive_only me src cls p L).int_aonWord
@[simp] theorem arrive_int_sbeTimes (me : LaneId) (src : Byte) (cls : BitVec 3) (p : BitVec 64) (L : LaneSt) :
    (arrive me src cls p L).int.sbeTimes = L.int.sbeTimes := (arrive_only me src cls p L).int_sbeTimes
@[simp] theorem arrive_int_merge (me : LaneId) (src : Byte) (cls : BitVec 3) (p : BitVec 64) (L : LaneSt) :
    (arrive me src cls p L).int.merge = L.int.merge := (arrive_only me src cls p L).int_merge
@[simp] theorem arrive_int_repairQ (me : LaneId) (src : Byte) (cls : BitVec 3) (p : BitVec 64) (L : LaneSt) :
    (arrive me src cls p L).int.repairQ = L.int.repairQ := (arrive_only me src cls p L).int_repairQ
@[simp] theorem arrive_pow (me : LaneId) (src : Byte) (cls : BitVec 3) (p : BitVec 64) (L : LaneSt) :
    (arrive me src cls p L).pow = L.pow := (arrive_only me src cls p L).pow_eq
@[simp] theorem arrive_start (me : LaneId) (src : Byte) (cls : BitVec 3) (p : BitVec 64) (L : LaneSt) :
    (arrive me src cls p L).start = L.start := (arrive_only me src cls p L).start_eq
@[simp] theorem arrive_herdTx (me : LaneId) (src : Byte) (cls : BitVec 3) (p : BitVec 64) (L : LaneSt) :
    (arrive me src cls p L).herdTx = L.herdTx := (arrive_only me src cls p L).herdTx_eq
@[simp] theorem arrive_flockTx (me : LaneId) (src : Byte) (cls : BitVec 3) (p : BitVec 64) (L : LaneSt) :
    (arrive me src cls p L).flockTx = L.flockTx := (arrive_only me src cls p L).flockTx_eq
@[simp] theorem arrive_host_run (me : LaneId) (src : Byte) (cls : BitVec 3) (p : BitVec 64) (L : LaneSt) :
    (arrive me src cls p L).host.run = L.host.run := (arrive_only me src cls p L).host_run
@[simp] theorem arrive_host_committed (me : LaneId) (src : Byte) (cls : BitVec 3) (p : BitVec 64) (L : LaneSt) :
    (arrive me src cls p L).host.committed = L.host.committed := (arrive_only me src cls p L).host_committed
@[simp] theorem arrive_host_tasks (me : LaneId) (src : Byte) (cls : BitVec 3) (p : BitVec 64) (L : LaneSt) :
    (arrive me src cls p L).host.tasks = L.host.tasks := (arrive_only me src cls p L).host_tasks
@[simp] theorem arrive_host_nextTid (me : LaneId) (src : Byte) (cls : BitVec 3) (p : BitVec 64) (L : LaneSt) :
    (arrive me src cls p L).host.nextTid = L.host.nextTid := (arrive_only me src cls p L).host_nextTid
@[simp] theorem arrive_host_trans (me : LaneId) (src : Byte) (cls : BitVec 3) (p : BitVec 64) (L : LaneSt) :
    (arrive me src cls p L).host.trans = L.host.trans := (arrive_only me src cls p L).host_trans
@[simp] theorem arrive_host_prepOpen (me : LaneId) (src : Byte) (cls : BitVec 3) (p : BitVec 64) (L : LaneSt) :
    (arrive me src cls p L).host.prepOpen = L.host.prepOpen := (arrive_only me src cls p L).host_prepOpen
@[simp] theorem arrive_host_prepAns (me : LaneId) (src : Byte) (cls : BitVec 3) (p : BitVec 64) (L : LaneSt) :
    (arrive me src cls p L).host.prepAns = L.host.prepAns := (arrive_only me src cls p L).host_prepAns
@[simp] theorem arrive_host_commitTid (me : LaneId) (src : Byte) (cls : BitVec 3) (p : BitVec 64) (L : LaneSt) :
    (arrive me src cls p L).host.commitTid = L.host.commitTid := (arrive_only me src cls p L).host_commitTid
@[simp] theorem arrive_host_applyGen (me : LaneId) (src : Byte) (cls : BitVec 3) (p : BitVec 64) (L : LaneSt) :
    (arrive me src cls p L).host.applyGen = L.host.applyGen := (arrive_only me src cls p L).host_applyGen
@[simp] theorem arrive_host_applyWant (me : LaneId) (src : Byte) (cls : BitVec 3) (p : BitVec 64) (L : LaneSt) :
    (arrive me src cls p L).host.applyWant = L.host.applyWant := (arrive_only me src cls p L).host_applyWant
@[simp] theorem arrive_host_storing (me : LaneId) (src : Byte) (cls : BitVec 3) (p : BitVec 64) (L : LaneSt) :
    (arrive me src cls p L).host.storing = L.host.storing := (arrive_only me src cls p L).host_storing
@[simp] theorem arrive_host_storeTid (me : LaneId) (src : Byte) (cls : BitVec 3) (p : BitVec 64) (L : LaneSt) :
    (arrive me src cls p L).host.storeTid = L.host.storeTid := (arrive_only me src cls p L).host_storeTid
@[simp] theorem arrive_host_lastRes (me : LaneId) (src : Byte) (cls : BitVec 3) (p : BitVec 64) (L : LaneSt) :
    (arrive me src cls p L).host.lastRes = L.host.lastRes := (arrive_only me src cls p L).host_lastRes
@[simp] theorem arrive_host_cqHead (me : LaneId) (src : Byte) (cls : BitVec 3) (p : BitVec 64) (L : LaneSt) :
    (arrive me src cls p L).host.cqHead = L.host.cqHead := (arrive_only me src cls p L).host_cqHead
@[simp] theorem arrive_host_cqTail (me : LaneId) (src : Byte) (cls : BitVec 3) (p : BitVec 64) (L : LaneSt) :
    (arrive me src cls p L).host.cqTail = L.host.cqTail := (arrive_only me src cls p L).host_cqTail
@[simp] theorem arrive_host_eqHead (me : LaneId) (src : Byte) (cls : BitVec 3) (p : BitVec 64) (L : LaneSt) :
    (arrive me src cls p L).host.eqHead = L.host.eqHead := (arrive_only me src cls p L).host_eqHead
@[simp] theorem arrive_host_slotsUsed (me : LaneId) (src : Byte) (cls : BitVec 3) (p : BitVec 64) (L : LaneSt) :
    (arrive me src cls p L).host.slotsUsed = L.host.slotsUsed := (arrive_only me src cls p L).host_slotsUsed
@[simp] theorem arrive_host_resv (me : LaneId) (src : Byte) (cls : BitVec 3) (p : BitVec 64) (L : LaneSt) :
    (arrive me src cls p L).host.resv = L.host.resv := (arrive_only me src cls p L).host_resv
@[simp] theorem arrive_host_lastSeq (me : LaneId) (src : Byte) (cls : BitVec 3) (p : BitVec 64) (L : LaneSt) :
    (arrive me src cls p L).host.lastSeq = L.host.lastSeq := (arrive_only me src cls p L).host_lastSeq
@[simp] theorem arrive_host_asleep (me : LaneId) (src : Byte) (cls : BitVec 3) (p : BitVec 64) (L : LaneSt) :
    (arrive me src cls p L).host.asleep = L.host.asleep := (arrive_only me src cls p L).host_asleep
@[simp] theorem arrive_host_remoteOut (me : LaneId) (src : Byte) (cls : BitVec 3) (p : BitVec 64) (L : LaneSt) :
    (arrive me src cls p L).host.remoteOut = L.host.remoteOut := (arrive_only me src cls p L).host_remoteOut
@[simp] theorem arrive_host_learnCommit (me : LaneId) (src : Byte) (cls : BitVec 3) (p : BitVec 64) (L : LaneSt) :
    (arrive me src cls p L).host.learnCommit = L.host.learnCommit := (arrive_only me src cls p L).host_learnCommit
@[simp] theorem arrive_host_admitted (me : LaneId) (src : Byte) (cls : BitVec 3) (p : BitVec 64) (L : LaneSt) :
    (arrive me src cls p L).host.admitted = L.host.admitted := (arrive_only me src cls p L).host_admitted
@[simp] theorem arrive_host_refused (me : LaneId) (src : Byte) (cls : BitVec 3) (p : BitVec 64) (L : LaneSt) :
    (arrive me src cls p L).host.refused = L.host.refused := (arrive_only me src cls p L).host_refused
@[simp] theorem arrive_host_wait (me : LaneId) (src : Byte) (cls : BitVec 3) (p : BitVec 64) (L : LaneSt) :
    (arrive me src cls p L).host.wait = L.host.wait := (arrive_only me src cls p L).host_wait
@[simp] theorem arrive_host_dbHeld (me : LaneId) (src : Byte) (cls : BitVec 3) (p : BitVec 64) (L : LaneSt) :
    (arrive me src cls p L).host.dbHeld = L.host.dbHeld := (arrive_only me src cls p L).host_dbHeld

/-! ## Reports (12 R384–R387): beside events, only the collector, the trace and the herdline change -/

theorem ReportOnly.trans {L M N : LaneSt} (h : ReportOnly L M) (k : ReportOnly M N) : ReportOnly L N := by
  unfold ReportOnly at *; rw [k, h]

theorem EventOnly.report {L M : LaneSt} (h : EventOnly L M) : ReportOnly L M := by
  unfold EventOnly at h; unfold ReportOnly; rw [h]

theorem postProbes_only (me : LaneId) (o n : List Probe) (L : LaneSt) : EventOnly L (postProbes me o n L) := by
  unfold postProbes
  generalize List.range n.length = l
  induction l generalizing L with
  | nil => rfl
  | cons i l ih =>
    rw [List.foldl_cons]
    refine EventOnly.trans ?_ (ih _)
    dsimp only
    split <;> split <;>
      first
        | rfl
        | exact arrive_only _ _ _ _ _
        | exact EventOnly.trans (arrive_only _ _ _ _ _) (arrive_only _ _ _ _ _)

theorem traceTrigger_only (me : LaneId) (src : BitVec 3) (lane : LaneId) (inst : Nat) (L : LaneSt) :
    ReportOnly L (traceTrigger me src lane inst L) := by
  unfold traceTrigger
  split
  · rfl
  · dsimp only
    have h : ∀ (t : TraceEng) (o n : List Probe), ReportOnly L (postProbes me o n { L with trace := t }) := fun t o n =>
      ReportOnly.trans (M := { L with trace := t }) rfl (postProbes_only me o n _).report
    have k : ∀ (b : Bool) (M : LaneSt), ReportOnly L M → ReportOnly L (if b = true then send (.traceTrigger inst) M else M) := by
      intro b M hM
      cases b
      · exact hM
      · exact ReportOnly.trans hM rfl
    exact k _ _ (h _ _ _)

theorem faultTrigger_only (me : LaneId) (cls : BitVec 3) (L : LaneSt) : ReportOnly L (faultTrigger me cls L) := by
  unfold faultTrigger
  split
  · split
    · exact traceTrigger_only _ _ _ _ _
    · rfl
  · rfl

theorem postFault_only (me : LaneId) (r : FaultRec) (L : LaneSt) : ReportOnly L (postFault me r L) :=
  ReportOnly.trans (arrive_only _ _ _ _ _).report (faultTrigger_only _ _ _)

theorem latchOwn_only (me : LaneId) (src : Byte) (loc a b : Word) (L : LaneSt) : ReportOnly L (latchOwn me src loc a b L) := by
  have h : ∀ i r, ReportOnly L (postFault me r { L with int := i }) := fun i r =>
    ReportOnly.trans (M := { L with int := i }) rfl (postFault_only me r _)
  unfold latchOwn
  dsimp only
  split
  · exact h _ _
  · split
    · rfl
    · exact h _ _

theorem reportAt_only (me : LaneId) (src : Byte) (loc a b : Word) (L : LaneSt) : ReportOnly L (reportAt me src loc a b L) := by
  have h : ∀ i r, ReportOnly L (postFault me r { L with int := i }) := fun i r =>
    ReportOnly.trans (M := { L with int := i }) rfl (postFault_only me r _)
  have k : ∀ i, ReportOnly L (latchOwn me src loc a b { L with int := i }) := fun i =>
    ReportOnly.trans (M := { L with int := i }) rfl (latchOwn_only me src loc a b _)
  unfold reportAt
  dsimp only
  split
  · split
    · exact h _ _
    · exact k _
  · exact k _

theorem report_only (me : LaneId) (src : Byte) (unit cell : Nat) (L : LaneSt) : ReportOnly L (report me src unit cell L) :=
  reportAt_only _ _ _ _ _ _

theorem ReportOnly.time_eq {L M : LaneSt} (h : ReportOnly L M) : M.time = L.time := by rw [h]
theorem ReportOnly.eng_eq {L M : LaneSt} (h : ReportOnly L M) : M.eng = L.eng := by rw [h]
theorem ReportOnly.safe_eq {L M : LaneSt} (h : ReportOnly L M) : M.safe = L.safe := by rw [h]
theorem ReportOnly.ox_eq {L M : LaneSt} (h : ReportOnly L M) : M.ox = L.ox := by rw [h]
theorem ReportOnly.learn_eq {L M : LaneSt} (h : ReportOnly L M) : M.learn = L.learn := by rw [h]
theorem ReportOnly.mot_eq {L M : LaneSt} (h : ReportOnly L M) : M.mot = L.mot := by rw [h]
theorem ReportOnly.sen_eq {L M : LaneSt} (h : ReportOnly L M) : M.sen = L.sen := by rw [h]
theorem ReportOnly.gate_eq {L M : LaneSt} (h : ReportOnly L M) : M.gate = L.gate := by rw [h]
theorem ReportOnly.flock_eq {L M : LaneSt} (h : ReportOnly L M) : M.flock = L.flock := by rw [h]
theorem ReportOnly.pow_eq {L M : LaneSt} (h : ReportOnly L M) : M.pow = L.pow := by rw [h]
theorem ReportOnly.start_eq {L M : LaneSt} (h : ReportOnly L M) : M.start = L.start := by rw [h]
theorem ReportOnly.flockTx_eq {L M : LaneSt} (h : ReportOnly L M) : M.flockTx = L.flockTx := by rw [h]
theorem ReportOnly.host_run {L M : LaneSt} (h : ReportOnly L M) : M.host.run = L.host.run := by rw [h]
theorem ReportOnly.host_committed {L M : LaneSt} (h : ReportOnly L M) : M.host.committed = L.host.committed := by rw [h]
theorem ReportOnly.host_tasks {L M : LaneSt} (h : ReportOnly L M) : M.host.tasks = L.host.tasks := by rw [h]
theorem ReportOnly.host_nextTid {L M : LaneSt} (h : ReportOnly L M) : M.host.nextTid = L.host.nextTid := by rw [h]
theorem ReportOnly.host_trans {L M : LaneSt} (h : ReportOnly L M) : M.host.trans = L.host.trans := by rw [h]
theorem ReportOnly.host_prepOpen {L M : LaneSt} (h : ReportOnly L M) : M.host.prepOpen = L.host.prepOpen := by rw [h]
theorem ReportOnly.host_prepAns {L M : LaneSt} (h : ReportOnly L M) : M.host.prepAns = L.host.prepAns := by rw [h]
theorem ReportOnly.host_commitTid {L M : LaneSt} (h : ReportOnly L M) : M.host.commitTid = L.host.commitTid := by rw [h]
theorem ReportOnly.host_applyGen {L M : LaneSt} (h : ReportOnly L M) : M.host.applyGen = L.host.applyGen := by rw [h]
theorem ReportOnly.host_applyWant {L M : LaneSt} (h : ReportOnly L M) : M.host.applyWant = L.host.applyWant := by rw [h]
theorem ReportOnly.host_storing {L M : LaneSt} (h : ReportOnly L M) : M.host.storing = L.host.storing := by rw [h]
theorem ReportOnly.host_storeTid {L M : LaneSt} (h : ReportOnly L M) : M.host.storeTid = L.host.storeTid := by rw [h]
theorem ReportOnly.host_lastRes {L M : LaneSt} (h : ReportOnly L M) : M.host.lastRes = L.host.lastRes := by rw [h]
theorem ReportOnly.host_cqHead {L M : LaneSt} (h : ReportOnly L M) : M.host.cqHead = L.host.cqHead := by rw [h]
theorem ReportOnly.host_cqTail {L M : LaneSt} (h : ReportOnly L M) : M.host.cqTail = L.host.cqTail := by rw [h]
theorem ReportOnly.host_eqHead {L M : LaneSt} (h : ReportOnly L M) : M.host.eqHead = L.host.eqHead := by rw [h]
theorem ReportOnly.host_slotsUsed {L M : LaneSt} (h : ReportOnly L M) : M.host.slotsUsed = L.host.slotsUsed := by rw [h]
theorem ReportOnly.host_resv {L M : LaneSt} (h : ReportOnly L M) : M.host.resv = L.host.resv := by rw [h]
theorem ReportOnly.host_lastSeq {L M : LaneSt} (h : ReportOnly L M) : M.host.lastSeq = L.host.lastSeq := by rw [h]
theorem ReportOnly.host_asleep {L M : LaneSt} (h : ReportOnly L M) : M.host.asleep = L.host.asleep := by rw [h]
theorem ReportOnly.host_remoteOut {L M : LaneSt} (h : ReportOnly L M) : M.host.remoteOut = L.host.remoteOut := by rw [h]
theorem ReportOnly.host_learnCommit {L M : LaneSt} (h : ReportOnly L M) : M.host.learnCommit = L.host.learnCommit := by rw [h]
theorem ReportOnly.host_admitted {L M : LaneSt} (h : ReportOnly L M) : M.host.admitted = L.host.admitted := by rw [h]
theorem ReportOnly.host_refused {L M : LaneSt} (h : ReportOnly L M) : M.host.refused = L.host.refused := by rw [h]
theorem ReportOnly.host_wait {L M : LaneSt} (h : ReportOnly L M) : M.host.wait = L.host.wait := by rw [h]
theorem ReportOnly.host_dbHeld {L M : LaneSt} (h : ReportOnly L M) : M.host.dbHeld = L.host.dbHeld := by rw [h]

@[simp] theorem report_time (me : LaneId) (src : Byte) (u c : Nat) (L : LaneSt) :
    (report me src u c L).time = L.time := (report_only me src u c L).time_eq
@[simp] theorem report_eng (me : LaneId) (src : Byte) (u c : Nat) (L : LaneSt) :
    (report me src u c L).eng = L.eng := (report_only me src u c L).eng_eq
@[simp] theorem report_safe (me : LaneId) (src : Byte) (u c : Nat) (L : LaneSt) :
    (report me src u c L).safe = L.safe := (report_only me src u c L).safe_eq
@[simp] theorem report_ox (me : LaneId) (src : Byte) (u c : Nat) (L : LaneSt) :
    (report me src u c L).ox = L.ox := (report_only me src u c L).ox_eq
@[simp] theorem report_learn (me : LaneId) (src : Byte) (u c : Nat) (L : LaneSt) :
    (report me src u c L).learn = L.learn := (report_only me src u c L).learn_eq
@[simp] theorem report_mot (me : LaneId) (src : Byte) (u c : Nat) (L : LaneSt) :
    (report me src u c L).mot = L.mot := (report_only me src u c L).mot_eq
@[simp] theorem report_sen (me : LaneId) (src : Byte) (u c : Nat) (L : LaneSt) :
    (report me src u c L).sen = L.sen := (report_only me src u c L).sen_eq
@[simp] theorem report_gate (me : LaneId) (src : Byte) (u c : Nat) (L : LaneSt) :
    (report me src u c L).gate = L.gate := (report_only me src u c L).gate_eq
@[simp] theorem report_flock (me : LaneId) (src : Byte) (u c : Nat) (L : LaneSt) :
    (report me src u c L).flock = L.flock := (report_only me src u c L).flock_eq
@[simp] theorem report_pow (me : LaneId) (src : Byte) (u c : Nat) (L : LaneSt) :
    (report me src u c L).pow = L.pow := (report_only me src u c L).pow_eq
@[simp] theorem report_start (me : LaneId) (src : Byte) (u c : Nat) (L : LaneSt) :
    (report me src u c L).start = L.start := (report_only me src u c L).start_eq
@[simp] theorem report_flockTx (me : LaneId) (src : Byte) (u c : Nat) (L : LaneSt) :
    (report me src u c L).flockTx = L.flockTx := (report_only me src u c L).flockTx_eq
@[simp] theorem report_host_run (me : LaneId) (src : Byte) (u c : Nat) (L : LaneSt) :
    (report me src u c L).host.run = L.host.run := (report_only me src u c L).host_run
@[simp] theorem report_host_committed (me : LaneId) (src : Byte) (u c : Nat) (L : LaneSt) :
    (report me src u c L).host.committed = L.host.committed := (report_only me src u c L).host_committed
@[simp] theorem report_host_tasks (me : LaneId) (src : Byte) (u c : Nat) (L : LaneSt) :
    (report me src u c L).host.tasks = L.host.tasks := (report_only me src u c L).host_tasks
@[simp] theorem report_host_nextTid (me : LaneId) (src : Byte) (u c : Nat) (L : LaneSt) :
    (report me src u c L).host.nextTid = L.host.nextTid := (report_only me src u c L).host_nextTid
@[simp] theorem report_host_trans (me : LaneId) (src : Byte) (u c : Nat) (L : LaneSt) :
    (report me src u c L).host.trans = L.host.trans := (report_only me src u c L).host_trans
@[simp] theorem report_host_prepOpen (me : LaneId) (src : Byte) (u c : Nat) (L : LaneSt) :
    (report me src u c L).host.prepOpen = L.host.prepOpen := (report_only me src u c L).host_prepOpen
@[simp] theorem report_host_prepAns (me : LaneId) (src : Byte) (u c : Nat) (L : LaneSt) :
    (report me src u c L).host.prepAns = L.host.prepAns := (report_only me src u c L).host_prepAns
@[simp] theorem report_host_commitTid (me : LaneId) (src : Byte) (u c : Nat) (L : LaneSt) :
    (report me src u c L).host.commitTid = L.host.commitTid := (report_only me src u c L).host_commitTid
@[simp] theorem report_host_applyGen (me : LaneId) (src : Byte) (u c : Nat) (L : LaneSt) :
    (report me src u c L).host.applyGen = L.host.applyGen := (report_only me src u c L).host_applyGen
@[simp] theorem report_host_applyWant (me : LaneId) (src : Byte) (u c : Nat) (L : LaneSt) :
    (report me src u c L).host.applyWant = L.host.applyWant := (report_only me src u c L).host_applyWant
@[simp] theorem report_host_storing (me : LaneId) (src : Byte) (u c : Nat) (L : LaneSt) :
    (report me src u c L).host.storing = L.host.storing := (report_only me src u c L).host_storing
@[simp] theorem report_host_storeTid (me : LaneId) (src : Byte) (u c : Nat) (L : LaneSt) :
    (report me src u c L).host.storeTid = L.host.storeTid := (report_only me src u c L).host_storeTid
@[simp] theorem report_host_lastRes (me : LaneId) (src : Byte) (u c : Nat) (L : LaneSt) :
    (report me src u c L).host.lastRes = L.host.lastRes := (report_only me src u c L).host_lastRes
@[simp] theorem report_host_cqHead (me : LaneId) (src : Byte) (u c : Nat) (L : LaneSt) :
    (report me src u c L).host.cqHead = L.host.cqHead := (report_only me src u c L).host_cqHead
@[simp] theorem report_host_cqTail (me : LaneId) (src : Byte) (u c : Nat) (L : LaneSt) :
    (report me src u c L).host.cqTail = L.host.cqTail := (report_only me src u c L).host_cqTail
@[simp] theorem report_host_eqHead (me : LaneId) (src : Byte) (u c : Nat) (L : LaneSt) :
    (report me src u c L).host.eqHead = L.host.eqHead := (report_only me src u c L).host_eqHead
@[simp] theorem report_host_slotsUsed (me : LaneId) (src : Byte) (u c : Nat) (L : LaneSt) :
    (report me src u c L).host.slotsUsed = L.host.slotsUsed := (report_only me src u c L).host_slotsUsed
@[simp] theorem report_host_resv (me : LaneId) (src : Byte) (u c : Nat) (L : LaneSt) :
    (report me src u c L).host.resv = L.host.resv := (report_only me src u c L).host_resv
@[simp] theorem report_host_lastSeq (me : LaneId) (src : Byte) (u c : Nat) (L : LaneSt) :
    (report me src u c L).host.lastSeq = L.host.lastSeq := (report_only me src u c L).host_lastSeq
@[simp] theorem report_host_asleep (me : LaneId) (src : Byte) (u c : Nat) (L : LaneSt) :
    (report me src u c L).host.asleep = L.host.asleep := (report_only me src u c L).host_asleep
@[simp] theorem report_host_remoteOut (me : LaneId) (src : Byte) (u c : Nat) (L : LaneSt) :
    (report me src u c L).host.remoteOut = L.host.remoteOut := (report_only me src u c L).host_remoteOut
@[simp] theorem report_host_learnCommit (me : LaneId) (src : Byte) (u c : Nat) (L : LaneSt) :
    (report me src u c L).host.learnCommit = L.host.learnCommit := (report_only me src u c L).host_learnCommit
@[simp] theorem report_host_admitted (me : LaneId) (src : Byte) (u c : Nat) (L : LaneSt) :
    (report me src u c L).host.admitted = L.host.admitted := (report_only me src u c L).host_admitted
@[simp] theorem report_host_refused (me : LaneId) (src : Byte) (u c : Nat) (L : LaneSt) :
    (report me src u c L).host.refused = L.host.refused := (report_only me src u c L).host_refused
@[simp] theorem report_host_wait (me : LaneId) (src : Byte) (u c : Nat) (L : LaneSt) :
    (report me src u c L).host.wait = L.host.wait := (report_only me src u c L).host_wait
@[simp] theorem report_host_dbHeld (me : LaneId) (src : Byte) (u c : Nat) (L : LaneSt) :
    (report me src u c L).host.dbHeld = L.host.dbHeld := (report_only me src u c L).host_dbHeld

/-! ## SAFE_STATE -/

theorem setSafe_state (me : LaneId) (n : Safe) (L : LaneSt) : (setSafe me n L).safe.state = n := by
  unfold setSafe; split
  · assumption
  · dsimp only; rw [arrive_safe]

theorem setSafe_only (me : LaneId) (n : Safe) (L : LaneSt) :
    EventOnly { L with safe := (setSafe me n L).safe } (setSafe me n L) := by
  unfold setSafe; split
  · rfl
  · dsimp only; rw [arrive_safe]; exact arrive_only _ _ _ _ _


/-! ## Tasks -/

/-- The frame of an opcode: when the lane can execute it, its meaning runs, and its result is taken up. -/
theorem runOp_eq (code : Half) (c : Ctx) (blk : List Byte) (op : LaneSt → LaneSt × Option LaneRes) (s : State)
    (h : canRun code c blk (s.lane c.lane) = true) :
    runOp code c blk op s = .next (s.setLane c.lane (settle c.lane c.tid (op (s.lane c.lane)))) :=
  onLaneIf_pos _ _ _ _ h

/-- A command that its lane cannot execute changes nothing. -/
theorem runOp_not (code : Half) (c : Ctx) (blk : List Byte) (op : LaneSt → LaneSt × Option LaneRes) (s : State)
    (h : canRun code c blk (s.lane c.lane) = false) : runOp code c blk op s = .next s :=
  onLaneIf_neg _ _ _ _ h

/-- A meaning whose checks all pass has its effect. -/
theorem checked_pass (cs : List (Bool × Byte)) (L : LaneSt) (e : LaneSt × Option LaneRes) (h : ∀ c ∈ cs, c.1 = true) :
    checked cs L e = e := by
  have : firstFail cs = none := by
    induction cs with
    | nil => rfl
    | cons a r ih =>
      have ha : a.1 = true := h a (by simp)
      unfold firstFail
      simp only [ha, if_true]
      exact ih fun c hc => h c (by simp [hc])
  simp [checked, this]

@[simp] theorem updTask_task_map (tid : Nat) (f : Task → Task) (L : LaneSt) :
    (updTask tid f L).host.tasks = L.host.tasks.map fun t => if t.tid = tid then f t else t := rfl

/-- Outside any task a result is only noted. -/
theorem finishTask_none (me : LaneId) (tid : Nat) (r : LaneRes) (L : LaneSt) (h : L.task tid = none) :
    finishTask me tid r L = { L with host := { L.host with lastRes := some r } } := by
  have h' : LaneSt.task { L with host := { L.host with lastRes := some r } } tid = none := h
  simp [finishTask, h']

end Sys2Proof.Machine
end

