-- ==== Sys2Proof/Laws/Port.lean ====
section
/-! SUPPORT. A transaction of the host port in its three parts: the falling edge of HCS_N, the checks, and the rising edge. -/

namespace Sys2Proof.Machine

/-! ## The CRC word (09 R299) -/

theorem crcWord_crc (cmd : Word) (data : List Word) (seq : Byte) :
    (crcWord cmd data seq).setWidth 8 = crc8 (((cmd :: data).map be32).flatten ++ [seq]) := by
  unfold crcWord; ext i hi; simp

theorem crcWord_seq (cmd : Word) (data : List Word) (seq : Byte) : ((crcWord cmd data seq) >>> 8).setWidth 8 = seq := by
  unfold crcWord; ext i hi
  have : 8 + i < 32 := by omega
  simp [hi, BitVec.getLsbD_eq_getElem, this]

/-! ## The falling edge -/

/-- The lane `L` with another EVENT engine, event queue, count of transactions, and H_SILENT with its standing fault. -/
def OpenOnly (L M : LaneSt) : Prop :=
  M = { L with ev := M.ev, safe := M.safe, int := L.int.wrote M.int,
               host := { L.host with win := M.host.win, eqTail := M.host.eqTail, lossOwed := M.host.lossOwed, eqOvf := M.host.eqOvf,
                                     transactions := satInc L.host.transactions, hSilent := false } }

theorem openTx_only (me : LaneId) (L : LaneSt) : OpenOnly L (openTx me L) := by
  have h := arrive_only me 0x94 clsInfo (pay2 L.now 0) L
  unfold openTx OpenOnly
  generalize arrive me 0x94 clsInfo (pay2 L.now 0) L = M at h ⊢
  unfold EventOnly at h
  dsimp only
  split
  · rw [h]; rfl
  · rename_i e
    have : M.host.hSilent = false := by simpa using e
    have k : L.host.hSilent = false := by rw [h] at this; exact this
    rw [h]; simp [k, IntEng.wrote]

@[simp] theorem openTx_time (me : LaneId) (L : LaneSt) : (openTx me L).time = L.time := by rw [openTx_only me L]
@[simp] theorem openTx_eng (me : LaneId) (L : LaneSt) : (openTx me L).eng = L.eng := by rw [openTx_only me L]
@[simp] theorem openTx_ox (me : LaneId) (L : LaneSt) : (openTx me L).ox = L.ox := by rw [openTx_only me L]
@[simp] theorem openTx_trace (me : LaneId) (L : LaneSt) : (openTx me L).trace = L.trace := by rw [openTx_only me L]
@[simp] theorem openTx_learn (me : LaneId) (L : LaneSt) : (openTx me L).learn = L.learn := by rw [openTx_only me L]
@[simp] theorem openTx_mot (me : LaneId) (L : LaneSt) : (openTx me L).mot = L.mot := by rw [openTx_only me L]
@[simp] theorem openTx_sen (me : LaneId) (L : LaneSt) : (openTx me L).sen = L.sen := by rw [openTx_only me L]
@[simp] theorem openTx_gate (me : LaneId) (L : LaneSt) : (openTx me L).gate = L.gate := by rw [openTx_only me L]
@[simp] theorem openTx_flock (me : LaneId) (L : LaneSt) : (openTx me L).flock = L.flock := by rw [openTx_only me L]
@[simp] theorem openTx_int_sbe (me : LaneId) (L : LaneSt) : (openTx me L).int.sbe = L.int.sbe := by rw [openTx_only me L]; rfl
@[simp] theorem openTx_int_ded (me : LaneId) (L : LaneSt) : (openTx me L).int.ded = L.int.ded := by rw [openTx_only me L]; rfl
@[simp] theorem openTx_int_lastDed (me : LaneId) (L : LaneSt) : (openTx me L).int.lastDed = L.int.lastDed := by rw [openTx_only me L]; rfl
@[simp] theorem openTx_int_lastSbe (me : LaneId) (L : LaneSt) : (openTx me L).int.lastSbe = L.int.lastSbe := by rw [openTx_only me L]; rfl
@[simp] theorem openTx_int_mergeRmw (me : LaneId) (L : LaneSt) : (openTx me L).int.mergeRmw = L.int.mergeRmw := by rw [openTx_only me L]; rfl
@[simp] theorem openTx_int_mergePoison (me : LaneId) (L : LaneSt) : (openTx me L).int.mergePoison = L.int.mergePoison := by rw [openTx_only me L]; rfl
@[simp] theorem openTx_int_scrubPasses (me : LaneId) (L : LaneSt) : (openTx me L).int.scrubPasses = L.int.scrubPasses := by rw [openTx_only me L]; rfl
@[simp] theorem openTx_int_scrubLast (me : LaneId) (L : LaneSt) : (openTx me L).int.scrubLast = L.int.scrubLast := by rw [openTx_only me L]; rfl
@[simp] theorem openTx_int_scrubMax (me : LaneId) (L : LaneSt) : (openTx me L).int.scrubMax = L.int.scrubMax := by rw [openTx_only me L]; rfl
@[simp] theorem openTx_int_repairs (me : LaneId) (L : LaneSt) : (openTx me L).int.repairs = L.int.repairs := by rw [openTx_only me L]; rfl
@[simp] theorem openTx_int_poisonUsed (me : LaneId) (L : LaneSt) : (openTx me L).int.poisonUsed = L.int.poisonUsed := by rw [openTx_only me L]; rfl
@[simp] theorem openTx_int_ceCount (me : LaneId) (L : LaneSt) : (openTx me L).int.ceCount = L.int.ceCount := by rw [openTx_only me L]; rfl
@[simp] theorem openTx_int_ucCount (me : LaneId) (L : LaneSt) : (openTx me L).int.ucCount = L.int.ucCount := by rw [openTx_only me L]; rfl
@[simp] theorem openTx_int_faCount (me : LaneId) (L : LaneSt) : (openTx me L).int.faCount = L.int.faCount := by rw [openTx_only me L]; rfl
@[simp] theorem openTx_int_checkerOk (me : LaneId) (L : LaneSt) : (openTx me L).int.checkerOk = L.int.checkerOk := by rw [openTx_only me L]; rfl
@[simp] theorem openTx_int_ce (me : LaneId) (L : LaneSt) : (openTx me L).int.ce = L.int.ce := by rw [openTx_only me L]; rfl
@[simp] theorem openTx_int_uc (me : LaneId) (L : LaneSt) : (openTx me L).int.uc = L.int.uc := by rw [openTx_only me L]; rfl
@[simp] theorem openTx_int_fa (me : LaneId) (L : LaneSt) : (openTx me L).int.fa = L.int.fa := by rw [openTx_only me L]; rfl
@[simp] theorem openTx_int_ovf (me : LaneId) (L : LaneSt) : (openTx me L).int.ovf = L.int.ovf := by rw [openTx_only me L]; rfl
@[simp] theorem openTx_int_faSaved (me : LaneId) (L : LaneSt) : (openTx me L).int.faSaved = L.int.faSaved := by rw [openTx_only me L]; rfl
@[simp] theorem openTx_int_stamps (me : LaneId) (L : LaneSt) : (openTx me L).int.stamps = L.int.stamps := by rw [openTx_only me L]; rfl
@[simp] theorem openTx_int_scrubMem (me : LaneId) (L : LaneSt) : (openTx me L).int.scrubMem = L.int.scrubMem := by rw [openTx_only me L]; rfl
@[simp] theorem openTx_int_scrubWord (me : LaneId) (L : LaneSt) : (openTx me L).int.scrubWord = L.int.scrubWord := by rw [openTx_only me L]; rfl
@[simp] theorem openTx_int_scrubSlots (me : LaneId) (L : LaneSt) : (openTx me L).int.scrubSlots = L.int.scrubSlots := by rw [openTx_only me L]; rfl
@[simp] theorem openTx_int_aonWord (me : LaneId) (L : LaneSt) : (openTx me L).int.aonWord = L.int.aonWord := by rw [openTx_only me L]; rfl
@[simp] theorem openTx_int_sbeTimes (me : LaneId) (L : LaneSt) : (openTx me L).int.sbeTimes = L.int.sbeTimes := by rw [openTx_only me L]; rfl
@[simp] theorem openTx_int_merge (me : LaneId) (L : LaneSt) : (openTx me L).int.merge = L.int.merge := by rw [openTx_only me L]; rfl
@[simp] theorem openTx_int_repairQ (me : LaneId) (L : LaneSt) : (openTx me L).int.repairQ = L.int.repairQ := by rw [openTx_only me L]; rfl
@[simp] theorem openTx_pow (me : LaneId) (L : LaneSt) : (openTx me L).pow = L.pow := by rw [openTx_only me L]
@[simp] theorem openTx_start (me : LaneId) (L : LaneSt) : (openTx me L).start = L.start := by rw [openTx_only me L]
@[simp] theorem openTx_herdTx (me : LaneId) (L : LaneSt) : (openTx me L).herdTx = L.herdTx := by rw [openTx_only me L]
@[simp] theorem openTx_flockTx (me : LaneId) (L : LaneSt) : (openTx me L).flockTx = L.flockTx := by rw [openTx_only me L]
@[simp] theorem openTx_host_run (me : LaneId) (L : LaneSt) : (openTx me L).host.run = L.host.run := by rw [openTx_only me L]
@[simp] theorem openTx_host_committed (me : LaneId) (L : LaneSt) : (openTx me L).host.committed = L.host.committed := by rw [openTx_only me L]
@[simp] theorem openTx_host_tasks (me : LaneId) (L : LaneSt) : (openTx me L).host.tasks = L.host.tasks := by rw [openTx_only me L]
@[simp] theorem openTx_host_trans (me : LaneId) (L : LaneSt) : (openTx me L).host.trans = L.host.trans := by rw [openTx_only me L]
@[simp] theorem openTx_host_cqHead (me : LaneId) (L : LaneSt) : (openTx me L).host.cqHead = L.host.cqHead := by rw [openTx_only me L]
@[simp] theorem openTx_host_cqTail (me : LaneId) (L : LaneSt) : (openTx me L).host.cqTail = L.host.cqTail := by rw [openTx_only me L]
@[simp] theorem openTx_host_eqHead (me : LaneId) (L : LaneSt) : (openTx me L).host.eqHead = L.host.eqHead := by rw [openTx_only me L]
@[simp] theorem openTx_host_slotsUsed (me : LaneId) (L : LaneSt) : (openTx me L).host.slotsUsed = L.host.slotsUsed := by rw [openTx_only me L]
@[simp] theorem openTx_host_resv (me : LaneId) (L : LaneSt) : (openTx me L).host.resv = L.host.resv := by rw [openTx_only me L]
@[simp] theorem openTx_host_lastSeq (me : LaneId) (L : LaneSt) : (openTx me L).host.lastSeq = L.host.lastSeq := by rw [openTx_only me L]
@[simp] theorem openTx_host_lastCmd (me : LaneId) (L : LaneSt) : (openTx me L).host.lastCmd = L.host.lastCmd := by rw [openTx_only me L]
@[simp] theorem openTx_host_seqSynced (me : LaneId) (L : LaneSt) : (openTx me L).host.seqSynced = L.host.seqSynced := by rw [openTx_only me L]
@[simp] theorem openTx_host_asleep (me : LaneId) (L : LaneSt) : (openTx me L).host.asleep = L.host.asleep := by rw [openTx_only me L]
@[simp] theorem openTx_host_dbHeld (me : LaneId) (L : LaneSt) : (openTx me L).host.dbHeld = L.host.dbHeld := by rw [openTx_only me L]
@[simp] theorem openTx_host_outcome (me : LaneId) (L : LaneSt) : (openTx me L).host.outcome = L.host.outcome := by rw [openTx_only me L]

/-! ## The checks (09 R298, R299) -/

/-- A NOP with a good CRC. -/
theorem checkTx_nop (me : LaneId) (ecc : List (Nat × EccOutcome)) (cmd : Word) (seq : Byte) (L : LaneSt) (hk : cmdKind cmd = 0)
    (ha : cmdAddr cmd % 4 = 0) :
    checkTx me ecc [cmd, crcWord cmd [] seq] L = runTx me ecc cmd ((crcWord cmd [] seq).setWidth 8) seq [] (endSleep L) := by
  have c := crcWord_crc cmd [] seq
  have d := crcWord_seq cmd [] seq
  simp only [checkTx, List.headD_cons, hk, wordCount, List.isEmpty_cons, List.length_cons, List.length_nil]
  simp [c, d, ha]

/-- A READ with a good CRC. -/
theorem checkTx_read (me : LaneId) (ecc : List (Nat × EccOutcome)) (cmd : Word) (seq : Byte) (pad : List Word) (L : LaneSt)
    (hk : cmdKind cmd = 1) (ha : cmdAddr cmd % 4 = 0) (hp : pad.length = cmdLen cmd + 2) :
    checkTx me ecc (cmd :: crcWord cmd [] seq :: pad) L
      = runTx me ecc cmd ((crcWord cmd [] seq).setWidth 8) seq [] (endSleep L) := by
  have c := crcWord_crc cmd [] seq
  have d := crcWord_seq cmd [] seq
  simp only [checkTx, List.headD_cons, hk, wordCount, List.isEmpty_cons, List.length_cons, hp]
  simp [c, d, ha]

/-- A WRITE with a good CRC. -/
theorem checkTx_write (me : LaneId) (ecc : List (Nat × EccOutcome)) (cmd : Word) (data : List Word) (seq : Byte) (L : LaneSt)
    (hk : cmdKind cmd = 2) (ha : cmdAddr cmd % 4 = 0) (hd : data.length = cmdLen cmd + 1) :
    checkTx me ecc (cmd :: data ++ [crcWord cmd data seq]) L
      = runTx me ecc cmd ((crcWord cmd data seq).setWidth 8) seq data (endSleep L) := by
  have c := crcWord_crc cmd data seq
  have d := crcWord_seq cmd data seq
  have e : (cmd :: data ++ [crcWord cmd data seq]).getLastD 0 = crcWord cmd data seq := by
    rw [List.getLastD_eq_getLast?, List.getLast?_concat]; rfl
  have f : ((cmd :: data ++ [crcWord cmd data seq]).drop 1).dropLast = data := by simp
  have h : (cmd :: data ++ [crcWord cmd data seq]).headD 0 = cmd := rfl
  simp only [checkTx, h, hk, wordCount, e, f]
  simp [c, d, ha, hd]

/-- A DOORBELL with a good CRC. -/
theorem checkTx_doorbell (me : LaneId) (ecc : List (Nat × EccOutcome)) (cmd t : Word) (seq : Byte) (L : LaneSt)
    (hk : cmdKind cmd = 3) (ha : cmdAddr cmd % 4 = 0) :
    checkTx me ecc [cmd, t, crcWord cmd [t] seq] L
      = if doorbellOk me (endSleep L) cmd t then runTx me ecc cmd ((crcWord cmd [t] seq).setWidth 8) seq [t] (endSleep L)
        else (endSleep L, { outcome := .notDone, fmt := true }) := by
  have c := crcWord_crc cmd [t] seq
  have d := crcWord_seq cmd [t] seq
  simp only [checkTx, List.headD_cons, hk, wordCount, List.isEmpty_cons, List.length_cons, List.length_nil]
  cases h : doorbellOk me (endSleep L) cmd t <;> simp [c, d, ha, h]

/-! ## The end of host sleep (10 R340) -/

@[simp] theorem endSleep_host_run (L : LaneSt) : (endSleep L).host.run = L.host.run := by unfold endSleep; split <;> rfl
@[simp] theorem endSleep_host_committed (L : LaneSt) : (endSleep L).host.committed = L.host.committed := by unfold endSleep; split <;> rfl
@[simp] theorem endSleep_host_tasks (L : LaneSt) : (endSleep L).host.tasks = L.host.tasks := by unfold endSleep; split <;> rfl
@[simp] theorem endSleep_host_trans (L : LaneSt) : (endSleep L).host.trans = L.host.trans := by unfold endSleep; split <;> rfl
@[simp] theorem endSleep_host_cqHead (L : LaneSt) : (endSleep L).host.cqHead = L.host.cqHead := by unfold endSleep; split <;> rfl
@[simp] theorem endSleep_host_cqTail (L : LaneSt) : (endSleep L).host.cqTail = L.host.cqTail := by unfold endSleep; split <;> rfl
@[simp] theorem endSleep_host_eqHead (L : LaneSt) : (endSleep L).host.eqHead = L.host.eqHead := by unfold endSleep; split <;> rfl
@[simp] theorem endSleep_host_eqTail (L : LaneSt) : (endSleep L).host.eqTail = L.host.eqTail := by unfold endSleep; split <;> rfl
@[simp] theorem endSleep_host_slotsUsed (L : LaneSt) : (endSleep L).host.slotsUsed = L.host.slotsUsed := by unfold endSleep; split <;> rfl
@[simp] theorem endSleep_host_resv (L : LaneSt) : (endSleep L).host.resv = L.host.resv := by unfold endSleep; split <;> rfl
@[simp] theorem endSleep_host_lastSeq (L : LaneSt) : (endSleep L).host.lastSeq = L.host.lastSeq := by unfold endSleep; split <;> rfl
@[simp] theorem endSleep_host_lastCmd (L : LaneSt) : (endSleep L).host.lastCmd = L.host.lastCmd := by unfold endSleep; split <;> rfl
@[simp] theorem endSleep_host_seqSynced (L : LaneSt) : (endSleep L).host.seqSynced = L.host.seqSynced := by unfold endSleep; split <;> rfl
@[simp] theorem endSleep_host_win (L : LaneSt) : (endSleep L).host.win = L.host.win := by unfold endSleep; split <;> rfl
@[simp] theorem endSleep_time (L : LaneSt) : (endSleep L).time = L.time := by unfold endSleep; split <;> rfl
@[simp] theorem endSleep_eng (L : LaneSt) : (endSleep L).eng = L.eng := by unfold endSleep; split <;> rfl
@[simp] theorem endSleep_safe (L : LaneSt) : (endSleep L).safe = L.safe := by unfold endSleep; split <;> rfl
@[simp] theorem endSleep_ox (L : LaneSt) : (endSleep L).ox = L.ox := by unfold endSleep; split <;> rfl
@[simp] theorem endSleep_trace (L : LaneSt) : (endSleep L).trace = L.trace := by unfold endSleep; split <;> rfl
@[simp] theorem endSleep_learn (L : LaneSt) : (endSleep L).learn = L.learn := by unfold endSleep; split <;> rfl
@[simp] theorem endSleep_mot (L : LaneSt) : (endSleep L).mot = L.mot := by unfold endSleep; split <;> rfl
@[simp] theorem endSleep_sen (L : LaneSt) : (endSleep L).sen = L.sen := by unfold endSleep; split <;> rfl
@[simp] theorem endSleep_gate (L : LaneSt) : (endSleep L).gate = L.gate := by unfold endSleep; split <;> rfl
@[simp] theorem endSleep_flock (L : LaneSt) : (endSleep L).flock = L.flock := by unfold endSleep; split <;> rfl
@[simp] theorem endSleep_int (L : LaneSt) : (endSleep L).int = L.int := by unfold endSleep; split <;> rfl
@[simp] theorem endSleep_pow (L : LaneSt) : (endSleep L).pow = L.pow := by unfold endSleep; split <;> rfl
@[simp] theorem endSleep_start (L : LaneSt) : (endSleep L).start = L.start := by unfold endSleep; split <;> rfl
@[simp] theorem endSleep_herdTx (L : LaneSt) : (endSleep L).herdTx = L.herdTx := by unfold endSleep; split <;> rfl
@[simp] theorem endSleep_flockTx (L : LaneSt) : (endSleep L).flockTx = L.flockTx := by unfold endSleep; split <;> rfl

/-! ## A row of a transaction -/

/-- On a port that answers, a transaction of the row's kind is opened, checked and closed. -/
theorem transactRow_eq (k : Nat) (l : LaneId) (ecc : List (Nat × EccOutcome)) (mosi : List Word) (s : State) (hr : rowKind k mosi = true)
    (ha : (s.lane l).answers = true) :
    transactRow k l ecc mosi s = .next (s.setLane l
      (closeTx (statusWord l (openTx l (s.lane l))) mosi (checkTx l ecc mosi (openTx l (s.lane l))))) := by
  unfold transactRow; rw [onLaneIf_pos _ _ _ _ hr]; simp [transact, ha]

end Sys2Proof.Machine
end

