-- ==== Sys2Proof/Laws/Store.lean ====
section
/-! SUPPORT. Sparse memories: a read after a write, and every write keeps the canonical form. -/

namespace Sys2Proof.Machine

variable {α : Type}

theorem Store.read_put_same (d : α) (m : Store α) (k : Nat) (x : α) : Store.read d (Store.put m k x) k = x := by
  induction m with
  | nil => simp [Store.put, Store.read]
  | cons p r ih =>
    obtain ⟨a, v⟩ := p
    unfold Store.put
    split
    · simp [Store.read]
    · split
      · simp [Store.read]
      · rename_i h; simp [Store.read, h, ih]

theorem Store.read_put_ne (d : α) (m : Store α) (k j : Nat) (x : α) (h : j ≠ k) :
    Store.read d (Store.put m k x) j = Store.read d m j := by
  induction m with
  | nil => simp [Store.put, Store.read, h]
  | cons p r ih =>
    obtain ⟨a, v⟩ := p
    unfold Store.put
    split
    · simp [Store.read, h]
    · split
      · rename_i e; subst e; simp [Store.read, h]
      · simp only [Store.read, ih]

theorem Store.read_erase_ne (d : α) (m : Store α) (k j : Nat) (h : j ≠ k) :
    Store.read d (Store.erase m k) j = Store.read d m j := by
  induction m with
  | nil => rfl
  | cons p r ih =>
    obtain ⟨a, v⟩ := p
    unfold Store.erase
    split
    · rename_i e; subst e; simp [Store.read, h]
    · simp only [Store.read, ih]

variable [DecidableEq α]

theorem Store.wfFrom_mono (d : α) (m : Store α) {lo lo' : Nat} (h : lo' ≤ lo) (w : Store.wfFrom d lo m = true) :
    Store.wfFrom d lo' m = true := by
  cases m with
  | nil => rfl
  | cons p r => obtain ⟨a, v⟩ := p; simp only [Store.wfFrom, Bool.and_eq_true, decide_eq_true_eq] at w ⊢; exact ⟨⟨by omega, w.1.2⟩, w.2⟩

/-- Below the first key nothing is listed. -/
theorem Store.read_low (d : α) (m : Store α) {lo k : Nat} (w : Store.wfFrom d lo m = true) (h : k < lo) : Store.read d m k = d := by
  induction m generalizing lo with
  | nil => rfl
  | cons p r ih =>
    obtain ⟨a, v⟩ := p
    simp only [Store.wfFrom, Bool.and_eq_true, decide_eq_true_eq] at w
    have : k ≠ a := by omega
    simp only [Store.read, this, if_false]
    exact ih w.2 (by omega)

theorem Store.read_erase_same (d : α) (m : Store α) {lo : Nat} (k : Nat) (w : Store.wfFrom d lo m = true) :
    Store.read d (Store.erase m k) k = d := by
  induction m generalizing lo with
  | nil => rfl
  | cons p r ih =>
    obtain ⟨a, v⟩ := p
    simp only [Store.wfFrom, Bool.and_eq_true, decide_eq_true_eq] at w
    unfold Store.erase
    split
    · rename_i e; subst e; exact Store.read_low d r w.2 (by omega)
    · rename_i h; simp only [Store.read, h, if_false]; exact ih w.2

/-- The value read after a write to the same key. -/
theorem Store.read_write_same (d : α) (m : Store α) (k : Nat) (x : α) (w : Store.wf d m = true) :
    Store.read d (Store.write d m k x) k = x := by
  unfold Store.write
  split
  · rename_i h; rw [h]; exact Store.read_erase_same d m k w
  · exact Store.read_put_same d m k x

/-- A write leaves every other key alone. -/
theorem Store.read_write_ne (d : α) (m : Store α) (k j : Nat) (x : α) (h : j ≠ k) :
    Store.read d (Store.write d m k x) j = Store.read d m j := by
  unfold Store.write
  split
  · exact Store.read_erase_ne d m k j h
  · exact Store.read_put_ne d m k j x h

theorem Store.wfFrom_put (d : α) (m : Store α) {lo : Nat} (k : Nat) (x : α) (hx : x ≠ d) (hk : lo ≤ k)
    (w : Store.wfFrom d lo m = true) : Store.wfFrom d lo (Store.put m k x) = true := by
  induction m generalizing lo with
  | nil => simp [Store.put, Store.wfFrom, hx, hk]
  | cons p r ih =>
    obtain ⟨a, v⟩ := p
    simp only [Store.wfFrom, Bool.and_eq_true, decide_eq_true_eq] at w
    unfold Store.put
    split
    · simp only [Store.wfFrom, Bool.and_eq_true, decide_eq_true_eq]
      exact ⟨⟨hk, hx⟩, ⟨by omega, w.1.2⟩, w.2⟩
    · split
      · rename_i e; subst e
        simp only [Store.wfFrom, Bool.and_eq_true, decide_eq_true_eq]
        exact ⟨⟨hk, hx⟩, w.2⟩
      · simp only [Store.wfFrom, Bool.and_eq_true, decide_eq_true_eq]
        exact ⟨w.1, ih (by omega) w.2⟩

theorem Store.wfFrom_erase (d : α) (m : Store α) {lo : Nat} (k : Nat) (w : Store.wfFrom d lo m = true) :
    Store.wfFrom d lo (Store.erase m k) = true := by
  induction m generalizing lo with
  | nil => rfl
  | cons p r ih =>
    obtain ⟨a, v⟩ := p
    simp only [Store.wfFrom, Bool.and_eq_true, decide_eq_true_eq] at w
    unfold Store.erase
    split
    · exact Store.wfFrom_mono d r (by omega) w.2
    · simp only [Store.wfFrom, Bool.and_eq_true, decide_eq_true_eq]
      exact ⟨w.1, ih w.2⟩

/-- A write keeps the canonical form. -/
theorem Store.wf_write (d : α) (m : Store α) (k : Nat) (x : α) (w : Store.wf d m = true) : Store.wf d (Store.write d m k x) = true := by
  unfold Store.write Store.wf
  split
  · exact Store.wfFrom_erase d m k w
  · rename_i h; exact Store.wfFrom_put d m k x h (Nat.zero_le _) w

theorem Store.wf_writes (d : α) (xs : List α) : ∀ (m : Store α) (k : Nat), Store.wf d m = true → Store.wf d (Store.writes d m k xs) = true := by
  induction xs with
  | nil => intro m k w; exact w
  | cons x r ih => intro m k w; exact ih _ _ (Store.wf_write d m k x w)

/-- Consecutive writes leave the keys outside them alone. -/
theorem Store.read_writes_out (d : α) (xs : List α) : ∀ (m : Store α) (k j : Nat), (j < k ∨ k + xs.length ≤ j) →
    Store.read d (Store.writes d m k xs) j = Store.read d m j := by
  induction xs with
  | nil => intro m k j _; rfl
  | cons x r ih =>
    intro m k j h
    simp only [List.length_cons] at h
    unfold Store.writes
    rw [ih _ _ _ (by omega), Store.read_write_ne d m k j x (by omega)]

/-- Consecutive writes are read back. -/
theorem Store.read_writes_in (d : α) (xs : List α) : ∀ (m : Store α) (k i : Nat) (h : i < xs.length), Store.wf d m = true →
    Store.read d (Store.writes d m k xs) (k + i) = xs[i] := by
  induction xs with
  | nil => intro m k i h; exact absurd h (by simp)
  | cons x r ih =>
    intro m k i h w
    unfold Store.writes
    cases i with
    | zero =>
      rw [Store.read_writes_out d r _ _ _ (by omega), Nat.add_zero, Store.read_write_same d m k x w]; rfl
    | succ n =>
      have e : k + (n + 1) = (k + 1) + n := by omega
      rw [e, ih _ _ n (by simpa using h) (Store.wf_write d m k x w)]; rfl

theorem Memory.wf_write (m : Store Byte) (k : Nat) (x : Byte) (w : Memory.wf m = true) : Memory.wf (Store.write 0 m k x) = true :=
  Store.wf_write 0 m k x w

theorem Memory.wf_writes (m : Store Byte) (k : Nat) (xs : List Byte) (w : Memory.wf m = true) :
    Memory.wf (Store.writes 0 m k xs) = true :=
  Store.wf_writes 0 xs m k w

theorem Memory.wf_reset : Memory.wf (State.reset.lanes.a0.host.win) = true ∧ Memory.wf (State.reset.lanes.a1.host.win) = true
    ∧ Memory.wf (State.reset.lanes.a2.host.win) = true := ⟨rfl, rfl, rfl⟩

end Sys2Proof.Machine
end

