-- ==== Sys2Proof/Tests/Slice0.lean ====
section
/-! SUPPORT. Tests of the model: well-formedness, and for every statement with hypotheses a state and operands that meet them, clause by
clause. The expected values are those of the manual's rules. -/

open Sys2Proof Sys2Proof.Machine

namespace Sys2Proof.Tests

set_option Elab.async false

/-! ## States to test on -/

/-- A lane in full function: powered, healthy, lane 0 the lead and lane 1 the standby, STO_N high. -/
def up : LaneSt :=
  { start := { supplied := true, vinGood := true, coreReady := true, inReset := false, phase := .full },
    pow := { pd := allOn }, eng := { healthy := ⟨true, true, true⟩, lead := some .l0, standby := some .l1 },
    gate := { stoHigh := true }, mot := { stoHold := false }, ox := { graphState := .active }, safe := { state := .full } }

/-- A device whose three lanes are alike. -/
def dev (L : LaneSt) : State := { lanes := ⟨L, L, L⟩, pending := [] }

/-- A command of the host on lane 0's port, on lane 0. -/
def c0 : Ctx := ⟨.l0, .spi .l0, 7, []⟩

/-- The same lane with items set. -/
def withItems (is : List (Nat × Word)) (L : LaneSt) : LaneSt :=
  let c : Conf := is.foldl (fun c p => c.setItem p.1 p.2) L.host.run
  { L with host := { L.host with run := c, committed := c } }

/-! ## Well-formed commands: one ill-formed term for each check -/

theorem test_wf_kind : (Instr.spiNop .l0 [0x10000000]).wf = false ∧ (Instr.spiRead .l0 [0] []).wf = false
    ∧ (Instr.spiWrite .l0 [0]).wf = false ∧ (Instr.doorbell .l0 [0]).wf = false ∧ (Instr.doorbell .l0 []).wf = false
    ∧ (Instr.spiWrite .l0 [0x20181000, 1, 0]).wf = true := by decide

theorem test_wf_address : (Instr.eqHeadWrite .l1 [0x2018000C, 1, 0]).wf = false ∧ (Instr.eqHeadWrite .l1 [0x2058000C, 1, 0]).wf = true
    ∧ (Instr.laneViolClear .l0 [0x2000000C, 1, 0]).wf = false ∧ (Instr.laneViolClear .l0 [0x21000004, 1, 2, 0]).wf = true := by decide

theorem test_wf_other_lane : (Instr.laneResultReport .l0 .l0 0 okRes).wf = false ∧ (Instr.killOrder .l1 .l1).wf = false
    ∧ (Instr.sleepAnswer .l2 .l2 .agree).wf = false ∧ (Instr.killOrder .l1 .l0).wf = true := by decide

theorem test_wf_ranges : (Instr.eventArrival .l0 0x0F 1 0).wf = false ∧ (Instr.eventArrival .l0 0xC0 1 0).wf = false
    ∧ (Instr.eventArrival .l0 0x10 6 0).wf = false ∧ (Instr.eventArrival .l0 0xBF 5 0).wf = true
    ∧ (Instr.faultHandlingDone .l0 1).wf = false ∧ (Instr.faultHandledTimeout .l0 5).wf = false
    ∧ (Instr.wakeStepTimeout .l0 .aon).wf = false ∧ (Instr.laneIdent c0 (List.replicate 961 0)).wf = false := by decide +kernel

theorem test_wf_link : (Instr.herdSampleRecord .l0 .k12 [] 0).wf = false ∧ (Instr.herdSampleRecord .l0 .k01 [] 0).wf = true
    ∧ (Instr.ganderCutMessage .l2 .A).wf = false ∧ (Instr.claimAnnounce .l0 .A 3).wf = false
    ∧ (Instr.staticSlotActionPoint .l0 .B 1).wf = false ∧ (Instr.staticSlotActionPoint .l0 .A 0).wf = false
    ∧ (Instr.ganderWindowEdge .l0 .A true false true).wf = false ∧ (Instr.claimHolderSilent .l0 .A 1024).wf = false := by decide

theorem test_decode_none : decodeTableWord 16 0x1234 = none ∧ State.reset.withFetchWord 16 0x1234 = State.reset := by decide

/-! ## The host port -/

def upS : LaneSt := { up with host := { up.host with seqSynced := true, lastSeq := 0xFF } }

theorem wit_SpiNopSetsSequence : ((dev up).lane .l0).answers = true ∧ cmdKind 0 = 0 ∧ cmdAddr 0 % 4 = 0 := by decide +kernel

theorem wit_SpiReadAnswers : ((dev up).lane .l0).answers = true ∧ cmdKind 0x1F180100 = 1 ∧ cmdAddr 0x1F180100 % 4 = 0
    ∧ (List.replicate 17 (0 : Word)).length = cmdLen 0x1F180100 + 2 := by decide +kernel

/-- A register of the LANE engine, and SEQ in and out of sequence. -/
theorem wit_SpiReadAnswers_register : cmdLen 0x10000000 = 0 ∧ cmdKind 0x10000000 = 1 ∧ cmdAddr 0x10000000 % 4 = 0
    ∧ (0 : Byte) = upS.host.lastSeq + 1 ∧ (5 : Byte) ≠ upS.host.lastSeq + 1 ∧ upS.host.hSilent = false
    ∧ adrLane (cmdAddr 0x10000000) = LaneId.l0.num ∧ adrEngine (cmdAddr 0x10000000) < 6 ∧ arrayWord (cmdAddr 0x10000000) = none
    ∧ ((engineWord .l0 upS 0 0).map (·.2)) = some false := by decide +kernel

theorem wit_AccessViolations :
    (((dev up).lane .l0).answers = true ∧ cmdKind 0x10400000 = 1 ∧ cmdLen 0x10400000 = 0 ∧ cmdAddr 0x10400000 % 4 = 0
      ∧ adrLane (cmdAddr 0x10400000) ≠ LaneId.l0.num)
    ∧ (((dev upS).lane .l0).answers = true ∧ upS.host.seqSynced = true ∧ (0 : Byte) = upS.host.lastSeq + 1 ∧ cmdKind 0x20000008 = 2
      ∧ cmdLen 0x20000008 = 0 ∧ adrLane (cmdAddr 0x20000008) = LaneId.l0.num ∧ adrEngine (cmdAddr 0x20000008) = 0
      ∧ adrOffset (cmdAddr 0x20000008) = 0x008 ∧ upS.priv (.spi .l0) = .owner ∧ upS.priv (.spi .l1) ≠ .owner)
    ∧ (adrLane (cmdAddr 0x20000004) = LaneId.l0.num ∧ adrEngine (cmdAddr 0x20000004) = 0 ∧ adrOffset (cmdAddr 0x20000004) = 0x004
      ∧ adrLane (cmdAddr 0x20C00000) ≠ LaneId.l0.num) := by decide +kernel

theorem wit_SpiWriteFollowsSequence : ((dev upS).lane .l0).answers = true ∧ cmdKind 0x21181000 = 2 ∧ cmdAddr 0x21181000 % 4 = 0
    ∧ ([1, 2] : List Word).length = cmdLen 0x21181000 + 1 ∧ upS.host.seqSynced = true ∧ (0 : Byte) = upS.host.lastSeq + 1
    ∧ up.host.seqSynced = false := by decide +kernel

theorem wit_SpiWriteFillsCommandSlot : ((dev upS).lane .l0).answers = true ∧ Memory.wf upS.host.win = true ∧ cmdKind 0x21181FF8 = 2
    ∧ cmdLen 0x21181FF8 = 1 ∧ adrLane (cmdAddr 0x21181FF8) = LaneId.l0.num ∧ adrEngine (cmdAddr 0x21181FF8) = 6
    ∧ adrOffset (cmdAddr 0x21181FF8) % 8 = 0 ∧ slotFree .l0 upS (adrOffset (cmdAddr 0x21181FF8)) = true
    ∧ upS.eqRecords .l0 ≤ 1024 := by decide +kernel

theorem wit_QueueIndexWrites :
    (cmdKind 0x30180004 = 3 ∧ cmdLen 0x30180004 = 0 ∧ adrEngine (cmdAddr 0x30180004) = 6 ∧ adrOffset (cmdAddr 0x30180004) = 0x004
      ∧ (16 - upS.host.cqHead).toNat ≤ upS.cqSlots .l0 ∧ ¬(17 - upS.host.cqHead).toNat ≤ upS.cqSlots .l0)
    ∧ (cmdKind 0x2018000C = 2 ∧ cmdLen 0x2018000C = 0 ∧ adrOffset (cmdAddr 0x2018000C) = 0x00C
      ∧ (upS.host.eqTail - 0xFF01).toNat ≤ upS.eqRecords .l0 ∧ (upS.host.eqTail + 1 - 0xFF01).toNat ≤ upS.eqRecords .l0
      ∧ upS.route 0x94 = 0 ∧ upS.ev.pending = []) := by decide +kernel

theorem wit_PortKeepsWindowCanonical : Memory.wf ((dev up).lane .l0).host.win = true ∧ ∃ t, exec (.spiNop .l0 [0, 0]) (dev up) = .next t :=
  ⟨rfl, _, rfl⟩

theorem wit_PortReportsBeginAndEnd :
    (up.answers = true ∧ up.host.asleep = false ∧ up.host.hSilent = false ∧ (withItems [(Item.silentTime, 50)] up).host.run.nat Item.silentTime ≠ 0)
    ∧ (up.running = true ∧ { up.host with hCrc := true }.hCrc = true) := by decide +kernel

/-! ## Opcodes that read -/

theorem wit_StatusOpcodesReturnRegisters : (Ready 0x0103 c0 [] (dev up) ∧ Ready 0x0410 c0 [] (dev up) ∧ Ready 0x0501 c0 [] (dev up)
    ∧ Ready 0x0610 c0 [] (dev up) ∧ Ready 0x0A10 c0 [] (dev up) ∧ Ready 0x0903 c0 [] (dev up))
    ∧ up.ownerIs c0.sender = true ∧ up.ownerIs (.spi .l1) = false := by unfold Ready; decide +kernel

theorem wit_RecordOpcodesReturnRecords :
    (Ready 0x0101 c0 [] (dev up) ∧ Ready 0x0901 c0 [] (dev up) ∧ Ready 0x0801 c0 [] (dev up) ∧ Ready 0x0B10 c0 [] (dev up)
      ∧ Ready 0x0204 c0 [] (dev up)) ∧ up.ox.graphState = .active := by
  unfold Ready; decide +kernel

theorem wit_LaneReadReturnsWords :
    (∀ blk ∈ ([[0, 0, 0, 1], [0x00, 0x00, 0x40, 128], [0xFC, 0xFF, 0x1B, 1]] : List (List Byte)), Ready 0x0102 c0 blk (dev up) ∧ blk.length = 4
      ∧ fieldOf (rd32 blk 0) 0 24 % 4 = 0 ∧ adrLane (fieldOf (rd32 blk 0) 0 24) < 3 ∧ 1 ≤ (byteAt blk 3).toNat ∧ (byteAt blk 3).toNat ≤ 128
      ∧ adrOffset (fieldOf (rd32 blk 0) 0 24) + 4 * (byteAt blk 3).toNat ≤ 2 ^ 18 ∧ up.healthyNum (adrLane (fieldOf (rd32 blk 0) 0 24)) = true)
    ∧ up.minimal = false := by unfold Ready; decide +kernel

def upT : LaneSt :=
  { up with host := { up.host with trans := some ⟨.spi .l0, Store.put [] 3 9, { graph := [(5, { NodeRec.empty with typ := 0x01 })] }, false, false⟩,
                                   run := { graph := [(5, { NodeRec.empty with typ := 0x01 })] } },
            trace := { up.trace with probes := [{ en := true, depth := 64, samples := 64, state := .armed }] } }

theorem wit_ReadOpcodesReturnData :
    (Ready 0x0705 c0 ([0, 1, 0, 0] ++ le16 0x0003) (dev upT) ∧ (itemDef 0x0003).isSome = true ∧ Ready 0x0705 c0 ([1, 1, 0, 0] ++ le16 0x0003) (dev upT)
      ∧ upT.host.trans.bind (fun t => Store.find t.staged 3) = some 9)
    ∧ (Ready 0x0254 c0 ([0, 0] ++ le16 63 ++ [64, 0, 0, 0]) (dev upT) ∧ upT.trace.probes.getD 0 {} = { en := true, depth := 64, samples := 64, state := .armed }
      ∧ upT.eng.healthy.get .l0 = true)
    ∧ (Ready 0x0611 c0 ([0, 0] ++ le16 1) (dev upT) ∧ Ready 0x0611 c0 ([1, 0] ++ le16 1023) (dev upT))
    ∧ (Ready 0x0230 c0 ([1, 5] ++ zeros 18) (dev upT) ∧ (upT.host.run.node 5).typ ≠ 0) := by unfold Ready; decide +kernel

/-! ## Admission, replication and results -/

/-- A packet of 16 bytes with its CRC: an opcode with tag 1. -/
def packet (lo hi : Byte) : List Byte :=
  let h : List Byte := [lo, hi, 1, 0, 16, 0, 0x10, 0, 0, 0, 0, 0]
  h ++ le32 (crc32c (h ++ zeros 4))

def upP (b : List Byte) : LaneSt :=
  { up with host := { up.host with cqTail := 1, dbHeld := true, win := Store.writes 0 [] 0x1000 b } }

def fullQueue (L : LaneSt) : LaneSt := { L with host := { L.host with eqTail := 256 } }

theorem wit_AdmissionChecksThePacket_offered :
    Offered .l0 (upP (packet 0x01 0x01)) 1 (slotBytes .l0 (upP (packet 0x01 0x01)) 0) := by unfold Offered Lies; decide +kernel

def pkOf (l : LaneId) (b : List Byte) : Packet := joinSegs (.spi l) (slotBytes l (upP b) 0) [slotBytes l (upP b) 0]

theorem wit_AdmissionChecksThePacket :
    (packetFault up 0 (pkOf .l0 (packet 0x01 0x01)) = none ∧ packetDenied up (pkOf .l0 (packet 0x01 0x01)) = none
      ∧ waitFor .l0 (pkOf .l0 (packet 0x01 0x01)) (upP (packet 0x01 0x01)) = 0
      ∧ waitFor .l0 (pkOf .l0 (packet 0x01 0x01)) (fullQueue (upP (packet 0x01 0x01))) ≠ 0)
    ∧ (packetFault up 0 (pkOf .l1 (packet 0x01 0x07)) = none ∧ packetDenied up (pkOf .l1 (packet 0x01 0x07)) = some stNotPermitted
      ∧ recordFree .l1 up = true) := by decide +kernel

def pk (code : Half) (block : List Byte) : Packet := ⟨.spi .l0, code, 1, false, false, false, 0, block⟩

/-- A task of lane 0's port with replication number 4. -/
def tk (code : Half) : Task :=
  { tid := 7, flow := 0, rn := some 4, origin := .l0, pkt := pk code [], priv := .owner, isLocal := false, waiting := false, late := false,
    part := ⟨true, true, true⟩, results := ⟨some okRes, none, some okRes⟩, slot := none, fin := none, done := false, started := true }

def upK (k : Task) : LaneSt := { up with host := { up.host with tasks := [k], resv := 1, nextTid := 8 } }

theorem wit_ReplicationNumbersPackets : up.running = true ∧ up.eng.healthy.get .l0 = true ∧ up.eng.excluded = false ∧ up.eng.debug = false
    ∧ up.eng.lead = some .l0 ∧ up.numbers .l0 = true ∧ (⟨.l1, 3, none, .owner, false, pk 0x0103 []⟩ : ReplMsg).origin ≠ .l0
    ∧ up.numbers .l2 = false := by decide +kernel

theorem wit_ReplicationNumbersPackets_copies : up.eng.numbered.get .l1 ≤ 3 ∧ up.minimal = false
    ∧ 1 < ({ up with eng := { up.eng with numbered := ⟨0, 2, 0⟩ } }).eng.numbered.get .l1
    ∧ (⟨.l1, 3, some 9, .owner, false, pk 0x0103 []⟩ : ReplMsg).rn = some 9 := by decide +kernel

/-- A task of a remote host, and one that a lane has not reported. -/
def tkRemote : Task := { tk 0x0103 with pkt := { pk 0x0103 [] with sender := .remote 3 }, flow := 3 }
def tkOpen : Task := { tk 0x0103 with results := ⟨some okRes, none, none⟩ }

theorem wit_ReplicatedResults :
    ((upK (tk 0x0103)).running = true ∧ (upK (tk 0x0103)).taskOf .l0 4 = some (tk 0x0103) ∧ NextOut .l0 (upK (tk 0x0103)) (tk 0x0103)
      ∧ (tk 0x0103).part.get .l1 = true ∧ ((tk 0x0103).results.get .l0).isSome = true ∧ ((tk 0x0103).results.get .l2).isSome = true
      ∧ (tk 0x0103).isLocal = false ∧ (tk 0x0103).delayed = false ∧ waitsForStore (upK (tk 0x0103)) (tk 0x0103) = false)
    ∧ waitsForStore (upK (tk 0x0B03)) (tk 0x0B03) = true ∧ NextOut .l0 (upK (tk 0x0B03)) (tk 0x0B03)
    ∧ ((upK tkRemote).taskOf .l0 4 = some tkRemote ∧ NextOut .l0 (upK tkRemote) tkRemote)
    ∧ ((upK tkOpen).taskOf .l0 4 = some tkOpen ∧ (upK tkOpen).task tkOpen.tid = some tkOpen ∧ tkOpen.results.get .l2 = none
      ∧ (upK tkOpen).eng.healthy.get .l2 = true)
    ∧ (upK tkOpen).taskOf .l0 5 = none := by unfold NextOut; decide +kernel

def timedTask (at_ : Word) : Task :=
  { tk 0x0111 with pkt := { pk 0x0111 [] with timed := true, execAt := at_ }, waiting := true, started := false }

theorem wit_TimedCommandStarts_order : (timedTask 0).rn.isSome = true ∧ (timedTask 0).waitsPool = false ∧ (timedTask 0).sooner (timedTask 0) = false
    ∧ { timedTask 0 with rn := none }.rn = none ∧ { timedTask 0 with rn := some 3 }.sooner (timedTask 0) = true := by decide +kernel

theorem wit_TimedCommandStarts : (upK (timedTask 0)).task 7 = some (timedTask 0) ∧ timeNotBefore (upK (timedTask 0)).now 0 = true
    ∧ timeNotBefore (upK (timedTask 1)).now 1 = false ∧ (upK (timedTask 0)).running = true := by decide +kernel

/-! ## Claims and the configuration transaction -/

def upO : LaneSt := withItems [(Item.keyLo, 5), (Item.keyHi, 6)] up
def c1 : Ctx := ⟨.l0, .spi .l1, 7, []⟩

theorem wit_OwnerClaims :
    (Ready 0x0105 c1 ([5, 0, 0, 0, 6, 0, 0, 0] : List Byte) (dev upO) ∧ (upO.keyCount c1.sender).locked = false ∧ rd32 [5, 0, 0, 0, 6, 0, 0, 0] 0 = upO.host.run.item Item.keyLo
      ∧ rd32 [5, 0, 0, 0, 6, 0, 0, 0] 4 = upO.host.run.item Item.keyHi ∧ upO.mot.enabled = false ∧ upO.ownerIs c1.sender = false)
    ∧ (rd32 [5, 0, 0, 0, 7, 0, 0, 0] 4 ≠ upO.host.run.item Item.keyHi)
    ∧ (let L := { upO with eng := { upO.eng with claimCount := [⟨c1.sender, [0, 0, 0], true⟩] } }
      Ready 0x0105 c1 ([5, 0, 0, 0, 6, 0, 0, 0] : List Byte) (dev L) ∧ (L.keyCount c1.sender).locked = true)
    ∧ Ready 0x0106 c1 [] (dev { upO with eng := { upO.eng with claim := some c1.sender } }) := by unfold Ready; decide +kernel

theorem wit_TransactionStages :
    (Ready 0x0701 c0 [] (dev up) ∧ up.cfgBusy = false ∧ upT.cfgBusy = true ∧ Ready 0x0701 c0 [] (dev upT))
    ∧ (Ready 0x0702 c0 (le16 3 ++ [0, 0] ++ le32 9) (dev upT) ∧ (upT.host.trans.map (·.owner)) = some c0.sender ∧ (itemDef 3).isSome = true)
    ∧ (Ready 0x0702 c1 (le16 3 ++ [0, 0] ++ le32 9) (dev upT) ∧ cfgSetForm (le16 3 ++ [0, 0] ++ le32 9) = true
      ∧ ((cfgEntries (le16 3 ++ [0, 0] ++ le32 9)).all fun e => (itemDef e.1).isSome) = true ∧ (upT.host.trans.map (·.owner)) ≠ some c1.sender)
    ∧ Ready 0x0704 c0 [] (dev upT) := by unfold Ready; decide +kernel

theorem wit_LoadsStageOnly :
    (Ready 0x0201 c0 ([9] ++ zeros 63) (dev upT) ∧ loadOk ([9] ++ zeros 63) = true)
    ∧ (Ready 0x0202 c0 (le16 24575 ++ [1, 0, 0, 0, 0, 0] ++ le32 3) (dev upT))
    ∧ (Ready 0x0203 c0 ([5, 7, 0, 0] ++ le32 3) (dev upT) ∧ (upT.host.trans.map fun t => (t.want.node 5).typ) = some 1)
    ∧ (Ready 0x0601 c0 ([0, 0] ++ le16 1023 ++ [1, 0, 0, 0] ++ le16 40 ++ [14, 0]) (dev upT))
    ∧ (Ready 0x0602 c0 (([0, 0, 1, 0, 0, 0, 0, 0] : List Byte) ++ le24 (((0xFFFFF#20).setWidth 24) <<< 4) ++ [0] ++ le16 40 ++ [0, 0]) (dev upT))
    ∧ (Ready 0x0603 c0 (([0, 0, 1, 0, 0, 0, 0, 0] : List Byte) ++ le24 (((1#20).setWidth 24) <<< 4) ++ [0] ++ le16 1 ++ le16 0x7FF) (dev upT)) := by
  unfold Ready; decide +kernel

/-! ## Commits and stores -/

def want0 : Trans := ⟨.spi .l0, [], {}, false, false⟩
def upNet : LaneSt := withItems [(Item.netRequired, 0)] up
def upW : LaneSt := { upNet with host := { upNet.host with applyWant := some want0, trans := some want0 } }
def upG : LaneSt :=
  { upW with host := { upW.host with prepOpen := some .l0, prepAns := ⟨some .ready, none, some .ready⟩ } }

theorem wit_CommitInTwoPhases :
    (Ready 0x0703 c0 [] (dev upW) ∧ upW.host.trans = some want0 ∧ upW.coordinator .l0 = .l0 ∧ upW.eng.healthy.get .l1 = true)
    ∧ (upW.running = true ∧ upW.coordinator .l1 = .l0 ∧ prepCheck .l1 upW want0 = .ready ∧ upW.host.commitTid = none)
    ∧ prepCheck .l1 upW { want0 with staged := Store.put [] 0x0003 0 } ≠ .ready
    ∧ (upG.host.prepOpen = some .l0 ∧ upG.host.prepAns.get .l0 = some .ready ∧ upG.host.prepAns.get .l2 = some .ready)
    ∧ upG.coordinator .l0 = .l0
    ∧ (upW.host.applyWant.isSome = true ∧ (1 : Byte) ≠ upW.eng.gen ∧ upW.eng.formerLead ≠ some .l1) := by unfold Ready; decide +kernel

def image (g : BitVec 24) : Image := { gen := g, conf := {}, colt := {} }

theorem wit_StoreWritesUnusedImage :
    (Ready 0x0706 c0 [] (dev up) ∧ up.host.trans = none ∧ Ready 0x0706 c0 [] (dev upW) ∧ upW.host.trans.isSome = true)
    ∧ ({ up with host := { up.host with storing := some (image 3) } }.running = true ∧ up.host.storeTid = none
      ∧ up.host.commitTid = none) := by unfold Ready; decide +kernel

/-! ## Roles, stops and the OX opcodes -/

def ss1 : Ss1Run := { decel := 0, margin := 0, stand := 0, textra := 0, endState := .sto, cap := 0, scale := 0 }
def upM : LaneSt := { up with mot := { up.mot with enabled := true } }
def upStop : LaneSt := { upM with safe := { upM.safe with ss1 := some ss1 } }

theorem wit_RoleAndStopCommands :
    (Ready 0x0104 c0 [2, 0, 0, 0] (dev up) ∧ up.minimal = false ∧ up.safe.ss1 = none ∧ up.safe.state ≠ .stopped ∧ up.host.run.t2 = false
      ∧ up.eng.healthy.get .l2 = true ∧ up.eng.lead ≠ some .l2 ∧ Ready 0x0104 c0 [0, 0, 0, 0] (dev up) ∧ up.eng.lead = some .l0)
    ∧ (Ready 0x0110 c0 [] (dev upM) ∧ upM.mot.enabled = true ∧ upM.safe.ss1 = none ∧ upM.safe.state ≠ .stopped ∧ Ready 0x0110 c0 [] (dev upStop)
      ∧ upStop.safe.ss1.isSome = true ∧ upStop.safe.state ≠ .stopped)
    ∧ Ready 0x0111 c0 [] (dev up) := by unfold Ready; decide +kernel

/-- A graph with a HOST_SP node 5 bound to port 0 in 0–1, a PI node 6, and a FRICTION table node 8. -/
def graph0 : Store NodeRec :=
  [(5, { NodeRec.empty with typ := tSrc, attr := 1, ps := [100, 0, 0, 0x01000000] }), (6, { NodeRec.empty with typ := tPi }),
   (8, { NodeRec.empty with typ := tFriction, tblLen := 4 })]

def upN : LaneSt := { upM with host := { upM.host with run := { upM.host.run with graph := graph0 } } }
def upFresh : LaneSt := { upN with ox := { upN.ox with nodes := [(5, { spFresh := true }), (6, { manual := some 1 })] } }

/-- Node 5 bound to remote entry 0, with the network lost. -/
def upFed : LaneSt :=
  let r := upFresh.host.run
  { upFresh with host := { upFresh.host with run := { r with graph := Store.write NodeRec.empty r.graph 5 { r.node 5 with attr := 0x301 } } },
                 flock := { upFresh.flock with netLost := true } }

theorem wit_SetpointsAndManualMode_fed : upFed.running = true ∧ (upFed.nst 5).spFresh = true ∧ (upFed.host.run.node 5).t = tSrc
    ∧ (upFed.host.run.node 5).kind = 1 ∧ (upFed.host.run.node 5).p 0 ≠ 0 ∧ (upFed.host.run.node 5).flockFed = true ∧ upFed.flock.netLost = true
    ∧ upFed.ox.graphState ≠ .none := by decide +kernel

theorem wit_SetpointsAndManualMode :
    (Ready 0x0210 c0 ([5, 0, 0, 0] ++ le32 0x01000000) (dev upN) ∧ (upN.host.run.node 5).t = tSrc ∧ (upN.host.run.node 5).kind = 1
      ∧ (upN.host.run.node 5).boundTo c0.sender = true ∧ (upN.host.run.node 5).boundTo c1.sender = false ∧ (upN.priv c0.sender).covers .operator = true
      ∧ upN.ox.graphState = .active ∧ upN.stopping = false ∧ (upN.host.run.node 5).pI 2 ≤ (0x01000000 : Word).toInt
      ∧ (0x01000000 : Word).toInt ≤ (upN.host.run.node 5).pI 3 ∧ (upN.host.run.node 5).pI 3 < (0x01000001 : Word).toInt)
    ∧ (Ready 0x0212 c0 ([6, 0, 0, 0] ++ le32 1) (dev upN) ∧ (upN.host.run.node 6).isPi = true ∧ upN.safe.ss1 = none)
    ∧ (Ready 0x0213 c0 [6, 0, 0, 0] (dev upFresh) ∧ (upFresh.nst 6).manual.isSome = true)
    ∧ ((upFresh.nst 5).spFresh = true ∧ (upFresh.host.run.node 5).p 0 ≠ 0 ∧ (upFresh.host.run.node 5).flockFed = false) := by
  unfold Ready; decide +kernel

def learnBlk : List Byte := [8, 5, 0, 0] ++ zeros 12 ++ le32 0x01000000 ++ le32 1 ++ le16 1 ++ [0, 0] ++ le32 3600000
def pass0 : Pass :=
  { node := 8, resNode := 5, resWord := 0, vMin := 0, vMax := 0, accMax := 0, gain := 1, stepMax := 1, nMin := 1, timeMax := 1, sums := [],
    counts := [], lastSpeed := none }
def upL : LaneSt := { upN with learn := { pass := some pass0 } }
def upQ : LaneSt := { upN with learn := { proposal := some (8, [1, 2, 3, 4]) } }

theorem wit_LearningPasses :
    (Ready 0x0220 c0 learnBlk (dev upN) ∧ learnBlk.length = 32 ∧ (byteAt learnBlk 2).toNat < 4 ∧ byteAt learnBlk 3 = 0 ∧ zerosAt learnBlk 26 2 = true
      ∧ (upN.host.run.node 8).learns = true ∧ (byteAt learnBlk 2).toNat < (upN.host.run.node 5).outs.length ∧ (upN.host.run.node 5).typ ≠ 0
      ∧ 0 ≤ (rd32 learnBlk 16).toInt ∧ (rd32 learnBlk 16).toInt ≤ qUnit ∧ 0 < (rd32 learnBlk 20).toInt ∧ rd16 learnBlk 24 ≠ 0
      ∧ 1 ≤ (rd32 learnBlk 28).toNat ∧ (rd32 learnBlk 28).toNat ≤ 3600000)
    ∧ (upN.minimal = false ∧ upN.learn.pass = none ∧ upN.mot.enabled = true ∧ upN.safe.mule = false ∧ upN.safe.ss1 = none
      ∧ upN.eng.lead = some .l0 ∧ upN.eng.lead ≠ some .l1 ∧ Ready 0x0220 ⟨.l1, .spi .l0, 7, []⟩ learnBlk (dev upN))
    ∧ (Ready 0x0220 c0 learnBlk (dev upL) ∧ upL.learn.pass = some pass0 ∧ pass0.node = (byteAt [8, 0, 0, 0] 0).toNat)
    ∧ (Ready 0x0221 c0 [8, 0, 0, 0] (dev upL) ∧ Ready 0x0223 c0 [8, 0, 0, 0] (dev upL) ∧ upL.running = true)
    ∧ (upQ.learn.proposal = some (8, [1, 2, 3, 4]) ∧ Ready 0x0222 c0 [8, 0, 0, 0] (dev upQ) ∧ upQ.coordinator .l0 = .l0 ∧ upQ.cfgBusy = false
      ∧ upQ.eng.healthy.get .l1 = true) := by unfold Ready; decide +kernel

def upD : LaneSt :=
  { upN with eng := { upN.eng with debug := true }, ox := { upN.ox with graphState := .debug, order := [5, 6, 8] } }

theorem wit_DebugCommands :
    (Ready 0x0240 c0 [1, 0, 0, 0] (dev up) ∧ up.debugOf .l0 .l1 = false ∧ up.mot.enabled = false ∧ Ready 0x0240 c0 [0, 0, 0, 0] (dev up)
      ∧ up.debugOf .l0 .l0 = false)
    ∧ (Ready 0x0241 c0 [] (dev upD) ∧ upD.eng.debug = true ∧ upD.eng.halted = false ∧ upD.ox.dbgRun = none
      ∧ Ready 0x0242 c0 (le16 0xFFFF ++ [0xFF, 0]) (dev upD) ∧ Ready 0x0243 c0 [] (dev upD))
    ∧ ((upD.ox.order.filter fun i => (upD.host.run.node i).part == upD.ox.dbgPart)[upD.ox.dbgNext]? = some 5
      ∧ upD.ox.dbgNext + 1 < (upD.ox.order.filter fun i => (upD.host.run.node i).part == upD.ox.dbgPart).length
      ∧ .result (BitVec.ofNat 8 5) 1 ∈ [Upset.result 5 1] ∧ 1 % 15 ≠ 0)
    ∧ (up.eng.debug = false ∧ Ready 0x0241 c0 [] (dev up) ∧ Ready 0x0243 c0 [] (dev up))
    ∧ (up.running = true ∧ up.start.supplied = true) := by unfold Ready; decide +kernel

/-- One fast probe on word 0 of node 5, triggered by the host alone. -/
def setupBlk : List Byte := [5, 0x80, 0, 0] ++ zeros 28 ++ [50, 0, 0, 0] ++ zeros 5 ++ [0xFF] ++ zeros 6

def trig0 : TrigSetup := { kind := 0, node := 0, word := 0, cmp := 0, value := 0, faultMask := 0, cycle := 0xFF, cross := false }
def upU : LaneSt := { upN with trace := { upN.trace with probes := [{ en := true, state := .armed, depth := 64 }], setup := some trig0 } }
def upV : LaneSt := { upN with trace := { upN.trace with setup := some trig0 } }

def graphUse : Store NodeRec := [(5, { NodeRec.empty with typ := tSrc, attr := 1, inUse := 1 })]
def upUse : LaneSt := { upN with host := { upN.host with run := { graph := graphUse } } }

theorem wit_TraceCommands :
    (Ready 0x0250 c0 setupBlk (dev upUse) ∧ setupForm setupBlk = true ∧ setupOk upUse.host.run setupBlk = true ∧ upUse.tracing = false)
    ∧ upU.tracing = true
    ∧ (Ready 0x0251 c0 [] (dev upV) ∧ upV.trace.setup.isSome = true ∧ upV.tracing = false)
    ∧ ((∃ p ∈ upU.trace.probes, p.state = .armed) ∧ Ready 0x0252 c0 [] (dev upU) ∧ upU.minimal = false ∧ upU.running = true)
    ∧ Ready 0x0253 c0 [] (dev upU) := by unfold Ready; decide +kernel

/-! ## Motion -/

/-- A graph with a PWM sink. -/
def pwmSink : Store NodeRec := [(4, { NodeRec.empty with typ := 0x03, attr := 2 })]
def withSink (L : LaneSt) : LaneSt := { L with host := { L.host with run := { L.host.run with graph := pwmSink } } }
def upF : LaneSt := withSink { up with sen := { up.sen with source := .own } }

theorem wit_MotionEnable :
    (Ready 0x0301 c0 [] (dev upF) ∧ upF.minimal = false ∧ upF.ox.graphState = .active ∧ upF.safe.state ≠ .colt ∧ upF.safe.state ≠ .stopped
      ∧ upF.safe.ss1 = none ∧ upF.host.run.hasWinding .l0 = true ∧ upF.stoOf .l0 .l0 = false ∧ tooFast upF = false)
    ∧ (upF.mot.energised = false ∧ upF.mot.enable = .idle ∧ { upF with mot := { upF.mot with enabled := true } }.mayDrive .l0 = true
      ∧ { upF with mot := { upF.mot with enabled := true } }.drivePos = true)
    ∧ ({ upF with mot := { upF.mot with enabled := true, energised := true } }.running = true)
    ∧ ({ upF with gate := { upF.gate with stoHigh := false }, mot := { upF.mot with enabled := true } }.mayDrive .l0 = false)
    ∧ ({ withSink upM with sen := { up.sen with source := .own }, mot := { upM.mot with enable := .offsets, offA := 1, offB := 2 } }.mayDrive .l0 = true)
    ∧ ({ up with ox := {} }.ox.graphState ≠ .active ∧ Ready 0x0301 c0 [] (dev { up with ox := {} }))
    ∧ ({ up with mot := { up.mot with enable := .precharge } }.powered = true ∧ up.mot.enableTids = []) := by unfold Ready; decide +kernel

theorem wit_MotionDisable :
    (∀ b ∈ ([0, 2] : List Byte), Ready 0x0302 c0 [b, 0, 0, 0] (dev upM) ∧ b.toNat ≤ 2) ∧ upM.minimal = false ∧ upM.safe.ss1 = none
    ∧ upStop.safe.ss1.isSome = true ∧ Ready 0x0302 c0 [0, 0, 0, 0] (dev upStop) := by unfold Ready; decide +kernel

/-- A graph with an SS1_REF node. -/
def upRef : LaneSt :=
  { upM with host := { upM.host with run := { upM.host.run with graph := [(9, { NodeRec.empty with typ := 0x01, attr := 2 })] } } }
def upVel : LaneSt := { upRef with mot := { upRef.mot with velReq := [.enter] }, sen := { upRef.sen with votedSpd := 0x01000000 } }

theorem wit_HostVelocityMode :
    (Ready 0x0310 c0 [] (dev upRef) ∧ upRef.mot.enabled = true ∧ upRef.host.run.ss1Ref.isSome = true ∧ upRef.safe.mule = false ∧ upRef.safe.ss1 = none
      ∧ upRef.inVel = false ∧ upVel.inVel = true ∧ Ready 0x0310 c0 [] (dev upVel))
    ∧ (Ready 0x0311 c0 (le32 1) (dev upVel) ∧ velReverses upVel 1 = false ∧ velReverses upVel 0xFF000000 = true ∧ upVel.minimal = false)
    ∧ Ready 0x0312 c0 [] (dev upVel) := by unfold Ready; decide +kernel

/-- A sample record of lane 1 that shows ENERGISED. -/
def rec1 : HerdRec := { lane := 1, health := 0x40 }

def rampEnd : Ramp := { newRamp up.host.run false 0x01000000 with n := 1000000 }
def upR : LaneSt :=
  { up with mot := { up.mot with w := ⟨0x01000000, 0x01000000, 0⟩, ramp := ⟨some rampEnd, some rampEnd, none⟩ },
            eng := { up.eng with devCnt := ⟨255, 255, 0⟩, devHit := ⟨false, true, false⟩, recs := ⟨none, some ⟨rec1, 100, 100⟩, none⟩ } }

theorem wit_TorqueShares :
    (upR.running = true ∧ upR.mot.w.get .l1 ≠ 0)
    ∧ (upR.mot.ramp.get .l1 = some rampEnd ∧ upR.mot.ramp.get .l0 = some rampEnd ∧ rampEnd.up = false ∧ rampEnd.ended = true)
    ∧ (upR.host.run.nat Item.tqDevCount ≤ (upR.eng.devCnt.get .l0).toNat ∧ upR.ownW .l0 = false)
    ∧ (upR.eng.healthy.get .l1 = true ∧ upR.eng.recs.get .l1 = some ⟨rec1, 100, 100⟩ ∧ rec1.health.getLsbD 6 = true
      ∧ upR.eng.devHit.get .l1 = true)
    ∧ upR.sen.hallSpdValid = false := by decide +kernel

/-! ## Gates and bridges -/

def upSto : LaneSt := { up with gate := { up.gate with stoHigh := false } }

/-- The record of a lane whose STO_N is high: HEALTH bit 12 clear. -/
def upDisc : LaneSt := { upSto with eng := { up.eng with recs := ⟨none, some ⟨rec1, 0, 0⟩, some ⟨{ rec1 with lane := 2 }, 0, 0⟩⟩ } }

theorem wit_StoBall : (300 ≤ 300 ∧ 99 < 100 ∧ 100 ≤ 100 ∧ 100 < 300) ∧ upSto.gate.demand = .allOff ∧ upSto.gate.reaction = .none
    ∧ upDisc.running = true ∧ stoDiffers .l0 upDisc = true := by decide +kernel

def trip (e : Bool) : TripIn := { edge := some .A, highs := 1, blankEnd := e, grossSince := e }

theorem wit_BridgeFaults :
    up.gateLive .l0 = true ∧ up.running = true ∧ ¬((trip false).blankEnd = true ∧ (trip false).grossSince = true)
    ∧ ((trip true).blankEnd = true ∧ (trip true).grossSince = true)
    ∧ (up.host.run.nat Item.scPolicy = 0 ∨ (withItems [(Item.scPolicy, 0)] up).host.run.nat Item.scPolicy = 0)
    ∧ (withItems [(Item.scPolicy, 1)] up).host.run.nat Item.scPolicy ≠ 0 ∧ up.gate.vgdUvlo = false ∧ up.gate.reaction = .none
    ∧ up.gate.sampleLegs = 0 ∧ legCount (tripLegs (trip false)) < 2 ∧ LaneId.l1 ≠ .l0 := by decide +kernel

def upUv (n : Nat) : LaneSt := { up with gate := { up.gate with uvloTimes := List.replicate n 0, pendUvlo := [(0x42, 0)] } }
def upColt : LaneSt :=
  { up with start := { up.start with coltOn := true, coltReady := true, coltRec := some { action := 2 } } }

theorem wit_SuppliesRecover :
    ((upUv 2).running = true ∧ (upUv 2).gate.vgdUvlo = false ∧ (upUv 2).gate.bootUvlo = 0 ∧ (upUv 2).gate.uvloLatched = false
      ∧ (uvloRecent (upUv 2)).length < 3 ∧ 3 ≤ (uvloRecent (upUv 3)).length)
    ∧ (up.gateLive .l0 = true ∧ up.start.coltOn = false)
    ∧ (upColt.gateLive .l0 = true ∧ upColt.start.coltOn = true ∧ coltNow .l0 upColt = .holdEffort ∧ upColt.start.coltReady = true) := by
  decide +kernel

/-! ## Events -/

theorem wit_ArrivalWritesOrDrops :
    (up.running = true ∧ ringable .l0 0x60 = true ∧ pinSource 0x60 = false ∧ (deviceWide 0x60 = true → up.eng.healthy.get .l0 = true)
      ∧ Store.wf 0 up.ev.cnt = true ∧ up.route 0x60 = 1 ∧ up.room .l0 = true ∧ (fullQueue up).room .l0 = false)
    ∧ (up.host.run.nat (Item.holdoff + groupOf 0x60) = 0 ∨ (withItems [(Item.holdoff + groupOf 0x60, 0)] up).host.run.nat (Item.holdoff + groupOf 0x60) = 0)
    ∧ up.signals (groupOf 0x60) = true ∧ (∃ src : Byte, (withItems [(0x7060, 0)] up).route src = 0 ∧ ringable .l0 src = true ∧ pinSource src = false) := by
  refine ⟨by decide +kernel, by decide +kernel, by decide +kernel, ⟨0x60, by decide +kernel⟩⟩

def upNet0 : LaneSt := withItems [(Item.nodeId, 40), (Item.remoteSrc, 0x00300007)] up
def ev1 : EventRec := { source := 0x30, cls := 1, unsync := false, time := 5, payload := 6 }

theorem wit_HoldoffsAndRemoteEvents :
    (up.running = true ∧ { up with ev := { up.ev with holdRunning := 0x8001 } }.ev.holdRunning.getLsbD (15 : Fin 16).val = true)
    ∧ (Ready 0x0710 c0 (le16 0xFFFF ++ [0, 0]) (dev up) ∧ c0.sender = .spi .l0 ∧ up.host.eqHeld = 0 ∧ (fullQueue up).host.eqHeld ≠ 0)
    ∧ (upNet0.host.run.nodeId ≠ 0 ∧ (upNet0.flock.seenMsgs.any fun m => m.1 == 7 && m.2.1 == 1) = false
      ∧ upNet0.host.run.remoteSource 7 0x30 = some 0 ∧ upNet0.host.run.remoteSource 8 0x30 = none)
    ∧ ([((7 : Half), (1 : Byte), (0 : Nat))].any fun m => m.1 == 7 && m.2.1 == 1) = true := by unfold Ready; decide +kernel

/-! ## Memory integrity and fault records -/

def upScrub (w : Nat) : LaneSt := { up with int := { up.int with scrubMem := 3, scrubWord := w, aonWord := 1023 } }

theorem wit_ScrubbersReadWords :
    ((upScrub 16382).running = true ∧ (upScrub 16382).dom (memDomain 3) = .on ∧ 16382 + 1 < memWords 3
      ∧ (upScrub 16382).int.poisoned.contains (3, 16382) = false ∧ (upScrub 16382).int.flipped = [])
    ∧ ((upScrub 0).start.supplied = true ∧ (upScrub 0).start.vinGood = true ∧ (upScrub 0).int.poisoned.contains (7, 1023) = false) := by
  decide +kernel

def ent : MergeEnt := { mem := 5, word := 512, bytes := 0x0102030405060708, valid := 0x0F }

theorem wit_DrainsAndRepairs :
    ({ up with int := { up.int with merge := [ent] } }.running = true ∧ Memory.wf up.host.win = true ∧ up.int.poisoned.contains (5, 512) = false
      ∧ ent.touched ≤ { ent with word := 513, touched := 4 }.touched)
    ∧ (repairable 3 14335 = true ∧ repairable 3 14336 = false ∧ repairable 4 0 = false) := by decide +kernel

def ucRec : FaultRec :=
  { source := 0x03, cls := 3, lane := .l0, unsync := true, time := 0, location := 0, detailA := 0, detailB := 0, sample := 0, stamp := 0 }
def upRec : LaneSt := { up with int := { up.int with uc := some ucRec, ce := some { ucRec with source := 0x02, cls := 2, handled := true } } }

theorem wit_FaultRecordsHandledAndCleared :
    (2 ≤ (3 : BitVec 3).toNat ∧ (3 : BitVec 3).toNat ≤ 4 ∧ upRec.int.slot 3 = some ucRec ∧ upRec.running = true ∧ upRec.alive = true)
    ∧ (upRec.eng.killed = false ∧ Ready 0x0902 c0 [1, 1, 0, 0] (dev upRec) ∧ upRec.int.ce = some { ucRec with source := 0x02, cls := 2, handled := true })
    ∧ (Ready 0x0902 c0 [1, 2, 0, 0] (dev upRec) ∧ upRec.int.uc = some ucRec ∧ recordGone .l0 ucRec upRec = false) := by
  unfold Ready; decide +kernel

/-! ## Sensing -/

/-- The last conversion had phase 0 and a run of outRun conversions out of range. -/
def upSin (run : Nat) (ph : Half) : LaneSt := { up with sen := { up.sen with started := true, outRun := run, phase := ph } }

theorem wit_SineCosinePairs :
    ((upSin 0 0).converts = true ∧ (upSin 0 0).hasSc .l0 = true ∧ (upSin 0 0).sen.started = true ∧ (upSin 0 0).sen.scLost = false)
    ∧ (ampLow up.host.run (correctPair up.host.run 0 4000) = false ∧ ampHigh up.host.run (correctPair up.host.run 0 4000) = false
      ∧ absI ((atan16 (correctPair up.host.run 0 4000).1 (correctPair up.host.run 0 4000).2.1 - 0 : Half).toInt) ≤ 0x2000
      ∧ 0x2000 < absI ((atan16 (correctPair up.host.run 0 4000).1 (correctPair up.host.run 0 4000).2.1 - 0x8000 : Half).toInt))
    ∧ (upSin 0 0).sen.word.setWidth 16 = (upSin 0 0).sen.phase
    ∧ (ampLow up.host.run (correctPair up.host.run 0 10) = true ∧ (upSin 0 0).sen.outRun = 0 ∧ (upSin 1 0).sen.outRun = 1) := by decide +kernel

def upHall : LaneSt := { up with sen := { up.sen with hallSeen := true, hallState := 1 } }

theorem wit_HallsAndAuxiliaryInputs :
    (upHall.start.supplied = true ∧ upHall.converts = true ∧ upHall.hasHall .l0 = true ∧ upHall.start.coltOn = false ∧ hallIdx 0 = none
      ∧ upHall.sen.hallSeen = true ∧ upHall.ownValid .l0 = false)
    ∧ (∃ i h, hallIdx upHall.sen.hallState = some i ∧ hallIdx h = some ((i + 1) % 6))
    ∧ (auxOut 2048 (up.host.run.int Item.aux1Lo) (up.host.run.int Item.aux1Hi) = false ∧ up.sen.aux1Fault = false
      ∧ auxOut 0 ((withItems [(Item.aux1Lo, 0x1000)] up).host.run.int Item.aux1Lo) (up.host.run.int Item.aux1Hi) = true
      ∧ { up with sen := { up.sen with aux1Run := 1 } }.sen.aux1Run = 1) := by
  refine ⟨by decide +kernel, ⟨(hallIdx 1).getD 0, ?_⟩, by decide +kernel⟩
  exact ⟨3, by decide +kernel⟩

def upEx (hv : Bool) : LaneSt :=
  { up with sen := { up.sen with source := .extrapolating, hallValid := hv }, mot := { up.mot with w := ⟨0x01000000, 0, 0⟩ } }

theorem wit_LadderAndAlignment :
    ((upEx true).running = true ∧ (upEx true).sen.source = .extrapolating ∧ (upEx true).sen.sharingOut = false ∧ hallStep (upEx true).sen.speed (upEx true) = true
      ∧ hallStep (upEx false).sen.speed (upEx false) = false ∧ (upEx false).mot.w.get .l0 ≠ 0)
    ∧ (Ready 0x0401 c0 (le32 5) (dev (upSin 0 0)) ∧ (upSin 0 0).minimal = false ∧ (upSin 0 0).mot.enabled = false ∧ (upSin 0 0).sensorValid .l0 .l0 = true
      ∧ (upSin 0 0).ownValid .l0 = true)
    ∧ (up.sensorValid .l0 .l1 = true ∧ up.ownValid .l0 = false) := by unfold Ready; decide +kernel

/-! ## Safe-state timers -/

def upMule : LaneSt :=
  { upRef with safe := { upRef.safe with mule := true, state := .mule }, eng := { up.eng with healthy := ⟨true, false, false⟩ } }

def upMule3 : LaneSt := { upMule with eng := up.eng }

theorem wit_SafeStateTimers :
    (upMule.running = true ∧ upMule.inMule = true ∧ upMule.host.run.ss1Ref.isSome = true ∧ upMule.eng.healthy.get .l0 = true ∧ muleConds .l0 upMule ≠ 0)
    ∧ muleConds .l0 upMule3 = 0 ∧ upMule3.inMule = true
    ∧ ({ up with safe := { up.safe with netHold := true } }.safe.netHold = true ∧ up.eng.excluded = false ∧ up.safe.mule = false ∧ up.safe.state = .full ∧ allSto .l0 up = false
      ∧ stopTest .l0 up = false) := by decide +kernel

/-! ## The herdline -/

def upMsgs : LaneSt :=
  { up with eng := { up.eng with lead := some .l1, role := .standby, miss := ⟨0, 200, 0⟩, up01 := true, linkMiss := ⟨200, 0, 0⟩, exclAt := ⟨none, some 10, none⟩,
                                 recs := ⟨none, some ⟨rec1, 100, 100⟩, none⟩, acceptMask := ⟨false, true, false⟩ } }
def upEn (e : Bool) : LaneSt :=
  { upMsgs with eng := { upMsgs.eng with recs := ⟨none, some ⟨{ rec1 with health := if e then 0x40 else 0 }, 200100, 200100⟩, none⟩ } }

theorem wit_SampleRecordsArrive : up.running = true ∧ (Link.k01.peer .l0).isSome = true ∧ rec1.lane = BitVec.ofNat 2 (1 : Nat)
    ∧ up.eng.recs.get .l1 = none ∧ recordOk [] = false := by decide +kernel

theorem wit_HerdlineMessages :
    (up.running = true ∧ up.start.supplied = true ∧ up.start.coreReady = true ∧ upMsgs.eng.acceptMask.get .l1 = true ∧ upMsgs.eng.acceptMask.get .l2 = false
      ∧ up.eng.healthy.get .l1 = true)
    ∧ (upMsgs.eng.healthy.get .l0 = true ∧ upMsgs.eng.exclAt.get .l1 = some 10 ∧ 10 + killDelay ≤ 290010 ∧ 290009 < 10 + killDelay)
    ∧ (upMsgs.eng.recs.get .l1 = some ⟨rec1, 100, 100⟩ ∧ rec1.energised = true)
    ∧ ((upEn false).eng.recs.get .l1 = some ⟨{ rec1 with health := 0 }, 200100, 200100⟩ ∧ ({ rec1 with health := 0 } : HerdRec).energised = false
      ∧ 290010 < 200100 + silentTime10 ∧ 200100 + silentTime10 ≤ 300100)
    ∧ (upMsgs.eng.lead = some .l1 ∧ 100 < absI ((101 : Word) - up.time.localT).toInt ∧ absI ((100 : Word) - up.time.localT).toInt ≤ 100
      ∧ upMsgs.eng.lead ≠ some .l2)
    ∧ { upMsgs with eng := { upMsgs.eng with healthy := ⟨false, true, true⟩ } }.eng.healthy.get .l0 = false := by decide +kernel

def upLinks : LaneSt := { upMsgs with eng := { upMsgs.eng with up20 := true, recs := ⟨none, none, none⟩ } }

theorem wit_LossOfLinksAndLanes :
    (upMsgs.running = true ∧ upMsgs.eng.up .k01 = true ∧ upMsgs.host.run.nat Item.missCount ≤ (upMsgs.eng.linkMiss.get Link.k01.slot).toNat
      ∧ upMsgs.eng.down = ⟨false, false, false⟩ ∧ upMsgs.eng.sleeping = ⟨false, false, false⟩)
    ∧ (upMsgs.eng.healthy.get .l1 = true ∧ upMsgs.host.run.nat Item.missCount ≤ (upMsgs.eng.miss.get .l1).toNat
      ∧ upMsgs.eng.lead = some .l1 ∧ upMsgs.eng.role = .standby ∧ upMsgs.eng.isolated = false)
    ∧ (let r : HerdRec := { lane := 1 }
      Link.k01.peer .l0 = some .l1 ∧ r.lane = BitVec.ofNat 2 LaneId.l1.num
      ∧ upLinks.eng.recs.get .l1 = none ∧ (ownLinks .l0).all upLinks.eng.up = true ∧ r.linkRx (farLink .l0) = false) := by decide +kernel

def upDis (three : Bool) : LaneSt :=
  { upMsgs with eng := { upMsgs.eng with tqIn := ⟨true, true, three⟩, tqCnt := ⟨255, 255, 0⟩, posIn := ⟨true, true, three⟩, posCnt := ⟨255, 255, 0⟩ } }

theorem wit_DisagreementsReachTheirCount :
    ((upDis true).running = true ∧ (upDis true).eng.healthy.get .l1 = true ∧ (upDis true).eng.tqIn = ⟨true, true, true⟩
      ∧ (upDis true).host.run.nat Item.tqCount ≤ ((upDis true).eng.tqCnt.get .l1).toNat
      ∧ (upDis true).eng.lead = some .l1 ∧ (upDis true).eng.role = .standby ∧ (upDis false).eng.tqIn.lanes.length = 2)
    ∧ ((upDis true).host.run.nat Item.posCount ≤ ((upDis true).eng.posCnt.get .l0).toNat ∧ (upDis true).eng.posIn = ⟨true, true, true⟩
      ∧ (upDis true).sen.scLost = false ∧ (upDis false).eng.posIn.lanes.length = 2) := by decide +kernel

theorem wit_RejoinCompletes : ({ up with eng := { up.eng with rejoin := some 64 } }).running = true ∧ up.ox.graphState = .active
    ∧ ({ up with eng := { up.eng with rejoin := some 64 } }).eng.rejoin = some 64 := by decide +kernel

/-! ## The Welor link -/

/-- Lane 0 is node 40, may claim on channel A, owns the SYNC slot 3 and knows slot 4 of node 41 and the SPARE slot 5. -/
def upWelor (st : LinkState) : LaneSt :=
  let L := withItems [(Item.nodeId, 40), (Item.flockClaim, 1), (Item.dynSlot, 51), (Item.remoteNode, 41), (Item.remotePriv, 1)] up
  let c := { L.host.run with schedA := [(3, { node := 40, kind := 1, sync := true }), (4, { node := 41, kind := 1 }), (5, { kind := 2 })],
                             subs := [⟨0x12345, 41⟩] }
  { L with host := { L.host with run := c, committed := c }, flock := { L.flock with chA := { state := st } } }

def ch1 (f : ChanEng → ChanEng) (L : LaneSt) : LaneSt := { L with flock := { L.flock with chA := f L.flock.chA } }
def fl1 (f : FlockEng → FlockEng) (L : LaneSt) : LaneSt := { L with flock := f L.flock }
def syncd (L : LaneSt) : LaneSt := { L with time := { L.time with synced := true } }

def upBack (b : Nat) : LaneSt := ch1 (fun x => { x with backoff := some b }) (upWelor .sync)
def upClaims (n : Nat) : LaneSt := ch1 (fun x => { x with claims := [{ slot := 5, node := 41, holder := true, lastClaim := none, silent := n }] }) (upWelor .sync)
/-- Lane 2 in the window of the own slot 3. -/
def up2 (m : Nat) : LaneSt :=
  let L := ch1 (fun x => { x with bgeReleased := false, bge := true, bgeMiss := m }) (upWelor .sync)
  { L with time := { L.time with flock := BitVec.ofNat 32 (2 * L.host.run.slotLen .A) } }

theorem wit_ClaimsAndGander :
    up.running = true
    ∧ (LaneSt.onFlock .l0 .A (upBack 1) = true ∧ ((upBack 1).chan .A).backoff ≠ some 0)
    ∧ (LaneSt.onFlock .l0 .A (upBack 0) = true ∧ ((upBack 0).chan .A).backoff = some 0 ∧ txLane .A = .l0 ∧ txLane .B ≠ .l0 ∧ ((upBack 0).chan .A).synced = true
      ∧ ((upBack 0).host.run.item Item.flockClaim).getLsbD Channel.A.num = true ∧ ((upBack 0).chan .A).held = 0
      ∧ ((upBack 0).chan .A).claiming = none ∧ freeSpare (upBack 0).host.run .A ((upBack 0).chan .A) = some 5)
    ∧ (LaneSt.onFlock .l0 .A (upClaims 16) = true ∧ ((upClaims 16).chan .A).claimOf 5 = some { slot := 5, node := 41, holder := true, lastClaim := none, silent := 16 }
      ∧ ((upClaims 15).chan .A).claimOf 5 = some { slot := 5, node := 41, holder := true, lastClaim := none, silent := 15 })
    ∧ (LaneSt.onFlock .l2 .A (up2 1) = true ∧ ((up2 1).chan .A).bgeReleased = false ∧ mayOpen .A (up2 1) = true ∧ ((up2 1).chan .A).bge = true
      ∧ ((up2 1).chan .A).bgeMiss = 1)
    ∧ (Ready 0x0620 c0 [0, 0, 0, 0] (dev (upWelor .sync)) ∧ (upWelor .sync).minimal = false ∧ ((upWelor .sync).chan .B).txLost = false
      ∧ ((upWelor .sync).chan .B).rxLost = false ∧ LaneSt.onFlock .l0 .A (upWelor .sync) = true
      ∧ Ready 0x0620 ⟨.l0, .spi .l0, 7, []⟩ [1, 0, 0, 0] (dev (upWelor .sync))
      ∧ (({ upWelor .sync with flock := { (upWelor .sync).flock with chB := { txLost := true } } }).chan .B).txLost = true) := by unfold Ready; decide +kernel

/-- A safe-signal record of signal 0x12345 with SEQ 7 and VALID 0. -/
def safeBytes : List Byte :=
  let b : List Byte := [0x12, 0x34, 0x50, 0, 0, 7, 0, 0, 0, 0, 0, 1]
  b ++ be32 (crc32c (be16 41 ++ b))

/-- A static frame of node 41 in slot 4, and a dynamic frame of slot 49 with a command fragment. -/
def fr (slot : Nat) (pay : List Byte) : RxFrame :=
  { bytes := Frame.bytes { slot := slot, cycle := 0, source := 41, payload := pay }, dev := 0, slot := slot, endsInSlot := true, decodable := true }
def frag : List Byte := [0, 40, 1, 9, 0x10, 0, 0, 4, 1, 2, 3, 4]
def upDyn : LaneSt := ch1 (fun x => { x with slotCounter := 49, mini := 1 }) (syncd (upWelor .sync))

theorem wit_FlockReception_safe :
    (up.running = true ∧ safeBytes.length = 16 ∧ sigAt safeBytes 0 = 0x12345
      ∧ (upWelor .sync).host.run.subs.find? (fun e => e.sig == sigAt safeBytes 0) = some ⟨0x12345, 41⟩
      ∧ crc32c (be16 41 ++ safeBytes.take 12) = rd32be safeBytes 12 ∧ rd16be safeBytes 4 = 7 ∧ (byteAt safeBytes 3).getLsbD 0 = false)
    ∧ (let b := safeBytes.take 15 ++ [safeBytes.getD 15 0 + 1]
      b.length = 16 ∧ sigAt b 0 = 0x12345 ∧ crc32c (be16 41 ++ b.take 12) ≠ rd32be b 12)
    ∧ Store.find (upWelor .sync).flock.seqs 0x12345 ≠ some (7 : Half)
    ∧ Store.find (fl1 (fun f => { f with seqs := [(0x12345, 7)] }) (upWelor .sync)).flock.seqs 0x12345 = some (7 : Half) := by decide +kernel

theorem wit_FlockReception_static :
    (LaneSt.onFlock .l0 .A (syncd (upWelor .sync)) = true ∧ (syncd (upWelor .sync)).clocked = true ∧ (syncd (upWelor .sync)).attempting = false
      ∧ ((syncd (upWelor .sync)).chan .A).claiming = none ∧ (syncd (upWelor .sync)).flock.integStep = 0 ∧ (syncd (upWelor .sync)).time.synced = true)
    ∧ ({ fr 4 (zeros 48) with decodable := false }.decodable = false ∧ absI 101 > (upWelor .sync).host.run.nat Item.precision
      ∧ frameCrcOk (zeros 11) = false ∧ ¬(absI 100 > (upWelor .sync).host.run.nat Item.precision))
    ∧ (frameCrcOk (fr 4 (zeros 48)).bytes = true ∧ Frame.ofBytes (fr 4 (zeros 48)).bytes = { slot := 4, cycle := 0, source := 41, payload := zeros 48 }
      ∧ sourceOk (upWelor .sync).host.run .A ((upWelor .sync).chan .A) { slot := 4, cycle := 0, source := 41, payload := zeros 48 } = true
      ∧ (upWelor .sync).host.run.payload .A = 48 ∧ (41 : Half) ≠ (upWelor .sync).host.run.nodeId)
    ∧ (((upWelor .sync).host.run.schedEnt .A 5).spare = true ∧ ((upWelor .sync).host.run.schedEnt .A 4).spare = false
      ∧ sourceOk (upWelor .sync).host.run .A ((upWelor .sync).chan .A) { slot := 5, cycle := 0, source := 42, payload := zeros 48 } = false)
    ∧ sourceOk (upWelor .sync).host.run .A ((upWelor .sync).chan .A) { slot := 3, cycle := 0, source := 40, payload := zeros 48 } = true
    ∧ (40 : Half) = (upWelor .sync).host.run.nodeId := by decide +kernel

theorem wit_FlockReception_dynamic :
    (LaneSt.onFlock .l0 .A upDyn = true ∧ upDyn.clocked = true ∧ upDyn.time.synced = true ∧ (upDyn.chan .A).rxLost = false ∧ (upDyn.chan .A).txLost = false)
    ∧ (frameCrcOk (fr 49 frag).bytes = true ∧ Frame.ofBytes (fr 49 frag).bytes = { slot := 49, cycle := 0, source := 41, payload := frag }
      ∧ (upDyn.chan .A).slotCounter = 49 ∧ frag.length ≤ upDyn.host.run.nat Item.dynPayload ∧ (byteAt frag 2).toNat % 16 = 1)
    ∧ ((byteAt (frag.set 2 2) 2).toNat % 16 = 2 ∧ frameCrcOk (fr 50 frag).bytes = true ∧ (Frame.ofBytes (fr 50 frag).bytes).slot = 50) := by decide +kernel

theorem wit_FlockReception_fragment :
    (rd16be frag 0 = upDyn.host.run.nodeId ∧ (byteAt frag 2).toNat % 16 = 1 ∧ 8 ≤ frag.length ∧ (9 : Byte) = byteAt frag 3
      ∧ rd16be (frag.set 1 41) 0 ≠ upDyn.host.run.nodeId)
    ∧ (upDyn.host.run.remoteOf 42 = none ∧ upDyn.host.run.remoteOf 41 = some 0)
    ∧ ((∀ j, ((dev upDyn).lane j).flock.seenMsgs = []) ∧ upDyn.flock.reasm.find? (fun r => r.of 41 9) = none
      ∧ (byteAt frag 4).toNat % 16 ≤ (byteAt frag 4).toNat / 16 ∧ 1 ≤ (byteAt frag 4).toNat / 16)
    ∧ (fl1 (fun f => { f with seenMsgs := [(41, 9, 0)] }) upDyn).flock.seenMsgs = [(41, 9, 0)]
    ∧ ((fl1 (fun f => { f with reasm := [⟨41, 9, 2, [], 0⟩], cycles := 16 }) upDyn).flock.reasm = [⟨41, 9, 2, [], 0⟩]
      ∧ (Reasm.of ⟨41, 9, 2, [], 0⟩ 41 9) = true ∧ 0 + 16 ≤ 16) := by
  refine ⟨by decide +kernel, by decide +kernel, ⟨?_, by decide +kernel⟩, by decide +kernel, by decide +kernel⟩
  intro j; cases j <;> decide +kernel

def upInt (k : Option Nat) : LaneSt := fl1 (fun f => { f with attemptCycle := k, integStep := 2, integGot := true }) (upWelor .integrating)
def upQuiet : LaneSt := fl1 (fun f => { f with noSync := 1 }) (syncd (upWelor .sync))
def upSend : LaneSt := ch1 (fun x => { x with slotCounter := 50, mini := 2, dynPending := [frag] }) (syncd (upWelor .sync))

theorem wit_FlockCyclesAndAttempts :
    (flockRuns .l0 (syncd (upWelor .sync)) = true ∧ (syncd (upWelor .sync)).attempting = false ∧ (syncd (upWelor .sync)).clocked = true)
    ∧ (flockRuns .l0 upQuiet = true ∧ upQuiet.time.synced = true ∧ upQuiet.flock.devs = [] ∧ 1 ≤ upQuiet.flock.noSync ∧ (upQuiet.chan .A).state ≠ .singleSync)
    ∧ (flockRuns .l0 (upInt none) = true ∧ (upInt none).attempting = false ∧ (upInt none).time.synced = false ∧ (upInt none).flock.attemptCycle = none
      ∧ (upInt none).flock.integStep = 2 ∧ (upInt none).flock.integGot = true ∧ (upInt none).flock.integBad = false)
    ∧ (flockRuns .l0 (upInt (some 3)) = true ∧ (upInt (some 3)).attempting = false ∧ (upInt (some 3)).time.synced = false)
    ∧ (LaneSt.onFlock .l0 .A upSend = true ∧ upSend.flock.attemptCycle = none ∧ txLane .A = .l0 ∧ upSend.eng.healthy.get .l0 = true
      ∧ (upSend.chan .A).synced = true ∧ upSend.host.run.ownSlot .A 3 = true ∧ txLane .A ≠ .l2)
    ∧ (upSend.clocked = true ∧ (upSend.chan .A).mini ≠ 0 ∧ (upSend.chan .A).dynFrameEnd = none ∧ transmits .l0 upSend = true
      ∧ upSend.host.run.nat Item.dynSlot = (upSend.chan .A).slotCounter + 1 ∧ (upSend.chan .A).dynPending = [frag]
      ∧ fitsSegment upSend.host.run .A ((upSend.chan .A).mini + 1) frag.length = true ∧ ((syncd (upWelor .sync)).chan .A).mini = 0)
    ∧ (((upWelor .listen).chan .A).state = .listen ∧ LaneSt.onFlock .l0 .A (upWelor .listen) = true ∧ (upWelor .listen).attempting = false
      ∧ (upWelor .listen).host.run.syncSlot .A = some 3 ∧ (upWelor .listen).flock.giveUp = false
      ∧ (upWelor .listen).eng.healthy.get .l0 = true ∧ othersSilent .l0 (dev (upWelor .listen)).lane (upWelor .listen) = true
      ∧ (fl1 (fun f => { f with collisionWait := true }) (upWelor .listen)).flock.collisionWait = true) := by decide +kernel

/-! ## Operating points, sleep and waking -/

def pw (f : PowEng → PowEng) (L : LaneSt) : LaneSt := { L with pow := f L.pow }
def chg (pm cl : Bool) : OpChange := { target := 1, raise := true, cleared := cl, tid := none, pmbus := pm }
def upOp (pm cl : Bool) : LaneSt := pw (fun p => { p with change := some (chg pm cl) }) up
def upWarn (n : Nat) : LaneSt := pw (fun p => { p with vinWarn := true, opRestore := n }) up
def idleGraph (L : LaneSt) : LaneSt := { L with ox := { L.ox with graphState := .none } }

theorem wit_OperatingPoints :
    (Ready 0x0A03 c0 [3, 0, 0, 0] (dev up) ∧ up.ox.graphState = .active ∧ Ready 0x0A03 c0 [1, 0, 0, 0] (dev (upWarn 2)) ∧ (upWarn 2).pow.vinWarn = true)
    ∧ (Ready 0x0A03 c0 [2, 0, 0, 0] (dev up) ∧ up.pow.vinWarn = false ∧ up.pow.change = none ∧ up.pow.op = 2 ∧ up.pow.corePmbus = false
      ∧ Ready 0x0A03 c0 [3, 0, 0, 0] (dev (idleGraph up)) ∧ (idleGraph up).ox.graphState ≠ .active ∧ (idleGraph up).pow.op ≠ 3)
    ∧ (up.powered = true ∧ (upOp false false).pow.change = some (chg false false) ∧ (upOp true true).pow.change = some (chg true true)
      ∧ (0x0002 : Half) &&& 0x8840 = 0 ∧ (0x0040 : Half) &&& 0x8840 ≠ 0 ∧ (upOp true false).pow.change = some (chg true false))
    ∧ (up.start.vinGood = true ∧ (upWarn 2).pow.change = none ∧ (upWarn 2).pow.opRestore = (upWarn 2).pow.op
      ∧ (upWarn 1).pow.opRestore < (upWarn 1).pow.op) := by unfold Ready; decide +kernel

/-- A replicated POWER_SLEEP that lane 1 coordinates, at work on lane 0. -/
def sleepTk (blk : List Byte) : Task :=
  { tk 0x0A01 with pkt := pk 0x0A01 blk, started := false, origin := .l1 }
def upSleep (doms : Byte) (L : LaneSt) : LaneSt := { L with host := { L.host with tasks := [sleepTk [3, doms, 0, 0]] } }
def shk (co : LaneId) (b : Option SleepAns) (a2 : Bool) : Handshake :=
  { lanes := ⟨true, true, a2⟩, domains := [.flock], target := .retention, stopped := [.flock], coordinator := co, answers := ⟨some .agree, b, none⟩, tid := none }
def upShake (co : LaneId) (a2 : Bool) : LaneSt :=
  pw (fun p => { p with pd := Store.write .off p.pd Domain.flock.num .onStopped, shake := some (shk co none a2) }) up
def wak (n : Nat) : Waking := { domains := [.flock], step := n, tids := [] }
def upWake (n : Nat) (r : Rung) : LaneSt := pw (fun p => { p with pd := Store.write .off p.pd Domain.flock.num r, waking := some (wak n) }) up
def upOff : LaneSt := pw (fun p => { p with pd := Store.write .off p.pd Domain.cpu.num .retention }) up

theorem wit_SleepAndWaking_commands :
    (Ready 0x0A01 c0 [3, 64, 0, 0] (dev (upSleep 64 up)) ∧ powerBlock [3, 64, 0, 0] 2 = true ∧ sleepMoves [3, 64, 0, 0] (upSleep 64 up) = false
      ∧ (upSleep 64 up).originOf .l0 7 ≠ .l0 ∧ (3 : Byte).getLsbD LaneId.l0.num = true ∧ (3 : Byte).getLsbD LaneId.l2.num = false
      ∧ sleepCheck .l0 7 (Domain.ofMask 64) (upSleep 64 up) = .agree)
    ∧ (Ready 0x0A01 c0 [3, 64, 0, 0] (dev (upSleep 64 (fl1 (fun f => { f with reasm := [⟨41, 9, 2, [], 0⟩] }) up)))
      ∧ sleepCheck .l0 7 (Domain.ofMask 64) (upSleep 64 (fl1 (fun f => { f with reasm := [⟨41, 9, 2, [], 0⟩] }) up)) = .refuse .flock 7)
    ∧ (Ready 0x0A01 c0 [3, 8, 0, 0] (dev (upSleep 8 { up with mot := { up.mot with enabled := true } }))
      ∧ sleepMoves [3, 8, 0, 0] (upSleep 8 { up with mot := { up.mot with enabled := true } }) = true)
    ∧ (let L := { up with host := { up.host with tasks := [{ sleepTk [3, 64, 0, 0] with origin := .l0 }] } }
      Ready 0x0A01 c0 [3, 64, 0, 0] (dev L) ∧ L.originOf .l0 7 = .l0 ∧ sleepMoves [3, 64, 0, 0] L = false
      ∧ (3 : Byte).getLsbD LaneId.l1.num = true ∧ sleepCheck .l0 7 (Domain.ofMask 64) L = .agree)
    ∧ (Ready 0x0A02 c0 [1, 64, 0, 0] (dev (pw (fun p => { p with pd := Store.write .off p.pd Domain.flock.num .off }) up)) ∧ powerBlock [1, 64, 0, 0] 0 = true
      ∧ Domain.ofMask 64 = [.flock] ∧ up.pow.waking = none ∧ up.pow.shake = none) := by unfold Ready; decide +kernel

theorem wit_SleepAndWaking_messages :
    ((upShake .l0 false).running = true ∧ (upShake .l0 false).pow.shake = some (shk .l0 none false) ∧ (shk .l0 none false).lanes.get .l1 = true
      ∧ (shk .l0 none false).answers.get .l1 = none ∧ (shk .l0 none false).lanes.get .l2 = false ∧ (shk .l0 none false).answers.get .l0 = some .agree
      ∧ (shk .l0 none true).lanes.get .l2 = true ∧ (shk .l0 none true).answers.get .l2 = none
      ∧ sleepLost .l0 (shk .l0 none false) (upShake .l0 false) = none
      ∧ sleepLost .l0 (shk .l0 none false) { upShake .l0 false with eng := { up.eng with down := ⟨false, true, false⟩ } } ≠ none)
    ∧ ((upShake .l1 false).alive = true ∧ (upShake .l1 false).pow.shake = some (shk .l1 none false) ∧ (upShake .l1 false).dom .flock = .onStopped)
    ∧ ((upWake 0 .off).powered = true ∧ (upWake 0 .off).pow.waking = some (wak 0) ∧ (upWake 3 .onStopped).dom .flock ≠ .off ∧ (wak 1).step = 1
      ∧ Domain.flock ∈ (wak 0).domains)
    ∧ (upOff.powered = true ∧ upOff.start.inReset = false ∧ upOff.start.bist = none ∧ upOff.start.shutting = none ∧ upOff.pow.waking = none
      ∧ upOff.pow.shake = none ∧ wakeEnabled 0 upOff = true ∧ wakeEnabled 1 upOff = true ∧ wakeEnabled 2 upOff = true ∧ upOff.dom .cpu ≠ .on
      ∧ receives .l0 .A = true ∧ ({ up with start := { up.start with phase := .poweredDown } }).shut = true) := by decide +kernel

/-! ## Start-up and resets -/

def st (f : StartEng → StartEng) (L : LaneSt) : LaneSt := { L with start := f L.start }
def im (g : BitVec 24) (a : BitVec 2) : Image := { gen := g, conf := {}, colt := ({ action := a } : ColtRec).sealed }
/-- Supplied, with VIN good, before the core supply; lane images of generation 2 and 1. -/
def upVin (a : BitVec 2) : LaneSt :=
  { start := { supplied := true, vinGood := true, imgA := some (im 2 a), imgB := some (im 1 a) }, gate := { stoHigh := true }, mot := { stoHold := false } }
/-- Ready to start the firmware after a reset with a count. -/
def upFw (n : Byte) : LaneSt :=
  st (fun x => { x with inReset := true, phase := .colt, elects := true, bootRing := [(0, { count := n, seq := 0, check := bootCheck n 0 })], testResult := {}, imgA := some (im 2 0), imgB := some (im 1 0) })
    { up with eng := {} }

theorem wit_ResetsAndColdStart :
    (State.reset.lane .l0).start.supplied = false
    ∧ (up.start.supplied = true ∧ (st (fun x => { x with phase := .poweredDown, wakeCold := true }) up).shut = true ∧ up.start.bist = none)
    ∧ ((upVin 0).start.supplied = true ∧ (upVin 0).start.vinGood = true ∧ (upVin 0).start.coreReady = false ∧ (upVin 0).start.testEn = false
      ∧ (upVin 0).start.phase = .cold ∧ (upVin 0).pow.corePmbus = false ∧ chosenColt (upVin 0).start = some (im 2 0).colt ∧ (im 2 0).colt.action = 0
      ∧ ([(5, EccOutcome.double 3)].any fun w => foundBad (upVin 0) 1 w.1 w.2) = true
      ∧ chosenColt (upVin 1).start = some (im 2 1).colt ∧ (im 2 1).colt.action = 1 ∧ (upVin 1).gate.stoHigh = true ∧ (upVin 1).mot.stoHold = false)
    ∧ ((st (fun x => { x with coltOn := true, coltFast := true }) up).start.coltFast = true
      ∧ coltHallOk (st (fun x => { x with coltRec := some { halls := true }, coltHall := some 1 }) up) = true ∧ up.start.coltOn = false)
    ∧ (up.powered = true ∧ up.alive = true) := by decide +kernel

def annd : Tri (Option Announced) := ⟨some ⟨2, false, 0⟩, some ⟨2, false, 0⟩, none⟩
def upEl : LaneSt := { st (fun x => { x with phase := .announced, elects := true }) up with eng := { announced := annd, electionOpen := true } }

def bis (n : Nat) : BistRun := { step := n, res := {}, tid := none, keepPower := false, abandon := none }

theorem wit_StartAndShutdown :
    (mayStart up = false ∧ (upFw 3).start.bootKept = 3 ∧ mayStart (upFw 3) = true ∧ mayStart (upFw 2) = true ∧ (upFw 2).start.fa = false ∧ (upFw 2).start.testEn = false ∧ (upFw 2).start.testResult.status ≠ 1
      ∧ (upFw 2).start.elects = true ∧ roleHeld .l0 (dev (upFw 2)).lane = false ∧ (upFw 2).start.imgA = some (im 2 0) ∧ (upFw 2).start.imgB = some (im 1 0))
    ∧ (upEl.powered = true ∧ upEl.start.fa = false ∧ upEl.eng.role = .none ∧ upEl.eng.lead = none ∧ upEl.eng.electionOpen = true)
    ∧ (upEl.running = true ∧ (upEl.eng.announced.get .l0).isSome = true ∧ upEl.minimal = false ∧ LaneId.l0 ∈ upEl.eng.members
      ∧ mayLead upEl.host.run upEl.eng.members = [.l0, .l1])
    ∧ (upEl.start.phase ≠ .full ∧ upEl.start.elects = true ∧ (st (fun x => { x with elects := false }) upEl).start.elects = false
      ∧ (st (fun x => { x with elects := false }) upEl).start.cold = false ∧ upEl.start.startKind ≠ 5)
    ∧ (Ready 0x0B01 c0 [] (dev up) ∧ up.minimal = false ∧ Ready 0x0B01 c0 [] (dev (st (fun x => { x with phase := .minimal }) up))
      ∧ (st (fun x => { x with phase := .minimal }) up).minimal = true)
    ∧ (Ready 0x0B02 c0 [] (dev up) ∧ up.mot.enabled = false ∧ up.safe.ss1 = none ∧ up.start.shutting = none
      ∧ Ready 0x0B02 c0 [] (dev { up with mot := { up.mot with enabled := true } }))
    ∧ (Ready 0x0B03 c0 [1, 0, 0, 0] (dev up) ∧ (1 : Byte).getLsbD LaneId.l0.num = true ∧ up.eng.healthy = ⟨true, true, true⟩ ∧ up.start.bist = none
      ∧ up.start.bistWait = false ∧ up.start.shutting = none)
    ∧ (keyoffNow .l0 (dev up).lane (st (fun x => { x with keyoff := true }) up) = true ∧ keyoffNow .l0 (dev up).lane up = false)
    ∧ ((st (fun x => { x with phase := .shutdownTest, bist := some (bis 5) }) up).start.supplied = true ∧ (bis 5).abandon = none ∧ (bis 5).step < 6
      ∧ (bis 6).step = 6 ∧ (bis 6).keepPower = false) := by unfold Ready; decide +kernel

theorem wit_SampleAndRelease : up.samples = true ∧ up.ox.staged.duties = none ∧ up.ox.staged.sinks = []
    ∧ ({ up.ox.staged with duties := some ⟨0, 0, 0⟩ }).duties = some ⟨0, 0, 0⟩ ∧ (idleGraph up).samples = true ∧ (idleGraph up).ox.graphState ≠ .active := by
  decide +kernel

/-! ## The step -/

theorem wit_StepKeepsQueueWellFormed : State.reset.QueueWf ∧ ({ State.reset with pending := [.supplyLoss .l0] } : State).QueueWf := by
  constructor
  · intro i h; cases h
  · intro i h; simp at h; subst h; rfl

theorem wit_IdleStepPassesTime : State.reset.pending = [] := rfl

/-! ## Witnesses of the further clauses -/

theorem wit_IdleStepPassesTime_clauses : (dev up).pending = [] ∧ ((dev up).lane .l1).start.supplied = true
    ∧ (State.reset.lane .l1).start.supplied = false := by decide +kernel

theorem wit_SpiWriteFollowsSequence_window : upS.eqRecords .l0 ≤ 1024 ∧ upS.int.parityHits = []
    ∧ ¬(upS.host.seqSynced = true ∧ (7 : Byte) = upS.host.lastSeq + 1) := by decide +kernel

theorem wit_PortKeepsWindowCanonical_forced :
    ({ up with gate := { up.gate with forcedOff := true } }.gate.forcedOff = true ∧ { up with gate := { up.gate with stoHigh := false } }.gate.stoHigh = false)
    ∧ (startsLane .l0 (.laneDownSymbol .l0 .l1) = false ∧ startsLane .l0 (.supplyLoss .l1) = false ∧ startsLane .l0 (.supplyLoss .l0) = true)
    ∧ { up with mot := { up.mot with energised := true } }.EnergisedOk := by unfold LaneSt.EnergisedOk; decide +kernel

theorem wit_RecordOpcodesReturnRecords_noGraph : Ready 0x0204 c0 [] (dev { up with ox := { up.ox with graphState := .none } }) := by
  unfold Ready; decide +kernel

/-- A packet of one opcode with flags, a segment field and a total length, its CRC right. -/
def packetOf (lo hi seg fl : Byte) (len : Half) : List Byte :=
  let h : List Byte := [lo, hi, 1, 0] ++ le16 len ++ [seg, fl, 0, 0, 0, 0]
  h ++ le32 (crc32c (h ++ zeros 4))
def upX (b : List Byte) : LaneSt := { upP b with eng := { up.eng with excluded := true } }

theorem wit_AdmissionChecksThePacket_refused :
    (Offered .l0 (upP (packetOf 0x01 0x01 0x10 16 16)) 1 (slotBytes .l0 (upP (packetOf 0x01 0x01 0x10 16 16)) 0)
      ∧ packetFault up 16 (pkOf .l0 (packetOf 0x01 0x01 0x10 16 16)) = some stBadParam)
    ∧ (recordFree .l0 (upP (packet 0x01 0x01)) = true ∧ FlowFree .l0 (upP (packet 0x01 0x01)) ∧ recordFree .l0 (report .l0 0x59 0 0 (upP (packet 0x01 0x01))) = true)
    ∧ (let L := { upP (packet 0x03 0x07) with eng := { up.eng with claim := some (.spi .l1) } }
      Offered .l0 L 1 (slotBytes .l0 L 0) ∧ ((opInfo 0x0703).map fun o => (L.priv (.spi .l0)).covers o.priv) = some false)
    ∧ (Offered .l0 (upX (packet 0x03 0x01)) 1 (slotBytes .l0 (upX (packet 0x03 0x01)) 0) ∧ (upX (packet 0x03 0x01)).eng.excluded = true
      ∧ ((opInfo 0x0103).map fun o => o.isLocal) = some false) := by
  unfold Offered Lies FlowFree; decide +kernel

theorem wit_AdmissionChecksThePacket_segments :
    (let L := upP ((packet 0x01 0x01).set 12 7)
      let hd := slotBytes .l0 L 0
      Lies .l0 L hd ∧ segIndex hd = 0 ∧ segCount hd = 1 ∧ totalLen hd = 16 ∧ segCrcOk (totalLen hd) 0 ((segments .l0 L 1).getD 0 []) = false
        ∧ L.host.cqHeld = 1)
    ∧ (let L := upP (packetOf 0x01 0x01 0x10 0 8)
      let hd := slotBytes .l0 L 0
      Lies .l0 L hd ∧ segCount hd = 1 ∧ segCrcOk (totalLen hd) 0 ((segments .l0 L 1).getD 0 []) = true ∧ segsAgree hd (segments .l0 L 1) = false)
    ∧ (let hd := slotBytes .l0 (upP (packetOf 0x01 0x01 0x50 0 1040)) 0
      segIndex hd = 0 ∧ 4 < segCount hd ∧ 1024 < totalLen hd)
    ∧ segIndex (slotBytes .l0 (upP (packetOf 0x01 0x01 0x11 0 16)) 0) ≠ 0 := by
  unfold Lies; decide +kernel

theorem wit_LoadsStageOnly_noTransaction :
    (up.host.trans.any fun t => t.owner == c0.sender) = false ∧ (upT.host.trans.any fun t => t.owner == c1.sender) = false
    ∧ Ready 0x0201 c0 ([9] ++ zeros 63) (dev up) ∧ Ready 0x0202 c0 (le16 24575 ++ [1, 0, 0, 0, 0, 0] ++ le32 3) (dev up)
    ∧ Ready 0x0203 c0 ([5, 7, 0, 0] ++ le32 3) (dev up) ∧ Ready 0x0601 c0 ([0, 0] ++ le16 1023 ++ [1, 0, 0, 0] ++ le16 40 ++ [14, 0]) (dev up)
    ∧ Ready 0x0602 c0 (([0, 0, 1, 0, 0, 0, 0, 0] : List Byte) ++ le24 (((0xFFFFF#20).setWidth 24) <<< 4) ++ [0] ++ le16 40 ++ [0, 0]) (dev up)
    ∧ Ready 0x0603 c0 (([0, 0, 1, 0, 0, 0, 0, 0] : List Byte) ++ le24 (((1#20).setWidth 24) <<< 4) ++ [0] ++ le16 1 ++ le16 0x7FF) (dev up) := by
  unfold Ready; decide +kernel

def upApply (st : Bool) : LaneSt :=
  { upW with host := { upW.host with applyGen := some 5, applyWant := some { want0 with structural := st } } }

theorem wit_CommitInTwoPhases_sample :
    (upApply true).samples = true ∧ (upApply true).host.applyGen = some 5 ∧ (upApply true).eng.rejoin = none
    ∧ commitEnded .l0 (dev (upApply true)).lane (upApply true) = false ∧ (upApply true).eng.debugReq ≠ some false
    ∧ (upApply true).start.phase = .full := by decide +kernel

theorem wit_LearningPasses_event : upL.running = true ∧ upL.eng.healthy.get .l0 = true := by decide +kernel

def upTap (h : Bool) : LaneSt := { up with start := { up.start with trstHigh := h, tap := .idcode, tdo := List.replicate 32 true } }

theorem wit_DebugCommands_tap : (upTap true).start.trstHigh = true ∧ (upTap false).start.trstHigh = false ∧ (upTap true).start.tap = .idcode
    ∧ (upTap true).running = true ∧ (upTap true).start.supplied = true ∧ (upTap true).start.tdo.length = 32
    ∧ (∀ b, TapInstr.extest ≠ .trst b) := by decide +kernel

/-- Lane 0 decides: a lane of three down, a new fault in Mule mode, no fault, and each with the position known or not. -/
def upDec (mule : Bool) (ok : Bool) : LaneSt :=
  { upMule with safe := { upMule.safe with mule := mule, state := if mule then .mule else .full, faults := [⟨.lane, .l1, 0, 0x20⟩] },
                sen := { upMule.sen with votedPosOk := ok } }

theorem wit_SafeStateTimers_decide :
    ((upDec false true).eng.excluded = false ∧ (upDec false true).safe.state ≠ .stopped ∧ (upDec false true).safe.state ≠ .colt)
    ∧ (stopCheck .l0 (upDec false true) = none ∧ muleConds .l0 (upDec false true) ≠ 0 ∧ muleConds .l0 up = 0 ∧ stopCheck .l0 up = none)
    ∧ (newFault (muleConds .l0 (upDec true true)) (upDec true true) = true ∧ canControl .l0 (upDec true true) = true
      ∧ stopCheck .l0 (upDec true true) = none ∧ (upDec true true).host.run.ss1Ref.isSome = true ∧ (upDec true true).safe.ss1 = none)
    ∧ (newFault (muleConds .l0 (upDec true false)) (upDec true false) = true ∧ canControl .l0 (upDec true false) = false)
    ∧ (newFault (muleConds .l0 upMule) upMule = false ∧ stopCheck .l0 upMule = none)
    ∧ (stopCheck .l0 { up with gate := { up.gate with stoHigh := false }, eng := { up.eng with healthy := ⟨true, false, false⟩ } }).isSome = true := by
  decide +kernel

/-- An SS1 run that stands at 0, with the counts of three samples. -/
def runOf (viol still invalid : Nat) (decel margin stand : Word) : Ss1Run :=
  { ss1 with n0 := some 0, viol := viol, still := still, invalid := invalid, decel := decel, margin := margin, stand := stand }

theorem wit_SafeStateTimers_ss1 :
    let c := up.host.run
    let late := fun (r : Ss1Run) => decide (absI (0 : Word).toInt * 400000000 + r.textra * 400000 * r.decel.toInt
      < ((r.t + 1 : Nat) : Int) * (c.tf25 * c.nat Item.medDiv) * r.decel.toInt)
    let inside := fun (n : Word) (r : Ss1Run) => decide (absI n.toInt ≤ nRef c r.decel.toInt (0 : Word).toInt (r.t + 1) + r.margin.toInt)
    ss1.n0 = none ∧ (inside 5 (runOf 1 0 0 0 0 0) = false) ∧ (inside 0 (runOf 0 3 0 0 0 0) = true ∧ (runOf 0 3 0 0 0 0).still = 3)
    ∧ (inside 5 (runOf 0 0 0 1 10 1) = true ∧ late (runOf 0 0 0 1 10 1) = true) ∧ (inside 5 (runOf 0 0 0 0 10 1) = true ∧ late (runOf 0 0 0 0 10 1) = false)
    ∧ (late (runOf 0 0 1 0 0 0) = false ∧ (runOf 0 0 1 0 0 0).invalid = 1 ∧ (runOf 0 0 0 0 0 0).invalid = 0) := by decide +kernel

theorem wit_SafeStateTimers_sto :
    { upM with safe := { upM.safe with stoReq := true } }.samples = true ∧ upM.eng.rejoin = none ∧ upM.eng.debugReq = none := by decide +kernel

theorem wit_HerdlineMessages_slew : 1000 ≤ upMsgs.time.slewUs ∧ { upMsgs with time := { upMsgs.time with slewUs := 999 } }.time.slewUs < 1000 := by
  decide +kernel

/-- Lane 0 has its own torque and the records of lanes 1 and 2. -/
def upTq (lead : LaneId) (own : Word) : LaneSt :=
  { upMsgs with eng := { upMsgs.eng with healthy := ⟨true, true, true⟩, lead := some lead, tqOwn := own,
                                         recs := ⟨none, some ⟨rec1, 100, 100⟩, some ⟨{ rec1 with lane := 2 }, 100, 100⟩⟩ } }

theorem wit_DisagreementsReachTheirCount_votes :
    (LaneId.l0 ≠ .l1 ∧ absI (5 - 3) ≤ 2 ∧ (2 : Int) < absI (9 - 3))
    ∧ ((.l0, 0) ∈ tqVotes .l0 100 (upTq .l0 0) ∧ (.l1, 0) ∈ tqVotes .l0 100 (upTq .l0 0) ∧ absI (0 - 0) ≤ (upTq .l0 0).host.run.int Item.tqWin)
    ∧ (tqVotes .l0 100 (upTq .l0 0x7FFFFFFF) = [(.l0, 0x7FFFFFFF), (.l1, 0), (.l2, 0)]
      ∧ (upTq .l0 0x7FFFFFFF).host.run.int Item.tqWin < absI (0x7FFFFFFF - 0))
    ∧ (∀ p ∈ tqVotes .l0 100 { upTq .l1 0 with eng := { (upTq .l1 0).eng with recs := ⟨none, none, none⟩ } }, p.1 ≠ .l1)
    ∧ (mixedGen .l0 100 (upTq .l0 0) = false ∧ missingOne .l0 100 (fun _ _ => true) (upTq .l0 0) = false) := by decide +kernel

def upDisS (three : Bool) : LaneSt :=
  { upDis three with eng := { (upDis three).eng with spdIn := ⟨true, true, three⟩, spdCnt := ⟨255, 255, 0⟩ } }

theorem wit_DisagreementsReachTheirCount_speed :
    (upDisS true).host.run.nat Item.spdCount ≤ ((upDisS true).eng.spdCnt.get .l0).toNat ∧ (upDisS true).eng.spdIn = ⟨true, true, true⟩
    ∧ (upDisS true).hasSc .l0 = true ∧ (upDisS true).sen.scLost = false ∧ (upDisS false).eng.spdIn.lanes.length = 2 := by decide +kernel

theorem wit_FlockCyclesAndAttempts_otherSlots :
    upSend.host.run.ownSlot .A 4 = false ∧ (upSend.chan .A).claimSlot ≠ some 4 ∧ (upSend.chan .A).held.toNat ≠ 4 := by decide +kernel

theorem wit_OperatingPoints_queued :
    Ready 0x0A03 c0 [2, 0, 0, 0] (dev (upOp false false)) ∧ (upOp false false).pow.vinWarn = false ∧ (chg false false).raise = true
    ∧ up.pow.nextOp = [] ∧ (upOp true true).pow.nextOp = [] := by unfold Ready; decide +kernel

theorem wit_StartAndShutdown_images :
    (upFw 2).start.goodA = some (im 2 0) ∧ (upFw 2).start.goodB = some (im 1 0) ∧ (im 1 0).gen.toNat ≤ (im 2 0).gen.toNat ∧ (upFw 2).int.poisoned = []
    ∧ (upFw 2).start.bootKept = 2 ∧ upEl.start.testEn = false ∧ up.keyoffAlive = true := by decide +kernel

/-- A record of each type that has a clause, with the limits the right way round. -/
def recT (t : Byte) (nin : BitVec 4) : NodeRec := { NodeRec.empty with typ := t, nin := nin, ps := [5, 2, 0, 9, 1, 9, 1] }

theorem wit_SampleAndRelease_nodes :
    ((recT 0x09 1).pI 1 ≤ (recT 0x09 1).pI 0 ∧ (recT 0x0B 2).mode = 0 ∧ (recT 0x0B 2).arbiter = false ∧ (recT 0x05 2).mode ≠ 1 ∧ (recT 0x05 2).nin = 2)
    ∧ ((recT 0x07 1).t = 0x07 ∧ (recT 0x07 1).pI 4 ≤ (recT 0x07 1).pI 3 ∧ (recT 0x07 1).pI 6 ≤ (recT 0x07 1).pI 5)
    ∧ (Nodes.st [] 5).first = true ∧ (Nodes.st [] 5).manual = none ∧ (Nodes.st [] 5).kpOld = none ∧ (Nodes.st [] 5).devPreset = none
    ∧ (Nodes.st [] 5).herdSet = none ∧ (Nodes.st [(5, { first := false, manual := some 3 })] 5).first = false
    ∧ (Nodes.st [(5, { first := false, manual := some 3 })] 5).manual = some 3
    ∧ absI 3 ≤ (recT 0x10 1).pI 0 ∧ (recT 0x10 1).pI 0 < 7 ∧ 0 ≤ (recT 0x10 1).pI 0 := by decide +kernel

theorem wit_SampleAndRelease_poison :
    let r := { recT 0x04 1 with ins := [{ node := 6, connected := true }] }
    let e : OxEnv := { conf := { graph := [(5, r)] }, poisonedTable := [], part := 0 }
    (e.conf.node 5 = r ∧ Store.wf ({} : NodeSt) [] = true ∧ e.depth = false ∧ e.badNodes = [])
    ∧ anyPoison e [] [] r = false ∧ anyPoison e [] [(6, { cur := { poison := 1 } })] r = true
    ∧ Store.wf ({} : NodeSt) [(6, { cur := { poison := 1 } })] = true := by decide +kernel

end Sys2Proof.Tests
end

section

namespace Sys2Proof.Machine

/-! ## The idle step and a committed sleep (13 R417, R419) -/

/-- POWER_SLEEP of PD_FLOCK and PD_HOST to Off, received by lane 0 for itself: lane 0 has agreed and committed, PD_FLOCK has stopped its clock
in the prepare, and the entry waits for the release of the command's completion (11 R364). -/
def committedSleep : Handshake :=
  { lanes := ⟨true, false, false⟩, domains := [.flock, .host], target := .off, stopped := [.flock], coordinator := .l0,
    answers := ⟨some .agree, none, none⟩, tid := some 7, committed := true }

/-- A supplied lane in full function, synchronised to its flock, whose committed sleep has had its completion released: no task 7 stands. -/
def fallingAsleep : LaneSt :=
  { start := { supplied := true, vinGood := true, coreReady := true, inReset := false, phase := .full },
    pow := { pd := Store.write .off allOn Domain.flock.num .onStopped, shake := some committedSleep },
    time := { synced := true } }

/-- The device before its first supply, but for lane 0 falling asleep; its queue is empty. -/
def sleepDevice : State := State.reset.setLane .l0 fallingAsleep

/-- With an empty queue a step is the tick. -/
theorem step_of_pending_nil {s : State} (h : s.pending = []) : step s = .next (tick s) := by
  unfold step; rw [h]

/-- The tick enters the committed sleep: PD_FLOCK goes to Off and loses its state, so the lane is synchronised no longer (R417). -/
theorem synced_tick_sleepDevice : ((tick sleepDevice).lane .l0).time.synced = false := by decide +kernel

/-- Refutes O5: on a synchronised lane whose committed POWER_SLEEP takes PD_FLOCK to Off in the idle step, the clocks are not all that changes
of the lane's times; the synchronisation with the flock ends too. -/
theorem not_idleStepPassesTime : ¬ Obligations.IdleStepPassesTime := by
  unfold Obligations.IdleStepPassesTime
  intro h
  obtain ⟨t, hstep, hlanes⟩ := h sleepDevice rfl
  rw [step_of_pending_nil rfl] at hstep
  obtain rfl : tick sleepDevice = t := by injection hstep
  obtain ⟨told, -, htime⟩ := (hlanes .l0).2 rfl
  have hkept : ((tick sleepDevice).lane .l0).time.synced = true := by rw [htime]; rfl
  rw [synced_tick_sleepDevice] at hkept
  exact Bool.false_ne_true hkept

end Sys2Proof.Machine
end

section

namespace Sys2Proof.Machine

/-! ## Opcodes: checks and results (11 R344–R348) -/

@[simp] theorem checked_nil (L : LaneSt) (e : LaneSt × Option LaneRes) : checked [] L e = e := rfl

@[simp] theorem checked_true (st : Byte) (cs : List (Bool × Byte)) (L : LaneSt) (e : LaneSt × Option LaneRes) :
    checked ((true, st) :: cs) L e = checked cs L e := rfl

@[simp] theorem checked_false (st : Byte) (cs : List (Bool × Byte)) (L : LaneSt) (e : LaneSt × Option LaneRes) :
    checked ((false, st) :: cs) L e = (L, some (failRes st)) := rfl

theorem checked_cons {ok : Bool} (h : ok = true) (st : Byte) (cs : List (Bool × Byte)) (L : LaneSt) (e : LaneSt × Option LaneRes) :
    checked ((ok, st) :: cs) L e = checked cs L e := by
  rw [h, checked_true]

/-- A meaning that gives a result ends its command. -/
theorem runOp_ended {code : Half} {c : Ctx} {blk : List Byte} {op : LaneSt → LaneSt × Option LaneRes} {s : State} {M : LaneSt}
    {r : LaneRes} (h : Ready code c blk s) (e : op (s.lane c.lane) = (M, some r)) :
    runOp code c blk op s = .next (ended c s r M) := by
  rw [runOp_eq _ _ _ _ _ h, e]; rfl

/-- A meaning that gives no result leaves its command going. -/
theorem runOp_going {code : Half} {c : Ctx} {blk : List Byte} {op : LaneSt → LaneSt × Option LaneRes} {s : State} {M : LaneSt}
    (h : Ready code c blk s) (e : op (s.lane c.lane) = (M, none)) :
    runOp code c blk op s = .next (going c s M) := by
  rw [runOp_eq _ _ _ _ _ h, e]; rfl

theorem minimalOk_of_not_minimal {L : LaneSt} (code : Half) (h : L.minimal = false) : minimalOk code L = true := by
  simp [minimalOk, h]

/-! ## The latest arrival at a doorbell (10 R328) -/

theorem Store.find_put_same {α : Type} (m : Store α) (k : Nat) (x : α) : Store.find (Store.put m k x) k = some x := by
  induction m with
  | nil => simp [Store.put, Store.find]
  | cons p r ih =>
    obtain ⟨a, v⟩ := p
    unfold Store.put
    split
    · simp [Store.find]
    · split
      · simp [Store.find]
      · rename_i h; simp [Store.find, h, ih]

@[simp] theorem signal_latest (g : Nat) (L : LaneSt) : (signal g L).ev.latest = L.ev.latest := by
  unfold signal raiseIrq
  split
  · rfl
  · split
    · split <;> rfl
    · rfl

@[simp] theorem oweHit_ev (h : ParityHit) (L : LaneSt) : (oweHit h L).ev = L.ev := by
  unfold oweHit spendHit; split <;> rfl

/-- A failed transfer of the window's words touches no event state. -/
theorem ownWrite_ev (first n : Nat) (put : LaneSt → LaneSt) (L : LaneSt) : (ownWrite first n put L).ev = (put L).ev := by
  have keeps : ∀ (f : LaneSt → ParityHit → LaneSt), (∀ M h, (f M h).ev = M.ev) → ∀ hs M, (List.foldl f M hs).ev = M.ev := by
    intro f hf hs
    induction hs with
    | nil => intro M; rfl
    | cons h r ih => intro M; exact (ih _).trans (hf M h)
  unfold ownWrite
  refine keeps _ (fun M h => ?_) _ _
  dsimp only
  split <;> split <;> exact oweHit_ev h M

@[simp] theorem putRecord_latest (me : LaneId) (src n : Byte) (cls : BitVec 3) (u r : Bool) (t : Word) (p : BitVec 64) (L : LaneSt) :
    (putRecord me src n cls u r t p L).ev.latest = L.ev.latest := by
  unfold putRecord; rw [signal_latest, ownWrite_ev]

@[simp] theorem writeSource_latest (me : LaneId) (src : Byte) (r : Bool) (L : LaneSt) :
    (writeSource me src r L).ev.latest = L.ev.latest := by
  unfold writeSource
  split
  · rfl
  · dsimp only
    split
    · rw [putRecord_latest]
    · split <;> rfl

@[simp] theorem dropRecord_latest (src : Byte) (L : LaneSt) : (dropRecord src L).ev.latest = L.ev.latest := by
  unfold dropRecord; split <;> rfl

theorem arriveAt_latest (me : LaneId) (src : Byte) (n : Nat) (cls : BitVec 3) (p : BitVec 64) (t : Word) (u : Bool) (L : LaneSt) :
    (arriveAt me src n cls p t u L).ev.latest = Store.put L.ev.latest src.toNat ⟨cls, p, t, u⟩ := by
  unfold arriveAt
  dsimp only
  split
  · rfl
  · split
    · rw [writeSource_latest]
    · rw [dropRecord_latest]

/-- The doorbell of a running lane takes every arrival of a source that is not device-wide. -/
theorem find_latest_arrive (me : LaneId) (src : Byte) (cls : BitVec 3) (p : BitVec 64) (L : LaneSt) (hrun : L.running = true)
    (hsrc : deviceWide src = false) :
    Store.find (arrive me src cls p L).ev.latest src.toNat = some ⟨cls, p, L.now, L.unsync⟩ := by
  have h : arrive me src cls p L = arriveAt me src 1 cls p L.now L.unsync L := by simp [arrive, hrun, hsrc]
  rw [h, arriveAt_latest, Store.find_put_same]

end Sys2Proof.Machine
end

section

namespace Sys2Proof.Machine

/-! ## The privilege of a setpoint (01 R58, 03 R123) -/

theorem exec_oxSetpoint (c : Ctx) (blk : List Byte) (s : State) :
    exec (.oxSetpoint c blk) s = runOp 0x0210 c blk (opSetpoint c.lane c.tid c.sender blk) s := rfl

/-- OX_SETPOINT of node 5 to 1, by the host of port 0. -/
def setpointBlock : List Byte := [5, 0, 0, 0] ++ le32 0x01000000

def setpointCtx : Ctx := { lane := .l0, sender := .spi .l0, tid := 7 }

/-- A task for it that carries OBSERVER as the privilege of its admission, numbered and about to start. -/
def observerTask : Task :=
  { tid := 7, flow := 0, rn := some 0, origin := .l0, priv := .observer, isLocal := false, waiting := false, late := false,
    part := ⟨true, true, true⟩, results := ⟨none, none, none⟩, slot := none, fin := none, done := false,
    pkt := { sender := .spi .l0, opcode := 0x0210, tag := 0, timed := false, noCompletion := false, fence := false, execAt := 0,
             block := setpointBlock } }

/-- A lane in full function with an active graph: node 5 is a HOST_SP in 0–1 bound to port 0, which holds OWNER. -/
def setpointLane : LaneSt :=
  { start := { supplied := true, vinGood := true, coreReady := true, inReset := false, phase := .full }, pow := { pd := allOn },
    eng := { healthy := ⟨true, true, true⟩, lead := some .l0 }, ox := { graphState := .active }, safe := { state := .full },
    host := { run := { graph := [(5, { NodeRec.empty with typ := 0x01, attr := 1, ps := [100, 0, 0, 0x01000000] })] },
              tasks := [observerTask] } }

def setpointDevice : State := State.reset.setLane .l0 setpointLane

theorem ready_setpointDevice : Ready 0x0210 setpointCtx setpointBlock setpointDevice := by
  unfold Ready; decide +kernel

/-- The privilege of its admission decides (01 R58), not the one that the port holds now. -/
theorem opSetpoint_setpointLane :
    opSetpoint .l0 7 (.spi .l0) setpointBlock setpointLane = (setpointLane, some (failRes stNotPermitted)) := by
  decide +kernel

/-- So the command ends with NOT_PERMITTED. -/
theorem exec_setpointDevice :
    exec (.oxSetpoint setpointCtx setpointBlock) setpointDevice
      = .next (ended setpointCtx setpointDevice (failRes stNotPermitted) setpointLane) := by
  rw [exec_oxSetpoint]
  exact runOp_ended ready_setpointDevice opSetpoint_setpointLane

/-- The node's value for its next execution, after the end that the statement asks for and after the end that the model gives. -/
theorem spNew_setpointDevice :
    ((((ended setpointCtx setpointDevice okRes (updNode 5 (fun x => { x with spNew := some 0x01000000 }) setpointLane)).lane .l0).nst 5).spNew
      = some 0x01000000)
    ∧ (((ended setpointCtx setpointDevice (failRes stNotPermitted) setpointLane).lane .l0).nst 5).spNew = none := by
  decide +kernel

/-- The node is a HOST_SP bound to the port, the port holds OPERATOR or more, the graph is active, nothing stops, and the value lies in
MIN–MAX: every premise of R123 is met now. -/
theorem setpointDevice_allows : let L := setpointDevice.lane .l0
    let r := L.host.run.node 5
    (r.t = tSrc ∧ r.kind = 1 ∧ r.boundTo (.spi .l0) = true) ∧ (L.priv (.spi .l0)).covers .operator = true
    ∧ (L.minimal = false ∧ L.ox.graphState = .active ∧ L.stopping = false)
    ∧ r.pI 2 ≤ (0x01000000 : Word).toInt ∧ (0x01000000 : Word).toInt ≤ r.pI 3 := by
  decide +kernel

/-- Refutes O28: the statement judges the sender by the privilege it holds now, the model a task by that of its admission (01 R58), and no
premise ties the two. A task that carries OBSERVER, of a port that now holds OWNER, ends with NOT_PERMITTED, and its HOST_SP node gets no
value. -/
theorem not_setpointsAndManualMode : ¬ Obligations.SetpointsAndManualMode := by
  unfold Obligations.SetpointsAndManualMode
  intro h
  obtain ⟨⟨hsrc, hkind, hbound⟩, hpriv, ⟨hfull, hactive, hgoes⟩, hmin, hmax⟩ := setpointDevice_allows
  obtain ⟨hset, -⟩ := h setpointCtx 5 0x01000000 setpointDevice
  have hnext := (hset ready_setpointDevice hsrc hkind).1 hbound hpriv hfull hactive hgoes hmin hmax
  have hends := Host.Outcome.next.inj (exec_setpointDevice.symm.trans hnext)
  have hvalue := congrArg (fun t => ((t.lane .l0).nst 5).spNew) hends
  exact absurd (spNew_setpointDevice.2.symm.trans (hvalue.trans spNew_setpointDevice.1)) (by decide)

end Sys2Proof.Machine
end

section

namespace Sys2Proof.Machine

/-! ## The end of a learning pass (03 R128, R129) -/

/-- The two low bytes of a payload are its first two. -/
theorem setWidth_payBytes (a b : Byte) (r : List Byte) : (payBytes (a :: b :: r)).setWidth 16 = b ++ a := by
  unfold payBytes rd64 rd32 rd16
  rw [BitVec.setWidth_append, BitVec.setWidth_append]
  rfl

/-- A pass of node `b` that ends leaves a proposal of one entry per bin, and posts event 0x51 with the node and the outcome. -/
theorem endPass_proposes (me : LaneId) (outcome : Byte) {L : LaneSt} {p : Pass} {b : Byte} (hp : L.learn.pass = some p)
    (hb : p.node = b.toNat) :
    ∃ vs, vs.length = p.bins L.host.run
      ∧ EventOnly { L with learn := { pass := none, proposal := some (b.toNat, vs) } } (endPass me outcome L)
      ∧ (L.running = true → ∃ a, Store.find (endPass me outcome L).ev.latest 0x51 = some a ∧ a.cls = clsInfo
        ∧ a.payload.setWidth 16 = outcome ++ b) := by
  unfold endPass
  simp only [hp, hb, BitVec.ofNat_toNat, BitVec.setWidth_eq]
  refine ⟨_, ?bins, arrive_only _ _ _ _ _, fun hrun => ⟨_, find_latest_arrive me 0x51 _ _ _ hrun rfl, rfl, ?payload⟩⟩
  case bins => simp
  case payload => exact setWidth_payBytes _ _ _

/-- A pass that is aborted drops its sums and any proposal (R129). -/
theorem abortLearn_only (me : LaneId) (L : LaneSt) : EventOnly { L with learn := {} } (abortLearn me L) := by
  unfold abortLearn
  split
  · exact arrive_only _ _ _ _ _
  · exact EventOnly.refl _

/-! ## OX_LEARN_START (03 R126) -/

/-- A block of OX_LEARN_START with every field in its range (11 R347, R348). -/
def LearnStartForm (c : Conf) (blk : List Byte) : Prop :=
  blk.length = 32 ∧ (byteAt blk 2).toNat < 4 ∧ byteAt blk 3 = 0 ∧ zerosAt blk 26 2 = true ∧ (c.node (byteAt blk 0).toNat).learns = true
  ∧ (byteAt blk 2).toNat < (c.node (byteAt blk 1).toNat).outs.length ∧ (c.node (byteAt blk 1).toNat).typ ≠ 0
  ∧ 0 ≤ (rd32 blk 16).toInt ∧ (rd32 blk 16).toInt ≤ qUnit ∧ 0 < (rd32 blk 20).toInt ∧ rd16 blk 24 ≠ 0
  ∧ 1 ≤ (rd32 blk 28).toNat ∧ (rd32 blk 28).toNat ≤ 3600000

/-- The pass that a block asks for, with nothing learnt yet. -/
def passOf (blk : List Byte) : Pass :=
  { node := (byteAt blk 0).toNat, resNode := (byteAt blk 1).toNat, resWord := (byteAt blk 2).setWidth 2, vMin := rd32 blk 4,
    vMax := rd32 blk 8, accMax := rd32 blk 12, gain := rd32 blk 16, stepMax := rd32 blk 20, nMin := (rd16 blk 24).toNat,
    timeMax := (rd32 blk 28).toNat, sums := [], counts := [], lastSpeed := none }

/-- A pass may start: motion is enabled, and neither a pass, Mule mode nor SS1 runs. -/
def LaneSt.mayLearn (L : LaneSt) : Bool := L.learn.pass.isNone && L.mot.enabled && !L.safe.mule && L.safe.ss1.isNone

theorem mayLearn_iff (L : LaneSt) : L.mayLearn = true
    ↔ L.learn.pass = none ∧ L.mot.enabled = true ∧ L.safe.mule = false ∧ L.safe.ss1 = none := by
  simp [LaneSt.mayLearn, and_assoc]

theorem mayLearn_eq_false_iff (L : LaneSt) : L.mayLearn = false
    ↔ L.learn.pass.isSome = true ∨ L.mot.enabled = false ∨ L.safe.mule = true ∨ L.safe.ss1.isSome = true := by
  simp only [LaneSt.mayLearn, Bool.and_eq_false_iff, Bool.not_eq_false', or_assoc, Option.isNone_eq_false_iff]

theorem zerosAt_one {blk : List Byte} {i : Nat} (h : byteAt blk i = 0) : zerosAt blk i 1 = true := by
  unfold zerosAt
  rcases Nat.lt_or_ge i blk.length with hi | hi
  · have hzero : blk[i] = 0 := by simpa [byteAt, hi] using h
    rw [List.drop_eq_getElem_cons hi]
    simp [hzero]
  · simp [List.drop_eq_nil_of_le hi]

/-- With a good block only the lane's state is left to check. -/
theorem opLearnStart_of_form (me : LaneId) (h : Sender) {blk : List Byte} {L : LaneSt} (hblk : LearnStartForm L.host.run blk)
    (hmin : L.minimal = false) :
    opLearnStart me h blk L = checked [(L.mayLearn, stNotInState)] L
      (if L.eng.lead == some me then ({ L with learn := { L.learn with pass := some (passOf blk) } }, some okRes) else (L, some okRes)) := by
  obtain ⟨hlen, hword, hres3, hres26, hlearns, hout, htyp, hgain0, hgain1, hstep, hn, ht0, ht1⟩ := hblk
  unfold opLearnStart
  dsimp only
  rw [checked_cons (by simpa [hlen, hword, zerosAt_one hres3, hres26, hlearns, hout] using htyp),
    checked_cons (by simpa [hgain0, hgain1, hstep, ht0, ht1] using hn), minimalOk_of_not_minimal _ hmin, Bool.true_and]
  rfl

theorem opLearnStart_refused (me : LaneId) (h : Sender) {blk : List Byte} {L : LaneSt} (hblk : LearnStartForm L.host.run blk)
    (hmin : L.minimal = false) (hmay : L.mayLearn = false) : opLearnStart me h blk L = (L, some (failRes stNotInState)) := by
  rw [opLearnStart_of_form me h hblk hmin, hmay, checked_false]

theorem opLearnStart_on_lead (me : LaneId) (h : Sender) {blk : List Byte} {L : LaneSt} (hblk : LearnStartForm L.host.run blk)
    (hmin : L.minimal = false) (hmay : L.mayLearn = true) (hlead : L.eng.lead = some me) :
    opLearnStart me h blk L = ({ L with learn := { L.learn with pass := some (passOf blk) } }, some okRes) := by
  rw [opLearnStart_of_form me h hblk hmin, hmay, checked_true, checked_nil, if_pos (beq_iff_eq.mpr hlead)]

theorem opLearnStart_off_lead (me : LaneId) (h : Sender) {blk : List Byte} {L : LaneSt} (hblk : LearnStartForm L.host.run blk)
    (hmin : L.minimal = false) (hmay : L.mayLearn = true) (hlead : L.eng.lead ≠ some me) :
    opLearnStart me h blk L = (L, some okRes) := by
  rw [opLearnStart_of_form me h hblk hmin, hmay, checked_true, checked_nil, if_neg (hlead ∘ beq_iff_eq.mp)]

/-! ## The other opcodes of a pass -/

/-- The block of OX_LEARN_STOP, _COMMIT and _DISCARD that names a node. -/
def nodeBlock (b : Byte) : List Byte := [b, 0, 0, 0]

@[simp] theorem byteAt_nodeBlock (b : Byte) : byteAt (nodeBlock b) 0 = b := rfl

@[simp] theorem learnBlock_nodeBlock (L : LaneSt) (b : Byte) : learnBlock L (nodeBlock b) = (L.host.run.node b.toNat).learns := by
  simp [learnBlock, nodeBlock, zerosAt, byteAt]

theorem passOn_of_pass {L : LaneSt} {p : Pass} {n : Nat} (hp : L.learn.pass = some p) (hn : p.node = n) : L.passOn n = true := by
  simp [LaneSt.passOn, hp, hn]

theorem proposalOn_of_proposal {L : LaneSt} {n : Nat} {vs : List Word} (hv : L.learn.proposal = some (n, vs)) :
    L.proposalOn n = true := by
  simp [LaneSt.proposalOn, hv]

theorem opLearnStop_on_lead (me : LaneId) (h : Sender) (b : Byte) {L : LaneSt} (hlearns : (L.host.run.node b.toNat).learns = true)
    (hmin : L.minimal = false) (hlead : L.eng.lead = some me) (hpass : L.passOn b.toNat = true) :
    opLearnStop me h (nodeBlock b) L = (endPass me 1 L, some okRes) := by
  simp [opLearnStop, hlearns, minimalOk_of_not_minimal _ hmin, hlead, hpass]

theorem opLearnDiscard_on_lead (me : LaneId) (h : Sender) (b : Byte) {L : LaneSt} (hlearns : (L.host.run.node b.toNat).learns = true)
    (hlead : L.eng.lead = some me) (hpass : L.passOn b.toNat = true) :
    opLearnDiscard me h (nodeBlock b) L = (abortLearn me L, some okRes) := by
  simp [opLearnDiscard, hlearns, hlead, hpass]

/-! ## A commit that waits for the other lanes (01 R43) -/

/-- The coordinator settles nothing while a healthy lane has not answered. -/
theorem settleCommit_waits {me j : LaneId} {L : LaneSt} (hj : L.eng.healthy.get j = true) (hans : L.host.prepAns.get j = none) :
    settleCommit me L = L := by
  have hmissing : (((LaneId.all.filter fun l => L.eng.healthy.get l || l == me).map fun l => L.host.prepAns.get l).all Option.isSome)
      = false := by
    rw [List.all_eq_false]
    refine ⟨none, List.mem_map.mpr ⟨j, List.mem_filter.mpr ⟨by cases j <;> decide, by simp [hj]⟩, hans⟩, by simp⟩
  unfold settleCommit
  split
  · rfl
  · simp [hmissing]

/-- The lane has opened the prepare phase of a commit, and given its own answer. -/
def prepareOpened (me : LaneId) (tid : Nat) (t : Trans) (a : PrepAns) (L : LaneSt) : LaneSt :=
  send .prepare { L with host := { L.host with commitTid := some tid, applyWant := some t, applyGen := none, prepOpen := some me,
                                               prepAns := Tri.set ⟨none, none, none⟩ me (some a) } }

/-- A coordinator with another healthy lane sends prepare, answers itself, and waits. -/
theorem beginCommit_waits {me j : LaneId} (tid : Nat) (t : Trans) {L : LaneSt} (hme : L.coordinator me = me) (hne : j ≠ me)
    (hj : L.eng.healthy.get j = true) : ∃ a, beginCommit me tid t L = (prepareOpened me tid t a L, none) := by
  have hnone : (Tri.mk none none none : Tri (Option PrepAns)).get j = none := by cases j <;> rfl
  have hwaits : ∀ a, settleCommit me (prepareOpened me tid t a L) = prepareOpened me tid t a L := fun a =>
    settleCommit_waits (j := j) hj ((Tri.get_set_ne _ _ hne).trans hnone)
  have hcoord : LaneSt.coordinator me { L with host := { L.host with commitTid := some tid } } = me := hme
  unfold beginCommit
  simp only [hcoord, if_true]
  exact ⟨_, congrArg (·, none) ((if_pos rfl).trans (hwaits _))⟩

/-- OX_LEARN_COMMIT on the coordinator that has the proposal. -/
theorem opLearnCommit_on_lead (me : LaneId) (tid : Nat) (h : Sender) (b : Byte) {L : LaneSt}
    (hlearns : (L.host.run.node b.toNat).learns = true) (hmin : L.minimal = false) (hme : L.coordinator me = me)
    (hprop : L.proposalOn b.toNat = true) (hfree : L.cfgBusy = false) :
    opLearnCommit me tid h (nodeBlock b) L
      = beginCommit me tid (learnTrans h L) { L with host := { L.host with learnCommit := true } } := by
  simp [opLearnCommit, hlearns, minimalOk_of_not_minimal _ hmin, hme, hprop, hfree]

/-- The transaction of a learning commit wants the proposal as the node's table (03 R130). -/
theorem learnTrans_table (h : Sender) {L : LaneSt} {n : Nat} {vs : List Word} (hv : L.learn.proposal = some (n, vs)) :
    (learnTrans h L).want.table
      = Store.writes 0 L.host.committed.table (L.host.committed.node n).tblBase.toNat vs := by
  simp [learnTrans, hv]

/-! ## The statement -/

theorem exec_learnTimeLimit {l : LaneId} {s : State} (hrun : (s.lane l).running = true) :
    exec (.learnTimeLimit l) s = .next (s.setLane l (endPass l 2 (s.lane l))) :=
  onLaneIf_pos l _ _ s hrun

/-- Settles O29: each opcode of a pass has the effect of its meaning on the lead; `endPass_proposes` says what the ends of a pass leave, and
`beginCommit_waits` what the commit of a proposal does. -/
theorem learningPasses : Obligations.LearningPasses := by
  unfold Obligations.LearningPasses
  intro c blk s L n r stop startOk hmin
  refine ⟨fun hready hform hnone hon hmule hss1 => ?start, fun hready hform hnot => ?refuse,
    fun p hp hnode hlearns hlead => ⟨fun hready => ?stop, fun hready => ?discard, fun hrun => ?limit⟩,
    fun vs hprop hlearns hready hme hfree ⟨j, hne, hj⟩ => ?commit⟩
  case start =>
    have hmay : L.mayLearn = true := (mayLearn_iff L).mpr ⟨hnone, hon, hmule, hss1⟩
    exact ⟨fun hlead => ⟨passOf blk, runOp_ended hready (opLearnStart_on_lead _ _ hform hmin hmay hlead), rfl, rfl, rfl, rfl, rfl, rfl, rfl⟩,
      fun hother => runOp_ended hready (opLearnStart_off_lead _ _ hform hmin hmay hother)⟩
  case refuse =>
    exact runOp_ended hready (opLearnStart_refused _ _ hform hmin ((mayLearn_eq_false_iff L).mpr hnot))
  case stop =>
    obtain ⟨vs, hbins, hkept, hposts⟩ := endPass_proposes c.lane 1 hp hnode
    exact ⟨_, vs, runOp_ended hready (opLearnStop_on_lead _ _ _ hlearns hmin hlead (passOn_of_pass hp hnode)), hkept, hbins,
      fun hrun _ => hposts hrun⟩
  case discard =>
    exact ⟨_, runOp_ended hready (opLearnDiscard_on_lead _ _ _ hlearns hlead (passOn_of_pass hp hnode)), abortLearn_only c.lane L⟩
  case limit =>
    obtain ⟨vs, hbins, hkept, hposts⟩ := endPass_proposes c.lane 2 hp hnode
    refine ⟨_, vs, exec_learnTimeLimit hrun, hbins, ?_⟩
    rw [lane_setLane_same]
    exact ⟨hkept, fun _ => hposts hrun⟩
  case commit =>
    obtain ⟨a, hbegin⟩ := beginCommit_waits (j := j) c.tid (learnTrans c.sender L)
      (L := { L with host := { L.host with learnCommit := true } }) hme hne hj
    have hop := (opLearnCommit_on_lead c.lane c.tid c.sender _ hlearns hmin hme (proposalOn_of_proposal hprop) hfree).trans hbegin
    exact ⟨_, _, runOp_going hready hop, rfl, rfl, learnTrans_table c.sender hprop, rfl, rfl⟩

end Sys2Proof.Machine
end

section

namespace Sys2Proof.Machine

/-! ## A debug step that reads an uncorrectable table word (04 R153, 12 R373) -/

theorem exec_oxDebugStep (c : Ctx) (blk : List Byte) (s : State) :
    exec (.oxDebugStep c blk) s = runOp 0x0241 c blk (opDebugStep c.lane c.upsets c.sender blk) s := rfl

theorem noBlock_nil : noBlock [] = true := rfl

theorem opDebugStep_of_debug (me : LaneId) (us : List Upset) (h : Sender) {L : LaneSt} (hmin : L.minimal = false)
    (hdebug : L.eng.debug = true) (hhalt : L.eng.halted = false) (hrun : L.ox.dbgRun = none) :
    opDebugStep me us h [] L = (dbgStep me us L, some okRes) := by
  unfold opDebugStep
  rw [checked_cons noBlock_nil, checked_cons (by simp [minimalOk_of_not_minimal _ hmin, hdebug, hhalt, hrun]), checked_nil]

/-- The end of a command outside any task leaves the INTEGRITY engine. -/
theorem int_ended (c : Ctx) (s : State) (r : LaneRes) {L : LaneSt} (h : L.task c.tid = none) :
    ((ended c s r L).lane c.lane).int = L.int := by
  unfold ended
  rw [lane_setLane_same, finishTask_none _ _ _ _ h]

/-- A CONST node 4 feeds a TABLE node 5 of two entries, the first of table memory. -/
def tableConf : Conf :=
  { graph := [(4, { NodeRec.empty with typ := 0x02, inUse := 1 }),
              (5, { NodeRec.empty with typ := 0x11, nin := 1, inUse := 1, ins := [{ node := 4, connected := true }],
                                       ps := [0, 0x10000], tblLen := 2 })] }

/-- A DEBUG_ACTIVE lane about to execute the TABLE node. The word of memory 3 with its entries, the first after the node records, is
uncorrectable. -/
def tableDebugLane : LaneSt :=
  { start := { supplied := true, vinGood := true, coreReady := true, inReset := false, phase := .full }, pow := { pd := allOn },
    eng := { debug := true, excluded := true }, ox := { graphState := .debug, order := [4, 5], dbgNext := 1 },
    host := { run := tableConf }, int := { poisoned := [(3, 2048)] } }

def tableDebugDevice : State := State.reset.setLane .l0 tableDebugLane

/-- OX_DEBUG_STEP by the host of port 0, with no upset of the datapath. -/
def debugStepCtx : Ctx := { lane := .l0, sender := .spi .l0, tid := 7 }

theorem ready_tableDebugDevice : Ready 0x0241 debugStepCtx [] tableDebugDevice := by
  unfold Ready; decide +kernel

/-- The step reads the word, and the memory's DED count takes it (12 R373). -/
theorem ded_dbgStep_tableDebugLane : (dbgStep .l0 [] tableDebugLane).int.ded = [(3, 1)] := by decide +kernel

theorem exec_tableDebugDevice :
    exec (.oxDebugStep debugStepCtx []) tableDebugDevice
      = .next (ended debugStepCtx tableDebugDevice okRes (dbgStep .l0 [] tableDebugLane)) := by
  rw [exec_oxDebugStep]
  exact runOp_ended ready_tableDebugDevice (opDebugStep_of_debug _ _ _ rfl rfl rfl rfl)

theorem task_dbgStep_tableDebugLane : (dbgStep .l0 [] tableDebugLane).task 7 = none := by decide +kernel

/-- Refutes O30: the statement lets a debug step without an upset change the Ox engine and the times alone. A step of a TABLE node whose table
word is uncorrectable reads that word, so that the memory's DED count, LAST_DED and the repair queue of the INTEGRITY engine change
(12 R373). -/
theorem not_debugCommands : ¬ Obligations.DebugCommands := by
  unfold Obligations.DebugCommands
  intro h
  obtain ⟨hcommands, -⟩ := h
  obtain ⟨-, hactive, -⟩ := hcommands debugStepCtx tableDebugDevice rfl
  obtain ⟨hstep, -⟩ := hactive rfl rfl rfl
  obtain ⟨M, hexec, hkept, -⟩ := hstep ready_tableDebugDevice
  have hframe := hkept rfl
  have hint : M.int = tableDebugLane.int := (congrArg LaneSt.int hframe :)
  have hhost : M.host = tableDebugLane.host := (congrArg LaneSt.host hframe :)
  have htask : M.task debugStepCtx.tid = none := by unfold LaneSt.task; rw [hhost]; rfl
  have hends := Host.Outcome.next.inj (exec_tableDebugDevice.symm.trans hexec)
  have hints : (dbgStep .l0 [] tableDebugLane).int = M.int :=
    (int_ended debugStepCtx tableDebugDevice okRes task_dbgStep_tableDebugLane).symm.trans
      ((congrArg (fun t => (t.lane .l0).int) hends).trans (int_ended debugStepCtx tableDebugDevice okRes htask))
  have hded : [(3, (1 : Half))] = [] :=
    ded_dbgStep_tableDebugLane.symm.trans (congrArg IntEng.ded (hints.trans hint))
  exact absurd hded (by decide)

end Sys2Proof.Machine
end

section

namespace Sys2Proof.Machine

/-! ## A trace trigger (04 R158–R160) -/

/-- From `L` to `M` a trigger has been taken, and `sent` has gone out on the herdline: no probe waits for a trigger, and beside that only the
events of the probes are left of it. -/
def TriggerTaken (L M : LaneSt) (sent : List HerdMsg) : Prop :=
  (∀ p ∈ M.trace.probes, p.state ≠ .armed) ∧ M.herdTx = L.herdTx ++ sent ∧ ReportOnly L M ∧ IntKept L M

theorem settle_state_ne_armed {p : Probe} (h : p.state ≠ .armed) : p.settle.state ≠ .armed := by
  unfold Probe.settle
  split
  · exact (by decide : ProbeState.done ≠ .armed)
  · exact h

/-- A probe that has taken a trigger is TRIGGERED, or DONE. -/
theorem take_state_ne_armed (p : Probe) (src : BitVec 3) (lane : LaneId) (inst : Nat) (t : Word) (u : Bool) (n : Nat) :
    (p.take src lane inst t u n).state ≠ .armed := by
  unfold Probe.take
  exact settle_state_ne_armed (by decide : ProbeState.triggered ≠ .armed)

theorem EventOnly.intKept {L M : LaneSt} (h : EventOnly L M) : IntKept L M := congrArg LaneSt.int h

/-- A trigger is sent on, or not. -/
theorem TriggerTaken.send_if {L M : LaneSt} (h : TriggerTaken L M []) (b : Bool) (m : HerdMsg) :
    TriggerTaken L (if b = true then send m M else M) (if b = true then [m] else []) := by
  obtain ⟨hnone, htx, honly, hint⟩ := h
  cases b
  · exact ⟨hnone, htx, honly, hint⟩
  · exact ⟨hnone, by rw [if_pos rfl, send_herdTx, htx, List.append_nil, if_pos rfl], honly.trans rfl, hint⟩

/-- With a probe ARMED a trigger is taken. A host's is sent on always, another lane's never (04 R159, R160). -/
theorem traceTrigger_taken (me : LaneId) (src : BitVec 3) (lane : LaneId) (inst : Nat) {L : LaneSt}
    (h : ∃ p ∈ L.trace.probes, p.state = .armed) :
    ∃ sent, TriggerTaken L (traceTrigger me src lane inst L) sent ∧ (src = 2 → sent = [.traceTrigger inst]) ∧ (src = 4 → sent = []) := by
  have harmed : (!L.trace.probes.any fun p => p.state == .armed) = false := by simpa using h
  unfold traceTrigger
  rw [harmed, if_neg Bool.false_ne_true]
  dsimp only
  generalize hnew : List.map _ L.trace.probes = new
  have hnone : ∀ p ∈ new, p.state ≠ .armed := by
    intro p hp
    rw [← hnew, List.mem_map] at hp
    obtain ⟨q, -, rfl⟩ := hp
    split
    · exact take_state_ne_armed _ _ _ _ _ _ _
    · rename_i hq; simpa using hq
  have hposts := postProbes_only me L.trace.probes new { L with trace := { L.trace with probes := new } }
  generalize postProbes me L.trace.probes new _ = K at hposts ⊢
  have honly : ReportOnly L K := ReportOnly.trans (M := { L with trace := { L.trace with probes := new } }) rfl hposts.report
  have htaken : TriggerTaken L K [] :=
    ⟨by rw [hposts.trace_eq]; exact hnone, hposts.herdTx_eq.trans (List.append_nil _).symm, honly, hposts.intKept⟩
  refine ⟨_, htaken.send_if _ _, fun hhost => ?_, fun hother => ?_⟩
  · simp [hhost]
  · simp [hother]

theorem traceTrigger_host (me : LaneId) (inst : Nat) {L : LaneSt} (h : ∃ p ∈ L.trace.probes, p.state = .armed) :
    TriggerTaken L (traceTrigger me 2 me inst L) [.traceTrigger inst] := by
  obtain ⟨sent, htaken, hhost, -⟩ := traceTrigger_taken me 2 me inst h
  rwa [hhost rfl] at htaken

theorem traceTrigger_message (me j : LaneId) (inst : Nat) {L : LaneSt} (h : ∃ p ∈ L.trace.probes, p.state = .armed) :
    TriggerTaken L (traceTrigger me 4 j inst L) [] := by
  obtain ⟨sent, htaken, -, hmessage⟩ := traceTrigger_taken me 4 j inst h
  rwa [hmessage rfl] at htaken

/-! ## The trace opcodes (04 R157–R161) -/

theorem opTraceSetup_of_form (me : LaneId) (h : Sender) {blk : List Byte} {L : LaneSt} (hform : setupForm blk = true)
    (hok : setupOk L.host.run blk = true) (hidle : L.tracing = false) :
    ∃ u, opTraceSetup me h blk L = ({ L with trace := { L.trace with probes := setupProbes blk, setup := some u } }, some okRes)
      ∧ u.kind = (byteAt blk 33).setWidth 2 ∧ u.node = byteAt blk 34 ∧ u.value = rd32 blk 36 ∧ u.cycle = byteAt blk 41 := by
  unfold opTraceSetup
  dsimp only
  rw [checked_cons hform, checked_cons hok, checked_cons (by rw [hidle]; rfl), checked_nil]
  exact ⟨_, rfl, rfl, rfl, rfl, rfl⟩

theorem opTraceSetup_refused (me : LaneId) (h : Sender) {blk : List Byte} {L : LaneSt} (hform : setupForm blk = true)
    (hok : setupOk L.host.run blk = true) (hbusy : L.tracing = true) :
    opTraceSetup me h blk L = (L, some (failRes stNotInState)) := by
  unfold opTraceSetup
  dsimp only
  rw [checked_cons hform, checked_cons hok, hbusy, Bool.not_true, checked_false]

theorem opTraceArm_of_setup (me : LaneId) (h : Sender) {L : LaneSt} (hmin : L.minimal = false) (hset : L.trace.setup.isSome = true)
    (hidle : L.tracing = false) :
    opTraceArm me h [] L = ({ L with trace := { L.trace with armReq := true } }, some okRes) := by
  unfold opTraceArm
  rw [checked_cons noBlock_nil, checked_cons (by simp [minimalOk_of_not_minimal _ hmin, hset, hidle]), checked_nil]

theorem opTraceTrigger_of_armed (me : LaneId) (h : Sender) {L : LaneSt} (hmin : L.minimal = false)
    (harmed : ∃ p ∈ L.trace.probes, p.state = .armed) :
    opTraceTrigger me h [] L = (traceTrigger me 2 me L.time.clk10 L, some okRes) := by
  unfold opTraceTrigger
  rw [checked_cons noBlock_nil, checked_cons (by simpa [minimalOk_of_not_minimal _ hmin] using harmed), checked_nil]

theorem opTraceStop_eq (me : LaneId) (h : Sender) (L : LaneSt) : opTraceStop me h [] L = (freezeTrace L, some okRes) :=
  checked_cons noBlock_nil _ _ _ _

theorem freezeTrace_probes (L : LaneSt) : ∀ p ∈ (freezeTrace L).trace.probes, p.state ≠ .armed ∧ p.state ≠ .triggered := by
  intro p hp
  obtain ⟨q, -, rfl⟩ := List.mem_map.mp hp
  split
  · exact (by decide : ProbeState.frozen ≠ .armed ∧ ProbeState.frozen ≠ .triggered)
  · rename_i hq; simpa using hq

theorem exec_traceTriggerMessage {l j : LaneId} (dt10 at10 : Nat) {s : State} (hne : j ≠ l) (hrun : (s.lane l).running = true) :
    exec (.traceTriggerMessage l j dt10 at10) s
      = .next (s.setLane l (traceTrigger l 4 j (at10 - dt10 - linkDelay) (s.lane l))) :=
  (onLaneIf_pos l _ (fun L => if j = l then L else traceTrigger l 4 j (at10 - dt10 - linkDelay) L) s hrun).trans
    (congrArg (fun L => Host.Outcome.next (s.setLane l L)) (if_neg hne))

/-- Settles O31: each opcode of the trace has the effect of its meaning; `traceTrigger_taken` says what a trigger leaves, of the host and of
another lane. -/
theorem traceCommands : Obligations.TraceCommands := by
  unfold Obligations.TraceCommands
  intro c blk s L
  refine ⟨fun hready hform hok hidle => ?setup, fun hready hform hok hbusy => ?refuse, fun hready hmin hset hidle => ?arm,
    fun harmed => ⟨fun hready hmin => ?trigger, fun j dt at10 hne hrun => ?message⟩, fun hready => ?stop⟩
  case setup =>
    obtain ⟨u, hop, hfields⟩ := opTraceSetup_of_form c.lane c.sender hform hok hidle
    exact ⟨u, runOp_ended hready hop, hfields⟩
  case refuse => exact runOp_ended hready (opTraceSetup_refused _ _ hform hok hbusy)
  case arm => exact runOp_ended hready (opTraceArm_of_setup _ _ hmin hset hidle)
  case trigger =>
    exact ⟨_, runOp_ended hready (opTraceTrigger_of_armed _ _ hmin harmed), traceTrigger_host c.lane _ harmed⟩
  case message =>
    obtain ⟨hnone, htx, honly, hint⟩ := traceTrigger_message c.lane j (at10 - dt - linkDelay) harmed
    refine ⟨_, exec_traceTriggerMessage dt at10 hne hrun, ?_⟩
    rw [lane_setLane_same]
    exact ⟨hnone, htx.trans (List.append_nil _), honly, hint⟩
  case stop => exact ⟨_, runOp_ended hready (opTraceStop_eq _ _ _), rfl, freezeTrace_probes L, rfl⟩

end Sys2Proof.Machine
end

section

namespace Sys2Proof.Machine

/-! ## A STATUS slot that its sink has left (03 Table 3-5, 09 R306) -/

theorem exec_fastSample {l : LaneId} (i : FastIn) {s : State} (h : (s.lane l).samples = true) :
    exec (.fastSample l i) s = .next (s.setLane l (fastSample l i s.lane (s.lane l))) :=
  onLaneIf_pos l _ _ s h

/-- Lane 0 leads in full function. A STATUS sink of an earlier graph released 5 to slot 0; the graph that runs has no sink for it. -/
def leftSlotLane : LaneSt :=
  { start := { supplied := true, vinGood := true, coreReady := true, inReset := false, phase := .full }, pow := { pd := allOn },
    eng := { healthy := ⟨true, true, true⟩, lead := some .l0, standby := some .l1 }, safe := { state := .full },
    ox := { graphState := .active, status := [(0, 5)] } }

def leftSlotDevice : State := State.reset.setLane .l0 leftSlotLane

/-- A sample at the start of the fine clock in which nothing fails. -/
def quietSample : FastIn :=
  { t10 := 0, codeA := 0, codeB := 0, fastFault := [], medFault := [], slowFault := [], lockstepOk := true, poisonedTable := [],
    checkpointPoisoned := none }

def leftSlotSampled : LaneSt := fastSample .l0 quietSample leftSlotDevice.lane leftSlotLane

theorem exec_leftSlotDevice :
    exec (.fastSample .l0 quietSample) leftSlotDevice = .next (leftSlotDevice.setLane .l0 leftSlotSampled) :=
  exec_fastSample quietSample (by decide +kernel)

/-- The lane survives its sample. The mirror shows 0 in the slot that has no sink (09 R306), and the engine still holds the value released. -/
theorem leftSlotSampled_mirror : leftSlotSampled.running = true ∧ hasStatus leftSlotSampled.host.run 0 = false
    ∧ leftSlotSampled.host.mirror.getD 0 0 = 0 ∧ Store.read 0 leftSlotSampled.ox.status 0 = 5 := by
  decide +kernel

/-- Refutes O60: the statement asks that every slot of the mirror shows what was last released to it. A slot without a STATUS sink in the
graph that runs reads 0 (09 R306), whatever the sink of an earlier graph has released to it. -/
theorem not_sampleAndRelease : ¬ Obligations.SampleAndRelease := by
  unfold Obligations.SampleAndRelease
  intro h
  obtain ⟨hsample, -⟩ := h
  obtain ⟨⟨t, hexec, hmirror⟩, -⟩ := hsample .l0 quietSample leftSlotDevice (by decide +kernel)
  obtain rfl : leftSlotDevice.setLane .l0 leftSlotSampled = t := Host.Outcome.next.inj (exec_leftSlotDevice.symm.trans hexec)
  rw [lane_setLane_same] at hmirror
  obtain ⟨hrun, -, hzero, hfive⟩ := leftSlotSampled_mirror
  obtain ⟨-, hslots, -⟩ := hmirror hrun
  have hslot : (0 : Word) = 5 := hzero.symm.trans ((hslots 0).trans hfive)
  exact absurd hslot (by decide)

end Sys2Proof.Machine
end

section

namespace Sys2Proof.Machine

/-! ## What the end of a task leaves (01 R41, 09 R313) -/

/-- From `L` to `M` commands of the lane have ended: their results and completions have gone out. Beside the event queue only the tasks and
what they hold are other; nothing on the herdline is taken back, and no task has come to wait. -/
structure TasksEnd (L M : LaneSt) : Prop where
  frame : M = { L with
    ev := M.ev, int := L.int.wrote M.int, herdTx := M.herdTx,
    host := { L.host with win := M.host.win, eqTail := M.host.eqTail, lossOwed := M.host.lossOwed, eqOvf := M.host.eqOvf,
                          tasks := M.host.tasks, lastRes := M.host.lastRes, resv := M.host.resv, slotsUsed := M.host.slotsUsed,
                          remoteOut := M.host.remoteOut } }
  herd : L.herdTx <+: M.herdTx
  waits : ∀ k ∈ M.host.tasks, k.waiting = true → ∃ t ∈ L.host.tasks, t.waiting = true ∧ t.tid = k.tid ∧ t.pkt = k.pkt

theorem TasksEnd.refl (L : LaneSt) : TasksEnd L L := ⟨rfl, List.prefix_rfl, fun k hk hw => ⟨k, hk, hw, rfl, rfl⟩⟩

theorem TasksEnd.trans {L M N : LaneSt} (h : TasksEnd L M) (k : TasksEnd M N) : TasksEnd L N where
  frame := by rw [k.frame, h.frame]; rfl
  herd := h.herd.trans k.herd
  waits x hx hw := by
    obtain ⟨t, ht, htw, htid, hpkt⟩ := k.waits x hx hw
    obtain ⟨u, hu, huw, hutid, hupkt⟩ := h.waits t ht htw
    exact ⟨u, hu, huw, hutid.trans htid, hupkt.trans hpkt⟩

theorem EventOnly.tasksEnd {L M : LaneSt} (h : EventOnly L M) : TasksEnd L M where
  frame := by rw [h]; rfl
  herd := h.herdTx_eq ▸ List.prefix_rfl
  waits k hk hw := ⟨k, h.host_tasks ▸ hk, hw, rfl, rfl⟩

theorem TasksEnd.foldl {α : Type} {f : LaneSt → α → LaneSt} (hf : ∀ M a, TasksEnd M (f M a)) (as : List α) (L : LaneSt) :
    TasksEnd L (as.foldl f L) := by
  induction as generalizing L with
  | nil => exact .refl L
  | cons a as ih => exact (hf L a).trans (ih _)

theorem TasksEnd.eng_eq {L M : LaneSt} (h : TasksEnd L M) : M.eng = L.eng := by rw [h.frame]
theorem TasksEnd.safe_eq {L M : LaneSt} (h : TasksEnd L M) : M.safe = L.safe := by rw [h.frame]
theorem TasksEnd.ox_eq {L M : LaneSt} (h : TasksEnd L M) : M.ox = L.ox := by rw [h.frame]
theorem TasksEnd.mot_eq {L M : LaneSt} (h : TasksEnd L M) : M.mot = L.mot := by rw [h.frame]
theorem TasksEnd.sen_eq {L M : LaneSt} (h : TasksEnd L M) : M.sen = L.sen := by rw [h.frame]
theorem TasksEnd.gate_eq {L M : LaneSt} (h : TasksEnd L M) : M.gate = L.gate := by rw [h.frame]
theorem TasksEnd.host_run {L M : LaneSt} (h : TasksEnd L M) : M.host.run = L.host.run := by rw [h.frame]

/-- No task of the number waits. -/
def LaneSt.NoneWaits (L : LaneSt) (tid : Nat) : Prop := ∀ k ∈ L.host.tasks, k.tid = tid → k.waiting = false

theorem LaneSt.NoneWaits.tasksEnd {L M : LaneSt} {tid : Nat} (hnone : L.NoneWaits tid) (h : TasksEnd L M) : M.NoneWaits tid := by
  intro k hk htid
  cases hw : k.waiting with
  | false => rfl
  | true =>
    obtain ⟨t, ht, htw, heq, -⟩ := h.waits k hk hw
    exact htw.symm.trans (hnone t ht (heq.trans htid))

theorem mem_updTask {tid : Nat} {f : Task → Task} {L : LaneSt} {k : Task} (h : k ∈ (updTask tid f L).host.tasks) :
    ∃ t ∈ L.host.tasks, t.tid = tid ∧ k = f t ∨ t.tid ≠ tid ∧ k = t := by
  obtain ⟨t, ht, rfl⟩ := List.mem_map.mp h
  refine ⟨t, ht, ?_⟩
  split
  case isTrue heq => exact .inl ⟨heq, rfl⟩
  case isFalse hne => exact .inr ⟨hne, rfl⟩

theorem updTask_tasksEnd (tid : Nat) {f : Task → Task} (L : LaneSt)
    (hf : ∀ t, (f t).tid = t.tid ∧ (f t).pkt = t.pkt ∧ ((f t).waiting = true → t.waiting = true)) : TasksEnd L (updTask tid f L) where
  frame := rfl
  herd := List.prefix_rfl
  waits k hk hw := by
    obtain ⟨t, ht, ⟨-, rfl⟩ | ⟨-, rfl⟩⟩ := mem_updTask hk
    · obtain ⟨htid, hpkt, hwait⟩ := hf t
      exact ⟨t, ht, hwait hw, htid.symm, hpkt.symm⟩
    · exact ⟨k, ht, hw, rfl, rfl⟩

/-- Room in the remote pool changes of a task only that it counts. -/
theorem mem_fillPool {ts : List Task} {k : Task} (h : k ∈ fillPool ts) : ∃ t ∈ ts, t.waiting = k.waiting ∧ t.tid = k.tid ∧ t.pkt = k.pkt := by
  unfold fillPool at h
  split at h
  · obtain ⟨t, ht, rfl⟩ := List.mem_map.mp h
    refine ⟨t, ht, ?_⟩
    split <;> exact ⟨rfl, rfl, rfl⟩
  · exact ⟨k, h, rfl, rfl, rfl⟩

theorem dropTask_tasksEnd (tid : Nat) (L : LaneSt) : TasksEnd L (dropTask tid L) where
  frame := rfl
  herd := List.prefix_rfl
  waits k hk hw := by
    obtain ⟨t, ht, hwait, htid, hpkt⟩ := mem_fillPool hk
    exact ⟨t, (List.mem_filter.mp ht).1, hwait.trans hw, htid, hpkt⟩

theorem dropTask_noneWaits (tid : Nat) (L : LaneSt) : (dropTask tid L).NoneWaits tid := by
  intro k hk htid
  obtain ⟨t, ht, -, heq, -⟩ := mem_fillPool hk
  have hne : t.tid ≠ tid := by simpa using (List.mem_filter.mp ht).2
  exact absurd (heq.trans htid) hne

theorem send_tasksEnd (m : HerdMsg) (L : LaneSt) : TasksEnd L (send m L) where
  frame := rfl
  herd := List.prefix_append _ _
  waits k hk hw := ⟨k, hk, hw, rfl, rfl⟩

/-- After the update that writes them, the device's words of the window are written and counted where their transfer fails. -/
theorem ownWrite_after (first n : Nat) (put : LaneSt → LaneSt) (L : LaneSt) : EventOnly (put L) (ownWrite first n put L) := by
  have hfold : ∀ (f : LaneSt → ParityHit → LaneSt), (∀ M h, EventOnly M (f M h)) → ∀ hs M, EventOnly M (List.foldl f M hs) := by
    intro f hf hs
    induction hs with
    | nil => exact EventOnly.refl
    | cons h hs ih => exact fun M => (hf M h).trans (ih _)
  have hclean : EventOnly (put L) (cleanWords 5 first n (put L)) := rfl
  unfold ownWrite
  refine hclean.trans (hfold _ (fun M h => (oweHit_only h M).trans ?_) _ _)
  dsimp only
  split <;> split <;> rfl

theorem ownWrite_tasksEnd (first n : Nat) (put : LaneSt → LaneSt) {L : LaneSt} (h : TasksEnd L (put L)) :
    TasksEnd L (ownWrite first n put L) := h.trans (ownWrite_after first n put L).tasksEnd

/-- A completion takes its task, its reservation and, where there is one, its reply slot. -/
theorem releaseOne_tasksEnd (me : LaneId) (t : Task) (r : LaneRes) (L : LaneSt) : TasksEnd L (releaseOne me t r L) := by
  have hhost : ∀ (N : LaneSt) (w : Store Byte) (u : List (Nat × Half)) (v : Byte) (o : List (Nat × List Byte)),
      TasksEnd N { N with host := { N.host with win := w, slotsUsed := u, resv := v, remoteOut := o } } :=
    fun N _ _ _ _ => ⟨rfl, List.prefix_rfl, fun k hk hw => ⟨k, hk, hw, rfl, rfl⟩⟩
  unfold releaseOne
  dsimp only
  refine (dropTask_tasksEnd t.tid L).trans ?_
  split
  case h_1 =>
    split
    · exact .refl _
    · exact hhost _ _ _ _ _
  case h_2 =>
    have hfree : TasksEnd (dropTask t.tid L) (unreserve (dropTask t.tid L)) := hhost _ _ _ _ _
    refine hfree.trans ?_
    split
    · exact (replay_only _ _).tasksEnd
    · refine TasksEnd.trans ?_ (putRecord_only _ _ _ _ _ _ _ _ _).tasksEnd
      split
      · exact ownWrite_tasksEnd _ _ _ (hhost _ _ _ _ _)
      · exact .refl _

theorem releaseFlow_tasksEnd (me : LaneId) (flow n : Nat) (L : LaneSt) : TasksEnd L (releaseFlow me flow n L) := by
  induction n generalizing L with
  | zero => exact .refl L
  | succ n ih =>
    unfold releaseFlow
    split
    · split
      · exact (releaseOne_tasksEnd _ _ _ _).trans (ih _)
      · exact .refl L
    · exact .refl L

theorem releaseTask_tasksEnd (me : LaneId) (tid : Nat) (L : LaneSt) : TasksEnd L (releaseTask me tid L) := by
  unfold releaseTask
  split
  · split
    · split
      · exact releaseOne_tasksEnd _ _ _ _
      · exact releaseFlow_tasksEnd _ _ _ _
    · exact .refl L
  · exact .refl L

theorem closeTask_tasksEnd (me : LaneId) (tid : Nat) (L : LaneSt) : TasksEnd L (closeTask me tid L) := by
  unfold closeTask
  refine TasksEnd.trans ?_ (releaseTask_tasksEnd _ _ _)
  exact updTask_tasksEnd tid L fun _ => ⟨rfl, rfl, fun h => absurd h Bool.false_ne_true⟩

theorem closeSettled_tasksEnd (me : LaneId) (L : LaneSt) : TasksEnd L (closeSettled me L) :=
  .foldl (fun _ _ => closeTask_tasksEnd _ _ _) _ _

/-- The note of a lane's result in its task. -/
def Task.note (me from_ : LaneId) (r : LaneRes) (t : Task) : Task :=
  { t with results := t.results.set from_ (some r), started := t.started || from_ == me, waiting := t.waiting && !(from_ == me) }

/-- A task whose results are all in is closed. -/
def closeFull (me : LaneId) (tid : Nat) (L : LaneSt) : LaneSt :=
  match L.task tid with
  | some t => if L.allIn me t && !t.done then closeTask me tid L else L
  | none => L

theorem noteResult_eq (me : LaneId) (tid : Nat) (from_ : LaneId) (r : LaneRes) (L : LaneSt) :
    noteResult me tid from_ r L = closeFull me tid (updTask tid (Task.note me from_ r) L) := rfl

theorem closeFull_tasksEnd (me : LaneId) (tid : Nat) (L : LaneSt) : TasksEnd L (closeFull me tid L) := by
  unfold closeFull
  split
  · split
    · exact closeTask_tasksEnd _ _ _
    · exact .refl _
  · exact .refl _

theorem noteResult_after (me : LaneId) (tid : Nat) (from_ : LaneId) (r : LaneRes) (L : LaneSt) :
    TasksEnd (updTask tid (Task.note me from_ r) L) (noteResult me tid from_ r L) := by
  rw [noteResult_eq]
  exact closeFull_tasksEnd _ _ _

theorem noteResult_tasksEnd (me : LaneId) (tid : Nat) (from_ : LaneId) (r : LaneRes) (L : LaneSt) :
    TasksEnd L (noteResult me tid from_ r L) :=
  (updTask_tasksEnd tid (f := Task.note me from_ r) L fun _ => ⟨rfl, rfl, fun h => And.left (Bool.and_eq_true_iff.mp h)⟩).trans
    (noteResult_after _ _ _ _ _)

/-- A lane's own result ends the wait of its task. -/
theorem noteResult_noneWaits (me : LaneId) (tid : Nat) (r : LaneRes) (L : LaneSt) : (noteResult me tid me r L).NoneWaits tid := by
  have hnoted : (updTask tid (Task.note me me r) L).NoneWaits tid := by
    intro k hk htid
    obtain ⟨t, -, ⟨-, rfl⟩ | ⟨hne, rfl⟩⟩ := mem_updTask hk
    · simp [Task.note]
    · exact absurd htid hne
  exact hnoted.tasksEnd (noteResult_after _ _ _ _ _)

/-- The result that a lane has given last. -/
def noteLast (r : LaneRes) (L : LaneSt) : LaneSt := { L with host := { L.host with lastRes := some r } }

theorem noteLast_tasksEnd (r : LaneRes) (L : LaneSt) : TasksEnd L (noteLast r L) :=
  ⟨rfl, List.prefix_rfl, fun k hk hw => ⟨k, hk, hw, rfl, rfl⟩⟩

/-- What becomes of a task with this lane's own result: it is noted where the packet was received here, and reported otherwise. -/
theorem finishTask_some (me : LaneId) (tid : Nat) (r : LaneRes) {L : LaneSt} {t : Task} (h : L.task tid = some t) :
    finishTask me tid r L =
      if t.origin = me then noteResult me tid me { r with late := t.late } (noteLast r L)
      else dropTask tid (send (.result t.origin (t.rn.getD 0) { r with late := t.late }) (noteLast r L)) := by
  have h' : LaneSt.task { L with host := { L.host with lastRes := some r } } tid = some t := h
  simp [finishTask, h', noteLast]

theorem finishTask_tasksEnd (me : LaneId) (tid : Nat) (r : LaneRes) (L : LaneSt) : TasksEnd L (finishTask me tid r L) := by
  cases h : L.task tid with
  | none => rw [finishTask_none _ _ _ _ h]; exact noteLast_tasksEnd r L
  | some t =>
    rw [finishTask_some _ _ _ h]
    refine (noteLast_tasksEnd r L).trans ?_
    split
    · exact noteResult_tasksEnd _ _ _ _ _
    · exact (send_tasksEnd _ _).trans (dropTask_tasksEnd _ _)

/-- A task that has its result waits no longer. -/
theorem finishTask_noneWaits (me : LaneId) (tid : Nat) (r : LaneRes) (L : LaneSt) : (finishTask me tid r L).NoneWaits tid := by
  cases h : L.task tid with
  | none =>
    rw [finishTask_none _ _ _ _ h]
    intro k hk htid
    exact absurd (beq_iff_eq.mpr htid) (List.find?_eq_none.mp h k hk)
  | some t =>
    rw [finishTask_some _ _ _ h]
    split
    · exact noteResult_noneWaits _ _ _ _
    · exact dropTask_noneWaits _ _

/-- Commands that end leave no task of theirs waiting. -/
theorem foldl_finishTask_noneWaits (me : LaneId) (r : LaneRes) {ts : List Task} {t : Task} (ht : t ∈ ts) (L : LaneSt) :
    (ts.foldl (fun L t => finishTask me t.tid r L) L).NoneWaits t.tid := by
  induction ts generalizing L with
  | nil => exact absurd ht List.not_mem_nil
  | cons a ts ih =>
    rcases List.mem_cons.mp ht with rfl | ht
    · exact (finishTask_noneWaits me t.tid r L).tasksEnd (.foldl (fun _ _ => finishTask_tasksEnd _ _ _ _) _ _)
    · exact ih ht _

end Sys2Proof.Machine
end

section

namespace Sys2Proof.Machine

/-! ## Aborts (05 R195, 03 R129) -/

theorem abortWaiting_tasksEnd (me : LaneId) (own : Option Nat) (p : Packet → Bool) (L : LaneSt) :
    TasksEnd L (abortWaiting me own p L) :=
  .foldl (fun _ _ => finishTask_tasksEnd _ _ _ _) _ _

/-- Of the commands that the abort names, only the one that asks for it can still wait. -/
theorem abortWaiting_aborts (me : LaneId) (tid : Nat) (p : Packet → Bool) (L : LaneSt) {k : Task}
    (hk : k ∈ (abortWaiting me (some tid) p L).host.tasks) (hw : k.waiting = true) (hne : k.tid ≠ tid) : p k.pkt = false := by
  obtain ⟨t, ht, htw, htid, hpkt⟩ := (abortWaiting_tasksEnd me (some tid) p L).waits k hk hw
  cases hp : p k.pkt with
  | false => rfl
  | true =>
    have hnamed : t ∈ L.host.tasks.filter fun t => p t.pkt && (t.waiting || t.queuedMotion) && some tid != some t.tid := by
      rw [List.mem_filter]
      refine ⟨ht, ?_⟩
      have hother : (some tid != some t.tid) = true := by rw [htid]; exact bne_iff_ne.mpr fun heq => hne (Option.some.inj heq).symm
      rw [hpkt, hp, htw, hother]
      rfl
    have hnone := foldl_finishTask_noneWaits me (failRes stAborted) hnamed L k hk htid.symm
    exact hw.symm.trans hnone

/-- The enable under way is abandoned. -/
def noEnable (L : LaneSt) : LaneSt := { L with mot := { L.mot with enable := .idle, enableTids := [] } }

theorem abortEnable_tasksEnd (me : LaneId) (L : LaneSt) : TasksEnd (noEnable L) (abortEnable me L) :=
  .foldl (fun _ _ => finishTask_tasksEnd _ _ _ _) _ _

theorem abortLearn_learn (me : LaneId) (L : LaneSt) : (abortLearn me L).learn = {} := (abortLearn_only me L).learn_eq

/-! ## Motion is disabled (05 R195) -/

/-- What disabling motion leaves, and what becomes of the motion, the trace and the tasks. -/
structure MotionOff (me : LaneId) (L M : LaneSt) : Prop where
  mot : M.mot = { L.mot with
    enable := .idle, enableTids := [], enabled := false, offsetsDue := false, flyDue := false, vel := none, velReq := [], disableReq := none }
  learn : M.learn = {}
  trace : ∀ p ∈ M.trace.probes, p.state ≠ .armed ∧ p.state ≠ .triggered
  eng : M.eng = L.eng
  safe : M.safe = L.safe
  ox : M.ox = L.ox
  sen : M.sen = L.sen
  gate : M.gate = L.gate
  run : M.host.run = L.host.run
  tasks : M.host.tasks = (abortEnable me L).host.tasks
  herd : L.herdTx <+: M.herdTx

theorem disableMotion_off (me : LaneId) (L : LaneSt) : MotionOff me L (disableMotion me L) := by
  have henable := abortEnable_tasksEnd me L
  have hlearn := abortLearn_only me (freezeTrace (abortEnable me L))
  exact {
    mot := by
      have hmot : (abortLearn me (freezeTrace (abortEnable me L))).mot = (noEnable L).mot := hlearn.mot_eq.trans henable.mot_eq
      unfold disableMotion
      dsimp only
      rw [hmot]
      rfl
    learn := abortLearn_learn _ _
    trace := by
      have htrace : (disableMotion me L).trace = (freezeTrace (abortEnable me L)).trace := hlearn.trace_eq
      rw [htrace]
      exact freezeTrace_probes _
    eng := hlearn.eng_eq.trans henable.eng_eq
    safe := hlearn.safe_eq.trans henable.safe_eq
    ox := hlearn.ox_eq.trans henable.ox_eq
    sen := hlearn.sen_eq.trans henable.sen_eq
    gate := hlearn.gate_eq.trans henable.gate_eq
    run := hlearn.host_run.trans henable.host_run
    tasks := hlearn.host_tasks
    herd := hlearn.herdTx_eq.symm ▸ henable.herd }

/-! ## MOTION_DISABLE (05 R195) -/

theorem exec_motionDisable (c : Ctx) (blk : List Byte) (s : State) :
    exec (.motionDisable c blk) s = runOp 0x0302 c blk (opMotionDisable c.lane c.tid c.sender blk) s := rfl

/-- With a good block only SS1 is left to bar the command. -/
theorem opMotionDisable_of_form (me : LaneId) (tid : Nat) (h : Sender) {b : Byte} {L : LaneSt} (hb : b.toNat ≤ 2)
    (hmin : L.minimal = false) :
    opMotionDisable me tid h [b, 0, 0, 0] L
      = checked [(L.safe.ss1.isNone, stNotInState)] L (disableLane me tid b L, some okRes) := by
  have hbyte : byteAt [b, 0, 0, 0] 0 = b := rfl
  unfold opMotionDisable
  rw [checked_cons (by simp [zerosAt]), checked_cons (by rw [hbyte]; exact decide_eq_true hb), minimalOk_of_not_minimal _ hmin, Bool.true_and,
    hbyte]

/-- A command that ends does so alike whether its task waits or not. -/
def unwait (tid : Nat) (L : LaneSt) : LaneSt := updTask tid (fun t => { t with waiting := false }) L

theorem unwait_tasksEnd (tid : Nat) (L : LaneSt) : TasksEnd L (unwait tid L) :=
  updTask_tasksEnd tid L fun _ => ⟨rfl, rfl, fun h => absurd h Bool.false_ne_true⟩

theorem unwait_noneWaits (tid : Nat) (L : LaneSt) : (unwait tid L).NoneWaits tid := by
  intro k hk htid
  obtain ⟨t, -, ⟨-, rfl⟩ | ⟨hne, rfl⟩⟩ := mem_updTask hk
  · rfl
  · exact absurd htid hne

theorem updTask_of_task_none {tid : Nat} {L : LaneSt} (f : Task → Task) (h : L.task tid = none) : updTask tid f L = L := by
  have htasks : (L.host.tasks.map fun t => if t.tid = tid then f t else t) = L.host.tasks := by
    refine (List.map_congr_left fun t ht => if_neg fun heq => ?_).trans (List.map_id _)
    exact List.find?_eq_none.mp h t ht (beq_iff_eq.mpr heq)
  unfold updTask
  rw [htasks]

theorem updTask_updTask {f g : Task → Task} (tid : Nat) (L : LaneSt) (hf : ∀ t, (f t).tid = t.tid) :
    updTask tid g (updTask tid f L) = updTask tid (g ∘ f) L := by
  unfold updTask
  dsimp only
  rw [List.map_map]
  congr 3
  funext t
  by_cases h : t.tid = tid <;> simp [h, hf]

theorem task_updTask {f : Task → Task} {tid : Nat} {L : LaneSt} {t : Task} (hf : ∀ t, (f t).tid = t.tid) (h : L.task tid = some t) :
    (updTask tid f L).task tid = some (f t) := by
  have hsame : ((fun t : Task => t.tid == tid) ∘ fun t => if t.tid = tid then f t else t) = fun t => t.tid == tid := by
    funext t
    by_cases h : t.tid = tid <;> simp [h, hf]
  have htid : t.tid = tid := by simpa using List.find?_some h
  unfold LaneSt.task at h ⊢
  rw [updTask_task_map, List.find?_map, hsame, h, Option.map_some, if_pos htid]

theorem dropTask_updTask {f : Task → Task} (tid : Nat) (L : LaneSt) (hf : ∀ t, (f t).tid = t.tid) :
    dropTask tid (updTask tid f L) = dropTask tid L := by
  have hrest : (L.host.tasks.map fun t => if t.tid = tid then f t else t).filter (fun t => t.tid != tid)
      = L.host.tasks.filter fun t => t.tid != tid := by
    induction L.host.tasks with
    | nil => rfl
    | cons t ts ih => by_cases h : t.tid = tid <;> simp [h, hf, ih]
  unfold dropTask updTask
  dsimp only
  rw [hrest]

theorem finishTask_unwait (me : LaneId) (tid : Nat) (r : LaneRes) (L : LaneSt) : finishTask me tid r (unwait tid L) = finishTask me tid r L := by
  have hkeeps : ∀ t : Task, ({ t with waiting := false } : Task).tid = t.tid := fun _ => rfl
  cases h : L.task tid with
  | none => rw [unwait, updTask_of_task_none _ h]
  | some t =>
    have hunwait : (unwait tid L).task tid = some { t with waiting := false } := task_updTask hkeeps h
    rw [finishTask_some _ _ _ h, finishTask_some _ _ _ hunwait]
    refine ite_congr rfl (fun _ => ?_) (fun _ => ?_)
    case refine_1 =>
      have hnote : Task.note me me { r with late := t.late } ∘ (fun t => { t with waiting := false })
          = Task.note me me { r with late := t.late } := by
        funext t
        simp [Task.note]
      have hnoted := updTask_updTask (g := Task.note me me { r with late := t.late }) tid (noteLast r L) hkeeps
      rw [hnote] at hnoted
      rw [noteResult_eq, noteResult_eq]
      exact congrArg (closeFull me tid) hnoted
    case refine_2 => exact dropTask_updTask tid (send _ (noteLast r L)) hkeeps

/-- After MOTION_DISABLE no other command that a stop aborts waits. -/
theorem disableLane_tasks (me : LaneId) (tid : Nat) (b : Byte) (L : LaneSt) {k : Task} (hk : k ∈ (disableLane me tid b L).host.tasks)
    (hw : k.waiting = true) (hne : k.tid ≠ tid) : stopWaiting k.pkt = false := by
  have htasks : k ∈ (abortEnable me (abortWaiting me (some tid) stopWaiting L)).host.tasks :=
    (disableMotion_off me (abortWaiting me (some tid) stopWaiting L)).tasks ▸ hk
  obtain ⟨t, ht, htw, htid, hpkt⟩ := (abortEnable_tasksEnd me _).waits k htasks hw
  exact hpkt ▸ abortWaiting_aborts me tid stopWaiting L ht htw (htid ▸ hne)

theorem opEngine_ne_motion {p : Packet} (h : stopWaiting p = false) : opEngine p.opcode ≠ 2 := by
  intro heng
  simp [stopWaiting, motionWaiting, heng] at h

theorem disableEnd_congr {L M : LaneSt} (h : M.host.run = L.host.run) (b : Byte) : disableEnd M b = disableEnd L b := by
  unfold disableEnd
  rw [h]

/-- Settles O33: the aborts end every other command of the engine that waits (`abortWaiting_aborts`), and disabling motion leaves the graph, the
sensors, the safe state and the gates of the moment (`disableMotion_off`). The command itself ends in any case, so its own task counts as
one that waits no longer (`finishTask_unwait`). -/
theorem motionDisable : Obligations.MotionDisable := by
  unfold Obligations.MotionDisable
  intro c b s L blk hready hmin hb
  rw [exec_motionDisable]
  have hop := opMotionDisable_of_form c.lane c.tid c.sender hb hmin
  refine ⟨fun hss1 => ?disables, fun hss1 => ?refused⟩
  case refused =>
    refine runOp_ended hready (hop.trans ?_)
    rw [Option.isNone_eq_false_iff.mpr hss1, checked_false]
  case disables =>
    have habort := abortWaiting_tasksEnd c.lane (some c.tid) stopWaiting L
    have hoff := disableMotion_off c.lane (abortWaiting c.lane (some c.tid) stopWaiting L)
    refine ⟨unwait c.tid (disableLane c.lane c.tid b L), ?_, congrArg MotEng.enabled hoff.mot, ?_, congrArg MotEng.enable hoff.mot,
      congrArg MotEng.vel hoff.mot, hoff.learn, fun k hk hw => ?_, hoff.trace, hoff.gate.trans habort.gate_eq, hoff.ox.trans habort.ox_eq,
      hoff.eng.trans habort.eng_eq, hoff.sen.trans habort.sen_eq, hoff.safe.trans habort.safe_eq⟩
    · rw [ended, finishTask_unwait]
      refine runOp_ended hready (hop.trans ?_)
      rw [hss1, Option.isNone_none, checked_true, checked_nil]
    · exact congrArg some (disableEnd_congr (hoff.run.trans habort.host_run) b)
    · obtain ⟨t, ht, htw, htid, hpkt⟩ := (unwait_tasksEnd c.tid _).waits k hk hw
      have hne : k.tid ≠ c.tid := fun heq => Bool.false_ne_true ((unwait_noneWaits c.tid _ k hk heq).symm.trans hw)
      exact opEngine_ne_motion (hpkt ▸ disableLane_tasks c.lane c.tid b L ht htw (htid ▸ hne))

end Sys2Proof.Machine
end

section

namespace Sys2Proof.Machine

/-! ## Host velocity mode (05 R189, R190) -/

/-- The four bytes of a word, read back. -/
theorem rd32_le32 (w : Word) (r : List Byte) : rd32 (le32 w ++ r) 0 = w := by
  unfold rd32 rd16 byteAt le32
  ext i hi
  rw [← BitVec.getLsbD_eq_getElem (x := w)]
  simp only [List.cons_append, List.getD_cons_succ, List.getD_cons_zero, BitVec.getElem_append, BitVec.getElem_setWidth,
    BitVec.getLsbD_ushiftRight]
  by_cases hlow : i < 8 + 8
  · rw [dif_pos hlow]
    by_cases hbyte : i < 8
    · rw [dif_pos hbyte]
    · rw [dif_neg hbyte, show 8 + (i - 8) = i by omega]
  · rw [dif_neg hlow]
    by_cases hbyte : i - (8 + 8) < 8
    · rw [dif_pos hbyte, show 16 + (i - (8 + 8)) = i by omega]
    · rw [dif_neg hbyte, show 24 + (i - (8 + 8) - 8) = i by omega]

theorem exec_motionVelEnter (c : Ctx) (blk : List Byte) (s : State) :
    exec (.motionVelEnter c blk) s = runOp 0x0310 c blk (opMotionVelEnter c.lane c.sender blk) s := rfl

theorem exec_motionVelSet (c : Ctx) (blk : List Byte) (s : State) :
    exec (.motionVelSet c blk) s = runOp 0x0311 c blk (opMotionVelSet c.lane c.sender blk) s := rfl

theorem exec_motionVelExit (c : Ctx) (blk : List Byte) (s : State) :
    exec (.motionVelExit c blk) s = runOp 0x0312 c blk (opMotionVelExit c.lane c.sender blk) s := rfl

/-- Where nothing else bars it, velocity mode is entered unless it is active already. -/
theorem opMotionVelEnter_of_enabled (me : LaneId) (h : Sender) {L : LaneSt} (hmin : L.minimal = false) (hon : L.mot.enabled = true)
    (href : L.host.run.ss1Ref.isSome = true) (hmule : L.safe.mule = false) (hss1 : L.safe.ss1 = none) :
    opMotionVelEnter me h [] L = checked [(!L.inVel, stNotInState)] L (velPush .enter L, some okRes) := by
  unfold opMotionVelEnter
  rw [checked_cons noBlock_nil, minimalOk_of_not_minimal _ hmin, hon, href, hmule, hss1]
  rfl

/-- In velocity mode only the direction bars a value (R190). -/
theorem opMotionVelSet_of_inVel (me : LaneId) (h : Sender) (v : Word) {L : LaneSt} (hmin : L.minimal = false) (hvel : L.inVel = true) :
    opMotionVelSet me h (le32 v) L = checked [(!velReverses L v, stRefusedSpeed)] L (velPush (.set v) L, some okRes) := by
  have hread : rd32 (le32 v) 0 = v := rd32_le32 v []
  unfold opMotionVelSet
  have hlen : ((le32 v).length == 4) = true := rfl
  rw [checked_cons hlen, minimalOk_of_not_minimal _ hmin, hvel, Bool.and_self, checked_true, hread]

theorem opMotionVelExit_of_inVel (me : LaneId) (h : Sender) {L : LaneSt} (hmin : L.minimal = false) (hvel : L.inVel = true) :
    opMotionVelExit me h [] L = (velPush .exit L, some okRes) := by
  unfold opMotionVelExit
  rw [checked_cons noBlock_nil, minimalOk_of_not_minimal _ hmin, hvel, Bool.and_self, checked_true, checked_nil]

/-- A standstill is against no speed. -/
theorem velReverses_zero (L : LaneSt) : velReverses L 0 = false := by
  simp [velReverses, signI]

/-- Settles O34: each command of the mode has the effect of its meaning. -/
theorem hostVelocityMode : Obligations.HostVelocityMode := by
  unfold Obligations.HostVelocityMode
  intro c v s L asked hmin
  refine ⟨fun hready hon href hmule hss1 => ?enter, fun hready hvel => ?set, velReverses_zero L, fun hready hvel => ?exit⟩
  case enter =>
    have hop := opMotionVelEnter_of_enabled c.lane c.sender hmin hon href hmule hss1
    rw [exec_motionVelEnter]
    refine ⟨fun hvel => runOp_ended hready (hop.trans ?_), fun hvel => runOp_ended hready (hop.trans ?_)⟩
    · rw [hvel, Bool.not_false, checked_true, checked_nil]; rfl
    · rw [hvel, Bool.not_true, checked_false]
  case set =>
    have hop := opMotionVelSet_of_inVel c.lane c.sender v hmin hvel
    rw [exec_motionVelSet]
    refine ⟨fun hfree => runOp_ended hready (hop.trans ?_), fun hbars => runOp_ended hready (hop.trans ?_)⟩
    · rw [hfree, Bool.not_false, checked_true, checked_nil]; rfl
    · rw [hbars, Bool.not_true, checked_false]
  case exit =>
    rw [exec_motionVelExit]
    exact runOp_ended hready (opMotionVelExit_of_inVel _ _ hmin hvel)

end Sys2Proof.Machine
end

section

namespace Sys2Proof.Machine

/-! ## Reports and what follows them (12 R384–R387, 04 R158) -/

/-- A trigger leaves the fault records, and takes no message back. -/
theorem traceTrigger_keeps (me : LaneId) (src : BitVec 3) (lane : LaneId) (inst : Nat) (L : LaneSt) :
    IntKept L (traceTrigger me src lane inst L) ∧ L.herdTx <+: (traceTrigger me src lane inst L).herdTx := by
  unfold traceTrigger
  split
  · exact ⟨rfl, List.prefix_rfl⟩
  · dsimp only
    have hposts : ∀ (t : TraceEng) (o n : List Probe), EventOnly { L with trace := t } (postProbes me o n { L with trace := t }) :=
      fun _ _ _ => postProbes_only _ _ _ _
    have hsent : ∀ (b : Bool) (t : TraceEng) (M : LaneSt), EventOnly { L with trace := t } M →
        IntKept L (if b = true then send (.traceTrigger inst) M else M)
          ∧ L.herdTx <+: (if b = true then send (.traceTrigger inst) M else M).herdTx := by
      intro b t M hM
      have hherd : M.herdTx = L.herdTx := hM.herdTx_eq
      cases b
      · exact ⟨hM.intKept, hherd ▸ List.prefix_rfl⟩
      · refine ⟨hM.intKept, ?_⟩
        rw [if_pos rfl, send_herdTx, hherd]
        exact List.prefix_append _ _
    exact hsent _ _ _ (hposts _ _ _)

theorem faultTrigger_keeps (me : LaneId) (cls : BitVec 3) (L : LaneSt) :
    IntKept L (faultTrigger me cls L) ∧ L.herdTx <+: (faultTrigger me cls L).herdTx := by
  unfold faultTrigger
  split
  · split
    · exact traceTrigger_keeps _ _ _ _ _
    · exact ⟨rfl, List.prefix_rfl⟩
  · exact ⟨rfl, List.prefix_rfl⟩

theorem IntKept.trans {L M N : LaneSt} (h : IntKept L M) (k : IntKept M N) : IntKept L N := by
  unfold IntKept at *
  rw [k, h]
  rfl

theorem IntKept.slot {L M : LaneSt} (h : IntKept L M) (cls : BitVec 3) : M.int.slot cls = L.int.slot cls := by
  unfold IntKept at h
  rw [h]
  rfl

theorem postFault_keeps (me : LaneId) (r : FaultRec) (L : LaneSt) :
    IntKept L (postFault me r L) ∧ L.herdTx <+: (postFault me r L).herdTx := by
  have harrive := arrive_only me (0x1E + r.cls.setWidth 8) r.cls (payBytes r.bytes) L
  obtain ⟨hint, hherd⟩ := faultTrigger_keeps me r.cls (arrive me (0x1E + r.cls.setWidth 8) r.cls (payBytes r.bytes) L)
  exact ⟨harrive.intKept.trans hint, harrive.herdTx_eq ▸ hherd⟩

theorem slot_setSlot_same (i : IntEng) (cls : BitVec 3) (r : Option FaultRec) : (i.setSlot cls r).slot cls = r := by
  unfold IntEng.setSlot IntEng.slot
  by_cases hce : cls = 2
  · rw [if_pos hce, if_pos hce]
  · rw [if_neg hce, if_neg hce]
    by_cases huc : cls = 3
    · rw [if_pos huc, if_pos huc]
    · rw [if_neg huc, if_neg huc]

/-- A report of a class whose record is free is latched there. -/
theorem latchOwn_latches (me : LaneId) (src : Byte) (loc a b : Word) {L : LaneSt} (hfree : L.int.slot (faultClass src) = none) :
    ∃ r, (latchOwn me src loc a b L).int.slot (faultClass src) = some r ∧ r.source = src ∧ r.handled = false := by
  unfold latchOwn
  simp only [hfree]
  refine ⟨_, ((postFault_keeps _ _ _).1.slot _).trans (slot_setSlot_same _ _ _), rfl, rfl⟩

theorem reportAt_reported (me : LaneId) (src : Byte) (loc a b : Word) (L : LaneSt) : Reported L (reportAt me src loc a b L) src := by
  intro hnone hfree
  unfold reportAt
  dsimp only
  split
  case h_1 r hr => exact absurd (hr.symm.trans hnone) (Option.some_ne_none r)
  case h_2 => exact latchOwn_latches me src loc a b hfree

theorem report_reported (me : LaneId) (src : Byte) (unit cell : Nat) (L : LaneSt) : Reported L (report me src unit cell L) src :=
  reportAt_reported _ _ _ _ _ _

theorem Reported.congr {L M N : LaneSt} {src : Byte} (h : Reported L M src) (hslot : N.int.slot (faultClass src) = M.int.slot (faultClass src)) :
    Reported L N src := by
  intro hnone hfree
  rw [hslot]
  exact h hnone hfree

theorem latchOwn_herdTx (me : LaneId) (src : Byte) (loc a b : Word) (L : LaneSt) : L.herdTx <+: (latchOwn me src loc a b L).herdTx := by
  have hposts : ∀ i r, L.herdTx <+: (postFault me r { L with int := i }).herdTx := fun i r => (postFault_keeps me r { L with int := i }).2
  unfold latchOwn
  dsimp only
  split
  · exact hposts _ _
  · split
    · exact List.prefix_rfl
    · exact hposts _ _

theorem report_herdTx (me : LaneId) (src : Byte) (unit cell : Nat) (L : LaneSt) : L.herdTx <+: (report me src unit cell L).herdTx := by
  have hposts : ∀ i r, L.herdTx <+: (postFault me r { L with int := i }).herdTx := fun i r => (postFault_keeps me r { L with int := i }).2
  have hlatch : ∀ i loc a b, L.herdTx <+: (latchOwn me src loc a b { L with int := i }).herdTx := fun i loc a b =>
    latchOwn_herdTx me src loc a b { L with int := i }
  unfold report reportAt
  dsimp only
  split
  · split
    · exact hposts _ _
    · exact hlatch _ _ _ _
  · exact hlatch _ _ _ _

/-! ## A bridge fault (07 R256) -/

/-- A bridge fault sends BRIDGE_DOWN, is reported by a running lane, and leaves the drive and the gates. -/
theorem bridgeReport_tells (me : LaneId) (src : Byte) (unit : Nat) (ev : Byte) (L : LaneSt) :
    let M := bridgeReport me src unit ev L
    M.mot = L.mot ∧ M.gate = L.gate ∧ .bridgeDown ∈ M.herdTx ∧ (L.running = true → Reported L M src) := by
  have hsent : HerdMsg.bridgeDown ∈ (send .bridgeDown L).herdTx := by simp
  intro M
  by_cases hrun : L.running = true
  · have hM : M = postGate me ev (report me src unit 0 (send .bridgeDown L)) := if_pos hrun
    have hreport := report_only me src unit 0 (send .bridgeDown L)
    have hpost : EventOnly (report me src unit 0 (send .bridgeDown L)) (postGate me ev (report me src unit 0 (send .bridgeDown L))) :=
      arrive_only _ _ _ _ _
    rw [hM]
    refine ⟨hpost.mot_eq.trans hreport.mot_eq, hpost.gate_eq.trans hreport.gate_eq, ?_, fun _ => ?_⟩
    · exact hpost.herdTx_eq ▸ (report_herdTx me src unit 0 _).subset hsent
    · exact (report_reported me src unit 0 (send .bridgeDown L)).congr (hpost.intKept.slot _)
  · have hM : M = send .bridgeDown L := if_neg hrun
    rw [hM]
    exact ⟨rfl, rfl, hsent, fun h => absurd h hrun⟩

end Sys2Proof.Machine
end

section

namespace Sys2Proof.Machine

/-! ## Decisions on the safe state (02 R67–R81): what they leave of the lanes and their faults -/

/-- From `L` to `M` the LANE engine and the standing faults are as before, and no message is taken back. -/
structure KeepsLanes (L M : LaneSt) : Prop where
  eng : M.eng = L.eng
  faults : M.safe.faults = L.safe.faults
  herd : L.herdTx <+: M.herdTx

theorem KeepsLanes.refl (L : LaneSt) : KeepsLanes L L := ⟨rfl, rfl, List.prefix_rfl⟩

theorem KeepsLanes.trans {L M N : LaneSt} (h : KeepsLanes L M) (k : KeepsLanes M N) : KeepsLanes L N :=
  ⟨k.eng.trans h.eng, k.faults.trans h.faults, h.herd.trans k.herd⟩

theorem TasksEnd.keepsLanes {L M : LaneSt} (h : TasksEnd L M) : KeepsLanes L M := ⟨h.eng_eq, congrArg SafeEng.faults h.safe_eq, h.herd⟩

theorem EventOnly.keepsLanes {L M : LaneSt} (h : EventOnly L M) : KeepsLanes L M := h.tasksEnd.keepsLanes

theorem setSafe_keepsLanes (me : LaneId) (n : Safe) (L : LaneSt) : KeepsLanes L (setSafe me n L) := by
  unfold setSafe
  split
  · exact .refl L
  · exact KeepsLanes.trans (M := { L with safe := { L.safe with state := n, stateTime := L.now, stateUnsync := L.unsync } })
      ⟨rfl, rfl, List.prefix_rfl⟩ (arrive_only _ _ _ _ _).keepsLanes

theorem abortLearn_keepsLanes (me : LaneId) (L : LaneSt) : KeepsLanes L (abortLearn me L) :=
  KeepsLanes.trans (M := { L with learn := {} }) ⟨rfl, rfl, List.prefix_rfl⟩ (abortLearn_only me L).keepsLanes

theorem disableMotion_keepsLanes (me : LaneId) (L : LaneSt) : KeepsLanes L (disableMotion me L) :=
  have hoff := disableMotion_off me L
  ⟨hoff.eng, congrArg SafeEng.faults hoff.safe, hoff.herd⟩

theorem coltApply_keepsLanes (me : LaneId) (L : LaneSt) : KeepsLanes L (coltApply me L) := by
  have hsame : ∀ g x, KeepsLanes L { L with gate := g, start := x } := fun _ _ => ⟨rfl, rfl, List.prefix_rfl⟩
  unfold coltApply
  split
  · exact .refl L
  · split
    case h_1 => exact hsame _ _
    case h_2 => split <;> exact hsame _ _
    case h_3 => split <;> exact hsame _ _
    case h_4 => split <;> exact hsame _ _

theorem coltBegin_keepsLanes (me : LaneId) (L : LaneSt) : KeepsLanes L (coltBegin me L) := by
  have hjudge : ∀ b x m, KeepsLanes L (if b = true then coltJudge { L with start := x, mot := m } else { L with start := x, mot := m }) := by
    intro b x m
    split <;> exact ⟨rfl, rfl, List.prefix_rfl⟩
  exact (hjudge _ _ _).trans (coltApply_keepsLanes _ _)

theorem coltCharged_true_keepsLanes (me : LaneId) (L : LaneSt) : KeepsLanes L (coltCharged me true L) := ⟨rfl, rfl, List.prefix_rfl⟩

theorem coltEndState_keepsLanes (me : LaneId) (driven : Bool) (L : LaneSt) : KeepsLanes L (coltEndState me driven L) := by
  have hready : KeepsLanes L { L with start := { L.start with coltReady := true } } := ⟨rfl, rfl, List.prefix_rfl⟩
  have hbegin := hready.trans (coltBegin_keepsLanes me _)
  unfold coltEndState
  dsimp only
  split
  · exact hbegin.trans (coltCharged_true_keepsLanes _ _)
  · exact hbegin

theorem bridgeTo_keepsLanes (me : LaneId) (e : EndState) (L : LaneSt) : KeepsLanes L (bridgeTo me e L) := by
  unfold bridgeTo
  dsimp only
  split
  · exact ⟨rfl, rfl, List.prefix_rfl⟩
  · split
    case h_1 => exact ⟨rfl, rfl, List.prefix_rfl⟩
    case h_2 =>
      refine KeepsLanes.trans ?_ (coltEndState_keepsLanes _ _ _)
      exact ⟨rfl, rfl, List.prefix_rfl⟩
    case h_3 => exact ⟨rfl, rfl, List.prefix_rfl⟩

theorem stopNow_keepsLanes (me : LaneId) (cause : Byte) (e : EndState) (L : LaneSt) : KeepsLanes L (stopNow me cause e L) := by
  have hoff : KeepsLanes L (bridgeTo me e (disableMotion me (abortWaiting me none motionWaiting L))) :=
    ((abortWaiting_tasksEnd _ _ _ _).keepsLanes.trans (disableMotion_keepsLanes _ _)).trans (bridgeTo_keepsLanes _ _ _)
  unfold stopNow
  generalize bridgeTo me e (disableMotion me (abortWaiting me none motionWaiting L)) = M at hoff ⊢
  refine KeepsLanes.trans (hoff.trans ?_) (setSafe_keepsLanes _ _ _)
  exact ⟨rfl, rfl, List.prefix_rfl⟩

theorem startSs1_keepsLanes (me : LaneId) (cause : Byte) (L : LaneSt) : KeepsLanes L (startSs1 me cause L) := by
  unfold startSs1
  split
  · exact .refl L
  · split
    · exact stopNow_keepsLanes _ _ _ _
    · have hlearn := abortLearn_keepsLanes me L
      generalize abortLearn me L = M at hlearn ⊢
      refine KeepsLanes.trans (hlearn.trans ?_) (setSafe_keepsLanes _ _ _)
      exact ⟨rfl, rfl, List.prefix_rfl⟩

theorem enterMule_keepsLanes (me : LaneId) (m : Nat) (L : LaneSt) : KeepsLanes L (enterMule me m L) := by
  have hlearn := abortLearn_keepsLanes me L
  unfold enterMule postMule
  generalize abortLearn me L = M at hlearn ⊢
  refine KeepsLanes.trans ?_ (arrive_only _ _ _ _ _).keepsLanes
  refine KeepsLanes.trans (hlearn.trans ?_) (setSafe_keepsLanes _ _ _)
  exact ⟨rfl, rfl, List.prefix_rfl⟩

theorem keepConds_keepsLanes {me : LaneId} {L M : LaneSt} (h : KeepsLanes L M) : KeepsLanes L (keepConds me M) :=
  ⟨h.eng, h.faults, h.herd⟩

theorem decideState_keepsLanes (me : LaneId) (L : LaneSt) : KeepsLanes L (decideState me L) := by
  have hkeep := keepConds_keepsLanes (me := me) (KeepsLanes.refl L)
  have hstop : ∀ cause e, KeepsLanes L (keepConds me (stopNow me cause e L)) := fun _ _ => keepConds_keepsLanes (stopNow_keepsLanes _ _ _ _)
  unfold decideState
  dsimp only
  split
  case h_1 => exact hkeep
  case h_2 => exact hkeep
  case h_3 =>
    split
    · exact hkeep
    · split
      · exact hstop _ _
      · split
        · exact hkeep
        · split
          · split
            · split
              · exact keepConds_keepsLanes (startSs1_keepsLanes _ _ _)
              · exact hstop _ _
            · exact hkeep
          · split
            · exact keepConds_keepsLanes (enterMule_keepsLanes _ _ _)
            · exact keepConds_keepsLanes (setSafe_keepsLanes _ _ _)

/-! ## A lane leaves the healthy set (02 R64, R65) -/

theorem hasFault_addFault (f : Standing) (L : LaneSt) : (addFault f L).hasFault f.kind f.lane = true := by
  have hstands : f ∈ (addFault f L).safe.faults := by
    unfold addFault
    split
    · rename_i h; simpa using h
    · simp
  exact List.any_eq_true.mpr ⟨f, hstands, by simp⟩

theorem hasFault_congr {L M : LaneSt} (h : M.safe.faults = L.safe.faults) (k : FKind) (l : LaneId) : M.hasFault k l = L.hasFault k l := by
  unfold LaneSt.hasFault
  rw [h]

/-- What the lane knows of who is healthy, and its safe state, are as before. -/
def KeepsHealthy (L M : LaneSt) : Prop := M.eng.healthy = L.eng.healthy ∧ M.safe = L.safe

theorem KeepsHealthy.trans {L M N : LaneSt} (h : KeepsHealthy L M) (k : KeepsHealthy M N) : KeepsHealthy L N :=
  ⟨k.1.trans h.1, k.2.trans h.2⟩

theorem TasksEnd.keepsHealthy {L M : LaneSt} (h : TasksEnd L M) : KeepsHealthy L M := ⟨congrArg LaneEng.healthy h.eng_eq, h.safe_eq⟩

theorem setAcceptMask_keepsHealthy (me : LaneId) (L : LaneSt) : KeepsHealthy L (setAcceptMask me L) := by
  unfold setAcceptMask
  split <;> exact ⟨rfl, rfl⟩

theorem closeGander_keepsHealthy (me j : LaneId) (L : LaneSt) : KeepsHealthy L (closeGander me j L) := by
  unfold closeGander
  split
  · exact ⟨rfl, rfl⟩
  · split <;> exact ⟨rfl, rfl⟩

theorem numberOwn_keepsHealthy (me : LaneId) (t : Task) (L : LaneSt) : KeepsHealthy L (numberOwn me t L) := by
  unfold numberOwn
  dsimp only
  split <;> exact ⟨rfl, rfl⟩

theorem askNumber_keepsHealthy (me : LaneId) (t : Task) (L : LaneSt) : KeepsHealthy L (askNumber me t L) := by
  unfold askNumber
  split
  · exact numberOwn_keepsHealthy me t L
  · exact ⟨rfl, rfl⟩

theorem renumber_keepsHealthy (me : LaneId) (L : LaneSt) : KeepsHealthy L (renumber me L) := by
  unfold renumber
  generalize L.host.tasks.filter _ = ts
  induction ts generalizing L with
  | nil => exact ⟨rfl, rfl⟩
  | cons t ts ih => exact (askNumber_keepsHealthy me t L).trans (ih _)

theorem dropHealthy_drops (me j : LaneId) (L : LaneSt) :
    (dropHealthy me j L).eng.healthy = L.eng.healthy.set j false ∧ (dropHealthy me j L).safe = L.safe := by
  unfold dropHealthy
  extract_lets _ e K
  have hK : KeepsHealthy { L with eng := e } K :=
    ((closeGander_keepsHealthy _ _ _).trans (setAcceptMask_keepsHealthy _ _)).trans (closeSettled_tasksEnd _ _).keepsHealthy
  split
  · exact hK.trans (renumber_keepsHealthy _ _)
  · exact hK

/-- A healthy lane that is declared lost leaves the healthy set, and its L fault stands. -/
theorem declareLost_drops (me : LaneId) {j : LaneId} {L : LaneSt} (hj : L.eng.healthy.get j = true) :
    (declareLost me j L).eng.healthy = L.eng.healthy.set j false ∧ (declareLost me j L).hasFault .lane j = true := by
  have hdrop := dropHealthy_drops me j (addFault { kind := .lane, lane := j } L)
  have hfault := hasFault_addFault { kind := .lane, lane := j } L
  unfold declareLost
  rw [hj, Bool.not_true, if_neg Bool.false_ne_true]
  extract_lets L'
  have hpost : KeepsLanes (dropHealthy me j (addFault { kind := .lane, lane := j } L)) L' := (arrive_only _ _ _ _ _).keepsLanes
  have hlost : L'.eng.healthy = L.eng.healthy.set j false ∧ L'.hasFault .lane j = true := by
    refine ⟨(congrArg LaneEng.healthy hpost.eng).trans (hdrop.1.trans (by rw [addFault_eng])), ?_⟩
    rw [hasFault_congr hpost.faults, hasFault_congr (congrArg SafeEng.faults hdrop.2)]
    exact hfault
  split
  · have hrole : KeepsLanes L' (postRole me 1 L') := (arrive_only _ _ _ _ _).keepsLanes
    exact ⟨(congrArg LaneEng.healthy hrole.eng).trans hlost.1, (hasFault_congr hrole.faults _ _).trans hlost.2⟩
  · exact hlost

/-- A healthy lane that is excluded leaves the healthy set, its L fault stands, and EXCLUDE is sent (02 R64). -/
theorem exclude_excludes (me : LaneId) {j : LaneId} {L : LaneSt} (hj : L.eng.healthy.get j = true) :
    (exclude me j L).eng.healthy = L.eng.healthy.set j false ∧ .exclude j ∈ (exclude me j L).herdTx
      ∧ (exclude me j L).hasFault .lane j = true := by
  obtain ⟨hhealthy, hfault⟩ := declareLost_drops me hj
  unfold exclude
  rw [hj, Bool.not_true, if_neg Bool.false_ne_true]
  exact ⟨hhealthy, by simp, hfault⟩

end Sys2Proof.Machine
end

section

namespace Sys2Proof.Machine

/-! ## The end of an enable that energises nothing (05 R196) -/

theorem finishEnable_tasksEnd (me : LaneId) (on : Bool) (L : LaneSt) :
    TasksEnd { L with mot := { L.mot with enableTids := [] } } (finishEnable me on L) :=
  .foldl (fun _ _ => finishTask_tasksEnd _ _ _ _) _ _

theorem cancelEnable_mot (me : LaneId) (L : LaneSt) :
    ∃ f, (cancelEnable me L).mot = { L.mot with enable := .idle, fly := f, enableTids := [] } := by
  unfold cancelEnable
  split
  case isTrue hidle =>
    have hidle : L.mot.enable = .idle := by simpa using hidle
    refine ⟨L.mot.fly, ?_⟩
    rw [(finishEnable_tasksEnd me false L).mot_eq, ← hidle]
  case isFalse =>
    refine ⟨false, ?_⟩
    dsimp only
    rw [(finishEnable_tasksEnd me false _).mot_eq]
    split <;> rfl

/-- An enable that has not reached its precharge, or whose precharge is over, ends with the gates as they are. -/
theorem cancelEnable_gate (me : LaneId) {L : LaneSt} (h : L.gate.demand = .allOff) : (cancelEnable me L).gate = L.gate := by
  unfold cancelEnable
  split
  · exact (finishEnable_tasksEnd me false L).gate_eq
  · dsimp only
    rw [(finishEnable_tasksEnd me false _).gate_eq, if_neg (by simp [h])]

/-! ## Share ramps (05 R180) -/

theorem exec_shareOut {l j : LaneId} {s : State} (hne : j ≠ l) (hrun : (s.lane l).running = true) :
    exec (.shareOut l j) s = .next (s.setLane l (startWithdraw j (s.lane l))) :=
  (onLaneIf_pos l _ (fun L => if j = l then L else startWithdraw j L) s hrun).trans
    (congrArg (fun L => Host.Outcome.next (s.setLane l L)) (if_neg hne))

theorem exec_shareRampEnd {l : LaneId} (j : LaneId) {s : State} (hrun : (s.lane l).running = true) :
    exec (.shareRampEnd l j) s = .next (s.setLane l (rampEnd l j (s.lane l))) :=
  onLaneIf_pos l _ _ s hrun

/-- A ramp starts from the present weight, which stays. -/
theorem startWithdraw_of_weight {j : LaneId} {L : LaneSt} (hw : L.mot.w.get j ≠ 0) :
    startWithdraw j L
      = { L with mot := { L.mot with ramp := L.mot.ramp.set j (some (newRamp L.host.run false (L.mot.w.get j))) } } := by
  rw [startWithdraw, if_neg hw, setWeight, Tri.set_get]

/-- The withdrawing lane itself, at the end of its ramp: its gates go off, and an enable under way ends. -/
def withdrawn (me : LaneId) (L : LaneSt) : LaneSt :=
  let L := cancelEnable me (gatesOff (loseShare me true L))
  if L.sen.sharingOut then { L with sen := { L.sen with sharingOut := false, source := .none } } else L

/-- A downward ramp at its end. -/
theorem rampEnd_of_ended (me j : LaneId) {L : LaneSt} {r : Ramp} (hr : L.mot.ramp.get j = some r) (hdown : r.up = false)
    (hend : r.ended = true) : rampEnd me j L = if j = me then withdrawn me L else loseShare j true L := by
  unfold rampEnd
  simp only [hr, hdown, hend, Bool.not_false, Bool.and_self, if_true]
  refine ite_congr rfl (fun heq => ?_) (fun _ => rfl)
  rw [heq]
  rfl

theorem withdrawn_off (me : LaneId) (L : LaneSt) :
    (withdrawn me L).mot.w = L.mot.w.set me 0 ∧ (withdrawn me L).mot.ramp = L.mot.ramp.set me none
      ∧ (withdrawn me L).mot.energised = false ∧ (withdrawn me L).gate.demand = .allOff := by
  obtain ⟨f, hmot⟩ := cancelEnable_mot me (gatesOff (loseShare me true L))
  have hgate : (cancelEnable me (gatesOff (loseShare me true L))).gate = _ := cancelEnable_gate me rfl
  have hkept : (withdrawn me L).mot = (cancelEnable me (gatesOff (loseShare me true L))).mot
      ∧ (withdrawn me L).gate = (cancelEnable me (gatesOff (loseShare me true L))).gate := by
    unfold withdrawn
    dsimp only
    split <;> exact ⟨rfl, rfl⟩
  rw [hkept.1, hkept.2, hmot, hgate]
  exact ⟨rfl, rfl, rfl, rfl⟩

/-! ## Delivered torque (05 R182) -/

theorem exec_tqDevCount {l : LaneId} (j : LaneId) {s : State} (hrun : (s.lane l).running = true) :
    exec (.tqDevCount l j) s = .next (s.setLane l (tqDevReached l j (s.lane l))) :=
  onLaneIf_pos l _ _ s hrun

theorem exec_tqDevEnergisedCheck {l : LaneId} (j : LaneId) {s : State} (hrun : (s.lane l).running = true) :
    exec (.tqDevEnergisedCheck l j) s = .next (s.setLane l (tqDevStill l j (s.lane l))) :=
  onLaneIf_pos l _ _ s hrun

/-- The lane's own count at its limit raises a W fault on the lane, and leaves its drive. -/
theorem tqDevReached_own (me : LaneId) {L : LaneSt} (hcount : L.host.run.nat Item.tqDevCount ≤ (L.eng.devCnt.get me).toNat)
    (hown : L.ownW me = false) :
    let M := tqDevReached me me L
    M.hasFault .winding me = true ∧ Reported L M 0x3B ∧ M.mot = L.mot ∧ M.gate = L.gate := by
  have hraised : tqDevReached me me L
      = addFault { kind := .winding, lane := me, src := 0x3B } (report me 0x3B 0 0 { L with eng := { L.eng with ucRaised := true } }) := by
    unfold tqDevReached
    simp only [decide_true, Bool.true_and, decide_eq_true hcount, if_true, hown, Bool.false_eq_true, if_false]
    rfl
  have hreport := report_reported me 0x3B 0 0 { L with eng := { L.eng with ucRaised := true } }
  intro M
  have hM : M = _ := hraised
  rw [hM]
  refine ⟨hasFault_addFault _ _, Reported.congr (L := L) hreport ?_, ?_, ?_⟩
  · rw [addFault_int]
  · rw [addFault_mot, report_mot]
  · rw [addFault_gate, report_gate]

/-- A lane that is still ENERGISED 1 ms after its count reached the limit is excluded. -/
theorem tqDevStill_excludes {me j : LaneId} {L : LaneSt} {h : Held} (hne : j ≠ me) (hj : L.eng.healthy.get j = true)
    (hrec : L.eng.recs.get j = some h) (hon : h.r.health.getLsbD 6 = true) (hhit : L.eng.devHit.get j = true) :
    (tqDevStill me j L).eng.healthy = L.eng.healthy.set j false ∧ .exclude j ∈ (tqDevStill me j L).herdTx
      ∧ (tqDevStill me j L).hasFault .lane j = true := by
  have hdecides : tqDevStill me j L
      = decideState me (exclude me j { L with eng := { L.eng with devHit := L.eng.devHit.set j false } }) := by
    unfold tqDevStill
    simp only [hrec, hon, hhit, Bool.and_true, bne_iff_ne, ne_eq, hne, not_false_eq_true, if_true]
  obtain ⟨hhealthy, hsent, hfault⟩ := exclude_excludes me (L := { L with eng := { L.eng with devHit := L.eng.devHit.set j false } }) hj
  have hkeeps := decideState_keepsLanes me (exclude me j { L with eng := { L.eng with devHit := L.eng.devHit.set j false } })
  rw [hdecides]
  exact ⟨(congrArg LaneEng.healthy hkeeps.eng).trans hhealthy, hkeeps.herd.subset hsent, (hasFault_congr hkeeps.faults _ _).trans hfault⟩

theorem exec_hallNoEdgeTimeout {l : LaneId} {s : State} (hrun : (s.lane l).running = true) (hnone : (s.lane l).sen.hallSpdValid = false) :
    exec (.hallNoEdgeTimeout l) s = .next (s.setLane l { s.lane l with mot := { (s.lane l).mot with revSlow := true } }) :=
  onLaneIf_pos l (fun L => L.running && !L.sen.hallSpdValid) (fun L => { L with mot := { L.mot with revSlow := true } }) s
    (by simp [hrun, hnone])

/-- Settles O35: `startWithdraw_of_weight` and `withdrawn_off` say what the two ends of a ramp do, `tqDevReached_own` and `tqDevStill_excludes`
what a count at its limit brings on the lane itself and on the others. -/
theorem torqueShares : Obligations.TorqueShares := by
  unfold Obligations.TorqueShares
  intro l j s L hrun
  refine ⟨fun hne hw => ?out, fun r hr hdown hend => ?ends, fun hcount hown => ?count,
    fun h hne hj hrec hon hhit => ?check, fun hnone => exec_hallNoEdgeTimeout hrun hnone⟩
  case out => rw [exec_shareOut hne hrun, startWithdraw_of_weight hw]
  case ends =>
    refine ⟨_, exec_shareRampEnd j hrun, ?_⟩
    rw [lane_setLane_same, rampEnd_of_ended l j hr hdown hend]
    by_cases heq : j = l
    · obtain ⟨hw, hramp, hoff, hgates⟩ := withdrawn_off l L
      subst heq
      rw [if_pos rfl]
      exact ⟨hw, hramp, fun _ => ⟨hoff, hgates⟩, fun hne => absurd rfl hne⟩
    · rw [if_neg heq]
      exact ⟨rfl, rfl, fun h => absurd h heq, fun _ => ⟨rfl, rfl⟩⟩
  case count =>
    refine ⟨_, exec_tqDevCount l hrun, ?_⟩
    rw [lane_setLane_same]
    exact tqDevReached_own l hcount hown
  case check =>
    refine ⟨_, exec_tqDevEnergisedCheck j hrun, ?_⟩
    rw [lane_setLane_same]
    exact tqDevStill_excludes hne hj hrec hon hhit

end Sys2Proof.Machine
end

section

namespace Sys2Proof.Machine

/-! ## MOTION_ENABLE (05 R191, R196) -/

theorem exec_motionEnable (c : Ctx) (blk : List Byte) (s : State) :
    exec (.motionEnable c blk) s = runOp 0x0301 c blk (opMotionEnable c.lane c.tid c.sender blk) s := rfl

/-- The lane with motion enabled, before its bridge follows. -/
def motionOn (L : LaneSt) : LaneSt :=
  { L with mot := { L.mot with
      enabled := true, disableReq := none, stoHold := L.mot.stoHold && !L.gate.stoHigh,
      offsetsDue := L.mot.offsetsDue || !L.mot.energised, flyDue := L.mot.flyDue || !L.mot.energised } }

/-- In an active graph, outside a stop, with a winding whose STO_N is high and no speed in the way, the command has its effect. -/
theorem opMotionEnable_passes (me : LaneId) (tid : Nat) (h : Sender) {L : LaneSt} (hmin : L.minimal = false)
    (hgraph : L.ox.graphState = .active) (hcolt : L.safe.state ≠ .colt) (hstop : L.safe.state ≠ .stopped) (hss1 : L.safe.ss1 = none)
    (hsto : ∃ j, L.host.run.hasWinding j = true ∧ L.stoOf me j = false) (hspeed : L.mot.enabled = true ∨ tooFast L = false) :
    opMotionEnable me tid h [] L = enableLane me tid L := by
  obtain ⟨j, hwinding, hhigh⟩ := hsto
  have hdriven : ((LaneId.all.filter L.host.run.hasWinding).all (L.stoOf me)) = false :=
    List.all_eq_false.mpr ⟨j, List.mem_filter.mpr ⟨by cases j <;> decide, hwinding⟩, by simp [hhigh]⟩
  unfold opMotionEnable
  dsimp only
  rw [checked_cons noBlock_nil, checked_cons (by simp [minimalOk_of_not_minimal _ hmin, hgraph, hcolt, hss1]),
    checked_cons (by simp [hdriven, hstop]), checked_cons (by simpa using hspeed), checked_nil]

theorem opMotionEnable_without_graph (me : LaneId) (tid : Nat) (h : Sender) {L : LaneSt} (hgraph : L.ox.graphState ≠ .active) :
    opMotionEnable me tid h [] L = (L, some (failRes stNotInState)) := by
  have hbars : (minimalOk 0x0301 L && L.ox.graphState == .active && L.safe.state != .colt && L.safe.ss1.isNone) = false := by simp [hgraph]
  unfold opMotionEnable
  dsimp only
  rw [checked_cons noBlock_nil, hbars, checked_false]

/-- What follows on a lane with motion enabled: nothing on an energised winding, the steps of the enable on one that may be driven, and gates
off on any other. -/
def followEnable (me : LaneId) (tid : Nat) (L : LaneSt) : LaneSt × Option LaneRes :=
  if L.mot.energised then (L, some (resultRes (laneBit me)))
  else if L.mot.enable != .idle then ({ L with mot := { L.mot with enableTids := L.mot.enableTids ++ [tid] } }, none)
  else if L.mayDrive me && L.drivePos then (startOffsets true { L with mot := { L.mot with enableTids := [tid] } }, none)
  else (gatesOff L, some (resultRes 0))

theorem enableLane_of_not_stopped (me : LaneId) (tid : Nat) {L : LaneSt} (h : L.safe.state ≠ .stopped) :
    enableLane me tid L = followEnable me tid (motionOn L) := by
  have hleave : leaveStop me (motionOn L) = motionOn L := by
    rw [leaveStop, if_neg (by simpa [motionOn] using h)]
  have heq : enableLane me tid L = followEnable me tid (leaveStop me (motionOn L)) := rfl
  rw [heq, hleave]

theorem followEnable_energised (me : LaneId) (tid : Nat) {L : LaneSt} (hon : L.mot.energised = true) :
    followEnable me tid L = (L, some (resultRes (laneBit me))) := by
  rw [followEnable, if_pos hon]

theorem followEnable_drivable (me : LaneId) (tid : Nat) {L : LaneSt} (hoff : L.mot.energised = false) (hidle : L.mot.enable = .idle)
    (hdrive : L.mayDrive me = true) (hpos : L.drivePos = true) :
    followEnable me tid L = (startOffsets true { L with mot := { L.mot with enableTids := [tid] } }, none) := by
  rw [followEnable, if_neg (by simp [hoff]), if_neg (by simp [hidle]), if_pos (by rw [hdrive, hpos]; rfl)]

theorem followEnable_not_drivable (me : LaneId) (tid : Nat) {L : LaneSt} (hoff : L.mot.energised = false) (hidle : L.mot.enable = .idle)
    (hdrive : L.mayDrive me = false) : followEnable me tid L = (gatesOff L, some (resultRes 0)) := by
  rw [followEnable, if_neg (by simp [hoff]), if_neg (by simp [hidle]), if_neg (by simp [hdrive])]

/-- With no reaction to a short circuit in force, gates that are not demanded are off (07 Table 7-1). -/
theorem allGatesOff_of_demand (me : LaneId) {L : LaneSt} (hreact : L.gate.reaction = .none) (hdemand : L.gate.demand = .allOff) :
    AllGatesOff me L := by
  simp [AllGatesOff, gateCommanded, hreact, hdemand]

theorem reaction_of_mayDrive {me : LaneId} {L : LaneSt} (h : L.mayDrive me = true) : L.gate.reaction = .none := by
  simp only [LaneSt.mayDrive, Bool.and_eq_true, beq_iff_eq] at h
  obtain ⟨⟨⟨⟨⟨-, hreact⟩, -⟩, -⟩, -⟩, -⟩ := h
  exact hreact

/-! ## The steps of an enable (05 R171, 07 R247, R256) -/

theorem exec_offsetMeasurementDone {l : LaneId} (a b : Half) {s : State} (hrun : (s.lane l).running = true) :
    exec (.offsetMeasurementDone l a b) s = .next (s.setLane l (offsetsDone l a b (s.lane l))) :=
  onLaneIf_pos l _ _ s hrun

theorem exec_prechargeEnd {l : LaneId} (charged : Bool) {s : State} (hpower : (s.lane l).powered = true) :
    exec (.prechargeEnd l charged) s = .next (s.setLane l (prechargeEnd l charged (s.lane l))) :=
  onLaneIf_pos l _ _ s hpower

/-- With no command waiting for it, an enable under way only ends. -/
theorem cancelEnable_of_no_tids (me : LaneId) {L : LaneSt} (hstep : L.mot.enable ≠ .idle) (hgates : L.gate.demand = .allOff)
    (hnone : L.mot.enableTids = []) :
    cancelEnable me L = { L with mot := { L.mot with enable := .idle, fly := false, enableTids := [] } } := by
  have hunder : (L.mot.enable == .idle) = false := by simpa using hstep
  have hnoLows : (L.gate.demand == .precharge) = false := by rw [hgates]; rfl
  unfold cancelEnable finishEnable
  simp only [hunder, hnoLows, hnone, Bool.false_eq_true, if_false, List.foldl_nil]

/-- The precharge of an enable is over, and no command waits for it: a bootstrap still low ends the enable, as a bridge fault. -/
theorem prechargeEnd_fails (me : LaneId) {L : LaneSt} (hstep : L.mot.enable = .precharge) (hnone : L.mot.enableTids = []) :
    let M := prechargeEnd me false L
    M.mot.enable = .idle ∧ M.gate.demand = .allOff ∧ M.gate.prechargeFail = true ∧ .bridgeDown ∈ M.herdTx
      ∧ (L.running = true → Reported L M 0x45) := by
  have hcancel := cancelEnable_of_no_tids me
    (L := { L with gate := { L.gate with demand := .allOff, prechargeFail := true, pendPre := true } })
    (fun hidle => by rw [hstep] at hidle; cases hidle) rfl hnone
  have hends : prechargeEnd me false L = bridgeReport me 0x45 3 0x43 (cancelEnable me
      { L with gate := { L.gate with demand := .allOff, prechargeFail := true, pendPre := true } }) := by
    unfold prechargeEnd
    rw [if_pos (beq_iff_eq.mpr hstep)]
    rfl
  obtain ⟨hmot, hgate, hsent, hreport⟩ := bridgeReport_tells me 0x45 3 0x43 (cancelEnable me
      { L with gate := { L.gate with demand := .allOff, prechargeFail := true, pendPre := true } })
  rw [← hends] at hmot hgate hsent hreport
  rw [hcancel] at hmot hgate hreport
  intro M
  rw [hmot, hgate]
  exact ⟨rfl, rfl, rfl, hsent, hreport⟩

/-- Settles O32: the command follows the case of its lane's winding (`followEnable`), and `prechargeEnd_fails` says what a failed precharge
leaves. -/
theorem motionEnable : Obligations.MotionEnable := by
  unfold Obligations.MotionEnable
  intro c s L E
  refine ⟨fun hready hmin hgraph hcolt hstop hss1 hsto hspeed => ?opcode, fun hready hmin hgraph => ?refused,
    ?offsets, fun hpower hstep => ?precharge⟩
  case opcode =>
    have hop : opMotionEnable c.lane c.tid c.sender [] L = followEnable c.lane c.tid E :=
      (opMotionEnable_passes c.lane c.tid c.sender hmin hgraph hcolt hstop hss1 hsto hspeed).trans (enableLane_of_not_stopped _ _ hstop)
    rw [exec_motionEnable]
    refine ⟨fun hon => runOp_ended hready (hop.trans (followEnable_energised _ _ hon)), fun hoff hidle hdrive hpos => ?_,
      fun hoff hidle hdrive => runOp_ended hready (hop.trans (followEnable_not_drivable _ _ hoff hidle hdrive))⟩
    exact ⟨_, runOp_going hready (hop.trans (followEnable_drivable _ _ hoff hidle hdrive hpos)), rfl, rfl, rfl,
      allGatesOff_of_demand c.lane (reaction_of_mayDrive hdrive) rfl, rfl, rfl, rfl⟩
  case refused =>
    rw [exec_motionEnable]
    exact runOp_ended hready (opMotionEnable_without_graph _ _ _ hgraph)
  case offsets =>
    intro a b O hrun hstep hdrive hpos
    have hdone : offsetsDone c.lane a b L = startPrecharge O := by
      unfold offsetsDone
      rw [if_pos (beq_iff_eq.mpr hstep)]
      exact if_pos (by rw [hdrive, hpos]; rfl)
    rw [exec_offsetMeasurementDone a b hrun]
    exact congrArg (fun M => Host.Outcome.next (s.setLane c.lane M)) hdone
  case precharge =>
    refine ⟨?_, fun hnone => ?_⟩
    · rw [exec_prechargeEnd true hpower]
      refine congrArg (fun M => Host.Outcome.next (s.setLane c.lane M)) ?_
      unfold prechargeEnd
      rw [if_pos (beq_iff_eq.mpr hstep)]
      rfl
    · refine ⟨_, exec_prechargeEnd false hpower, ?_⟩
      rw [lane_setLane_same]
      exact prechargeEnd_fails c.lane hstep hnone

end Sys2Proof.Machine
end

section

namespace Sys2Proof.Machine

/-! ## Updates of the sensors -/

/-- The lane `L` with another SENSE engine. -/
def SenOnly (L M : LaneSt) : Prop := M = { L with sen := M.sen }

theorem SenOnly.trans {L M N : LaneSt} (h : SenOnly L M) (k : SenOnly M N) : SenOnly L N := by
  unfold SenOnly at *
  rw [k, h]

theorem SenOnly.gate_eq {L M : LaneSt} (h : SenOnly L M) : M.gate = L.gate := by rw [h]
theorem SenOnly.herdTx_eq {L M : LaneSt} (h : SenOnly L M) : M.herdTx = L.herdTx := by rw [h]

theorem SenOnly.put (L : LaneSt) (x : SenEng) : SenOnly L { L with sen := x } := rfl

/-- After an update of the sensors, events leave all but the sensors. -/
theorem SenOnly.events {L K M : LaneSt} (h : SenOnly L K) (k : EventOnly K M) : EventOnly { L with sen := M.sen } M := by
  unfold SenOnly at h
  unfold EventOnly at *
  rw [k, h]
  rfl

theorem postSense_only (me : LaneId) (src : Byte) (cls : BitVec 3) (L : LaneSt) : EventOnly L (postSense me src cls L) :=
  arrive_only _ _ _ _ _

/-! ## The position word and its phase (00 R8, 06 R203) -/

/-- A phase and the difference from it to a new one, modulo one period, give the new one. -/
theorem add_phase_diff (old new : Half) : old + (new - old) = new :=
  (BitVec.add_comm _ _).trans (BitVec.sub_add_cancel new old)

/-- The phase after a step of the wrapped difference to a new one is the new one. -/
theorem phase_add_diff (old new : Half) : BitVec.ofInt 16 ((old.toNat : Int) + (new - old).toInt) = new := by
  rw [BitVec.ofInt_add, BitVec.ofInt_toInt, BitVec.ofInt_natCast, BitVec.ofNat_toNat, BitVec.setWidth_eq]
  exact add_phase_diff old new

/-- The low half of a position word takes the same steps, modulo one period. -/
theorem setWidth_add_ofInt (w : Word) (d : Int) : (w + BitVec.ofInt 32 d).setWidth 16 = w.setWidth 16 + BitVec.ofInt 16 d := by
  have hlow : (BitVec.ofInt 32 d).setWidth 16 = BitVec.ofInt 16 d := by
    apply BitVec.eq_of_toNat_eq
    rw [BitVec.toNat_setWidth, BitVec.toNat_ofInt, BitVec.toNat_ofInt]
    omega
  rw [BitVec.setWidth_add _ _ (by decide : 16 ≤ 32), hlow]

theorem joinWord_low (x : SenEng) : (joinWord x).word.setWidth 16 = x.phase := by
  have hzero : (0xFFFF0000 : Word).setWidth 16 = 0#16 := rfl
  unfold joinWord
  rw [BitVec.setWidth_or, BitVec.setWidth_and, hzero, BitVec.and_zero, BitVec.zero_or, BitVec.setWidth_setWidth_of_le _ (by decide : 16 ≤ 32),
    BitVec.setWidth_eq]

/-- A word that is one with its phase stays. -/
theorem joinWord_word_of_joined {x : SenEng} (h : x.word.setWidth 16 = x.phase) : (joinWord x).word = x.word := by
  have hlow : (x.word.setWidth 16).setWidth 32 = x.word &&& 0x0000FFFF := by
    apply BitVec.eq_of_toNat_eq
    rw [BitVec.toNat_and]
    exact (BitVec.toNat_setWidth_of_le (by decide)).trans ((BitVec.toNat_setWidth _ _).trans (Nat.and_two_pow_sub_one_eq_mod _ 16).symm)
  have hall : (0xFFFF0000 : Word) ||| 0x0000FFFF = BitVec.allOnes 32 := rfl
  unfold joinWord
  rw [← h, hlow, ← BitVec.and_or_distrib_left, hall, BitVec.and_allOnes]

/-! ## Alignment (06 R206, R208) -/

/-- A lane that takes a period count is aligned; beside that only event 0x34 is left of it. -/
theorem setAligned_only (me : LaneId) (k : Nat) (L : LaneSt) :
    EventOnly { L with sen := { L.sen with period := k, aligned := true } } (setAligned me k L) := by
  unfold setAligned
  dsimp only
  split
  · exact .refl _
  · exact postSense_only _ _ _ _

/-- An alignment from the phase alone takes at most a period count. -/
theorem alignPhase_only (me : LaneId) (L : LaneSt) :
    ∃ k b, EventOnly { L with sen := { L.sen with period := k, aligned := b } } (alignPhase me L) := by
  unfold alignPhase
  split
  · exact ⟨0, true, setAligned_only me 0 L⟩
  · exact ⟨L.sen.period, L.sen.aligned, .refl L⟩

/-- A lost sensor aligns nothing. -/
theorem alignPhase_of_lost (me : LaneId) {L : LaneSt} (h : L.sen.scLost = true) : alignPhase me L = L :=
  if_neg (by simp [LaneSt.ownValid, h])

/-! ## Reports, and the events after them (12 R384, R385) -/

/-- A report that only events follow has reached the collector. -/
theorem reported_of_events {me : LaneId} {src : Byte} {unit cell : Nat} {L K M : LaneSt} (hint : K.int = L.int)
    (h : EventOnly (report me src unit cell K) M) : Reported L M src := by
  have hreported := (report_reported me src unit cell K).congr (h.intKept.slot (faultClass src))
  unfold Reported at hreported ⊢
  rwa [hint] at hreported

/-! ## The loss of the own sensor (06 R210) -/

/-- From `L` to `M` the own sensor has been declared lost for a cause, with its alignment; its S fault stands and is reported. -/
structure SensorLost (me : LaneId) (cause : BitVec 3) (L M : LaneSt) : Prop where
  lost : M.sen.scLost = true
  cause : M.sen.lossCause = cause
  aligned : M.sen.aligned = false
  fault : M.hasFault .sensor me = true
  reported : Reported L M 0x38

/-- What raises the loss keeps what the sensor block has noted of it. -/
theorem sensorLost_of_raised (me : LaneId) {L K : LaneSt} (hlost : K.sen.scLost = true) (haligned : K.sen.aligned = false)
    (hint : K.int = L.int) :
    SensorLost me K.sen.lossCause L
      (postSense me 0x30 clsUc (report me 0x38 0 0 (addFault { kind := .sensor, lane := me, src := 0x38 } K))) := by
  let F := addFault { kind := .sensor, lane := me, src := 0x38 } K
  have hreport : ReportOnly F (report me 0x38 0 0 F) := report_only _ _ _ _ _
  have hpost := postSense_only me 0x30 clsUc (report me 0x38 0 0 F)
  have hsen := hpost.sen_eq.trans (hreport.sen_eq.trans (addFault_sen _ K))
  have hsafe := hpost.safe_eq.trans hreport.safe_eq
  exact {
    lost := (congrArg SenEng.scLost hsen).trans hlost
    cause := congrArg SenEng.lossCause hsen
    aligned := (congrArg SenEng.aligned hsen).trans haligned
    fault := (hasFault_congr (congrArg SafeEng.faults hsafe) _ _).trans (hasFault_addFault _ K)
    reported := reported_of_events ((addFault_int _ K).trans hint) hpost }

/-- What the sensor block notes of a loss for its amplitude or its speed. -/
def noteLoss (cause : BitVec 3) (L : LaneSt) : LaneSt :=
  { L with sen := { L.sen with scLost := true, lossCause := cause, aligned := false, clearedS := false, backRun := 0 },
           eng := { L.eng with ucRaised := true } }

/-- The loss of a sensor that was not lost, for its amplitude or its speed. -/
theorem loseSensor_lost (me : LaneId) {cause : BitVec 3} {L K : LaneSt} (hlost : K.sen.scLost = false) (hint : K.int = L.int)
    (hpos : cause ≠ lossPos) (hspd : cause ≠ lossSpd) : SensorLost me cause L (loseSensor me cause K) := by
  have hdis : (decide (cause = lossPos) || decide (cause = lossSpd)) = false := by simp [hpos, hspd]
  unfold loseSensor
  rw [hlost, if_neg Bool.false_ne_true, hdis, Bool.or_false]
  exact sensorLost_of_raised me (K := noteLoss cause K) rfl rfl hint

/-! ## A pair inside the window (06 R203) -/

/-- A run outside the window ends; a single pair counts as a glitch. -/
def backInside (L : LaneSt) : LaneSt :=
  { L with sen := { L.sen with outRun := 0, lastOver := false,
                               ampGlitch := if L.sen.outRun = 1 then satInc L.sen.ampGlitch else L.sen.ampGlitch } }

/-- A pair inside the window moves the word to its phase, and its step is kept. -/
def movePair (new : Half) (L : LaneSt) : LaneSt :=
  let d := (new - L.sen.phase).toInt
  let M := advanceWord d { L with sen := joinWord L.sen }
  { M with sen := { M.sen with prevDelta := BitVec.ofInt 16 d } }

/-- The phase of a step that is too large is kept. -/
def overPair (new : Half) (L : LaneSt) : LaneSt := { L with sen := { L.sen with phase := new, lastOver := true } }

theorem pairInside_started (me : LaneId) (new : Half) {L : LaneSt} (hstart : L.sen.started = true) :
    pairInside me new L =
      if 0x2000 < absI (new - L.sen.phase).toInt then loseSensor me lossOverspeed (overPair new (backInside L))
      else movePair new (backInside L) := by
  unfold pairInside backInside overPair movePair
  by_cases hrun : L.sen.outRun = 1
  · simp only [hrun, if_true, hstart, Bool.not_true, Bool.false_eq_true, if_false]
  · simp only [hrun, hstart, Bool.not_true, Bool.false_eq_true, if_false]

/-- From `x` to `y` a pair inside the window has moved the position word to a new phase. -/
structure WordMoved (new : Half) (x y : SenEng) : Prop where
  low : y.word.setWidth 16 = new
  word : x.word.setWidth 16 = x.phase → y.word = x.word + BitVec.ofInt 32 (new - x.phase).toInt
  phase : y.phase = new
  delta : y.prevDelta = BitVec.ofInt 16 (new - x.phase).toInt
  lost : y.scLost = x.scLost

theorem backInside_senOnly (L : LaneSt) : SenOnly L (backInside L) := rfl

theorem movePair_senOnly (new : Half) (L : LaneSt) : SenOnly L (movePair new L) := rfl

theorem movePair_word (new : Half) (L : LaneSt) :
    (movePair new L).sen.word = (joinWord L.sen).word + BitVec.ofInt 32 (new - L.sen.phase).toInt := rfl

theorem movePair_moves (new : Half) (L : LaneSt) : WordMoved new L.sen (movePair new L).sen where
  low := by
    rw [movePair_word, setWidth_add_ofInt, joinWord_low, BitVec.ofInt_toInt]
    exact add_phase_diff L.sen.phase new
  word hjoined := congrArg (· + BitVec.ofInt 32 (new - L.sen.phase).toInt) (joinWord_word_of_joined hjoined)
  phase := phase_add_diff L.sen.phase new
  delta := rfl
  lost := rfl

/-- A pair inside the window at a step of an eighth of a period at most, with the alignment that it can give. -/
theorem alignPhase_pairInside (me : LaneId) {new : Half} {L : LaneSt} (hstart : L.sen.started = true)
    (hstep : absI (new - L.sen.phase).toInt ≤ 0x2000) :
    let M := alignPhase me (pairInside me new L)
    EventOnly { L with sen := M.sen } M ∧ WordMoved new L.sen M.sen ∧ M.sen.outRun = 0 := by
  have hframe := (backInside_senOnly L).trans (movePair_senOnly new (backInside L))
  have hmoved := movePair_moves new (backInside L)
  have hrun : (movePair new (backInside L)).sen.outRun = 0 := rfl
  rw [pairInside_started me new hstart, if_neg (Int.not_lt.mpr hstep)]
  generalize movePair new (backInside L) = K at hmoved hframe hrun ⊢
  obtain ⟨k, al, honly⟩ := alignPhase_only me K
  have hsen : (alignPhase me K).sen = { K.sen with period := k, aligned := al } := honly.sen_eq
  refine ⟨(hframe.trans (.put K _)).events honly, ?_⟩
  rw [hsen]
  exact ⟨⟨hmoved.low, hmoved.word, hmoved.phase, hmoved.delta, hmoved.lost⟩, hrun⟩

theorem pairInside_overspeed (me : LaneId) {new : Half} {L K : LaneSt} (hstart : K.sen.started = true) (hlost : K.sen.scLost = false)
    (hint : K.int = L.int) (hstep : 0x2000 < absI (new - K.sen.phase).toInt) : SensorLost me lossOverspeed L (pairInside me new K) := by
  rw [pairInside_started me new hstart, if_pos hstep]
  exact loseSensor_lost me hlost hint (by decide) (by decide)

/-! ## A pair outside the window (06 R209, R210) -/

/-- A pair outside the window is bridged by the last difference, and counted. -/
def bridgePair (t10 : Nat) (L : LaneSt) : LaneSt :=
  let M := advanceWord L.sen.prevDelta.toInt L
  { M with sen := { M.sen with outRun := L.sen.outRun + 1, lastOut10 := some t10, lastOver := false } }

theorem pairOutside_started (me : LaneId) (low : Bool) (t10 : Nat) {L : LaneSt} (hstart : L.sen.started = true) :
    pairOutside me low t10 L =
      if L.sen.outRun + 1 = 2 then loseSensor me (if low then lossAmpLow else lossAmpHigh) (bridgePair t10 L) else bridgePair t10 L := by
  unfold pairOutside
  rw [if_pos hstart]
  rfl

/-- The first pair outside the window moves the word by the last difference. -/
theorem pairOutside_first (me : LaneId) (low : Bool) (t10 : Nat) {L : LaneSt} (hstart : L.sen.started = true) (hrun : L.sen.outRun = 0) :
    let M := pairOutside me low t10 L
    SenOnly L M ∧ M.sen.word = L.sen.word + BitVec.ofInt 32 L.sen.prevDelta.toInt ∧ M.sen.outRun = 1 ∧ M.sen.scLost = L.sen.scLost := by
  have hfirst : pairOutside me low t10 L = bridgePair t10 L := by
    rw [pairOutside_started me low t10 hstart, hrun]
    rfl
  rw [hfirst]
  exact ⟨rfl, rfl, congrArg (· + 1) hrun, rfl⟩

/-- The second pair outside the window in a row loses the sensor. -/
theorem pairOutside_second (me : LaneId) (low : Bool) (t10 : Nat) {L K : LaneSt} (hstart : K.sen.started = true) (hrun : K.sen.outRun = 1)
    (hlost : K.sen.scLost = false) (hint : K.int = L.int) : ∃ cause, SensorLost me cause L (pairOutside me low t10 K) := by
  have hcause : (if low = true then lossAmpLow else lossAmpHigh) ≠ lossPos
      ∧ (if low = true then lossAmpLow else lossAmpHigh) ≠ lossSpd := by
    cases low <;> decide
  obtain ⟨hpos, hspd⟩ := hcause
  rw [pairOutside_started me low t10 hstart, hrun, if_pos rfl]
  exact ⟨_, loseSensor_lost me hlost hint hpos hspd⟩

/-! ## SINCOS_CONVERSION -/

/-- The amplitude of the newest pair is shown. -/
def noteAmplitude (v : Half) (L : LaneSt) : LaneSt := { L with sen := { L.sen with amplitude := v } }

/-- The instant of the newest conversion is kept. -/
def noteInstant (t10 : Nat) (L : LaneSt) : LaneSt := { L with sen := { L.sen with conv10 := t10 } }

theorem exec_sincosConversion {l : LaneId} (a b : BitVec 14) (t10 : Nat) {s : State} (hconv : (s.lane l).converts = true)
    (hsc : (s.lane l).hasSc l = true) :
    exec (.sincosConversion l a b t10) s = .next (s.setLane l (sincos l a b t10 (s.lane l))) :=
  onLaneIf_pos l (fun L => L.converts && L.hasSc l) _ s (by rw [hconv, hsc]; rfl)

theorem SensorLost.noteInstant {me : LaneId} {cause : BitVec 3} {L M : LaneSt} (t10 : Nat) (h : SensorLost me cause L M) :
    SensorLost me cause L (noteInstant t10 M) := ⟨h.lost, h.cause, h.aligned, h.fault, h.reported⟩

theorem noteInstant_events {L M : LaneSt} (t10 : Nat) (h : EventOnly { L with sen := M.sen } M) :
    EventOnly { L with sen := (noteInstant t10 M).sen } (noteInstant t10 M) := by
  unfold EventOnly at *
  rw [noteInstant, h]
  rfl

/-- The corrected pair of two codes lies inside the window of a configuration, at a phase (06 R201, R209). -/
structure InWindow (c : Conf) (a b : BitVec 14) (phase : Half) : Prop where
  notLow : ampLow c (correctPair c a b) = false
  notHigh : ampHigh c (correctPair c a b) = false
  phase : atan16 (correctPair c a b).1 (correctPair c a b).2.1 = phase

/-- The corrected pair of two codes lies outside the window of a configuration. -/
def OutOfWindow (c : Conf) (a b : BitVec 14) : Prop := ampLow c (correctPair c a b) = true ∨ ampHigh c (correctPair c a b) = true

theorem inWindow_of_not_out {c : Conf} {a b : BitVec 14} (h : ¬ OutOfWindow c a b) :
    InWindow c a b (atan16 (correctPair c a b).1 (correctPair c a b).2.1) := by
  obtain ⟨hlow, hhigh⟩ := not_or.mp h
  exact ⟨Bool.eq_false_iff.mpr hlow, Bool.eq_false_iff.mpr hhigh, rfl⟩

section
variable (me : LaneId) {a b : BitVec 14} (t10 : Nat) {L : LaneSt}

theorem sincos_inside {new : Half} (hin : InWindow L.host.run a b new) :
    ∃ v, sincos me a b t10 L = noteInstant t10 (alignPhase me (pairInside me new (noteAmplitude v L))) := by
  refine ⟨amplitude16 L.host.run (correctPair L.host.run a b), ?_⟩
  unfold sincos
  dsimp only
  rw [hin.notLow, hin.notHigh, hin.phase]
  rfl

theorem sincos_outside (hout : OutOfWindow L.host.run a b) :
    ∃ v low, sincos me a b t10 L = noteInstant t10 (pairOutside me low t10 (noteAmplitude v L)) := by
  refine ⟨amplitude16 L.host.run (correctPair L.host.run a b), ?_⟩
  unfold sincos
  dsimp only
  by_cases hlow : ampLow L.host.run (correctPair L.host.run a b) = true
  · exact ⟨true, by rw [if_pos hlow]; rfl⟩
  · exact ⟨false, by rw [if_neg hlow, if_pos (hout.resolve_left hlow)]; rfl⟩

/-- A conversion inside the window, at a step of an eighth of a period at most. -/
theorem sincos_moves {new : Half} (hstart : L.sen.started = true) (hin : InWindow L.host.run a b new)
    (hstep : absI (new - L.sen.phase).toInt ≤ 0x2000) :
    let M := sincos me a b t10 L
    EventOnly { L with sen := M.sen } M ∧ WordMoved new L.sen M.sen ∧ M.sen.outRun = 0 ∧ M.sen.conv10 = t10 := by
  obtain ⟨v, hsincos⟩ := sincos_inside me t10 hin
  obtain ⟨honly, hmoved, hrun⟩ := alignPhase_pairInside me (L := noteAmplitude v L) hstart hstep
  rw [hsincos]
  generalize alignPhase me (pairInside me new (noteAmplitude v L)) = M at honly hmoved hrun ⊢
  exact ⟨noteInstant_events (L := L) t10 honly, ⟨hmoved.low, hmoved.word, hmoved.phase, hmoved.delta, hmoved.lost⟩, hrun, rfl⟩

/-- A conversion inside the window, at a larger step. -/
theorem sincos_overspeed {new : Half} (hstart : L.sen.started = true) (hlost : L.sen.scLost = false) (hin : InWindow L.host.run a b new)
    (hstep : 0x2000 < absI (new - L.sen.phase).toInt) : SensorLost me lossOverspeed L (sincos me a b t10 L) := by
  obtain ⟨v, hsincos⟩ := sincos_inside me t10 hin
  have hloss : SensorLost me lossOverspeed L (pairInside me new (noteAmplitude v L)) := pairInside_overspeed me hstart hlost rfl hstep
  rw [hsincos, alignPhase_of_lost me hloss.lost]
  exact hloss.noteInstant t10

/-- The first conversion outside the window. -/
theorem sincos_bridges (hstart : L.sen.started = true) (hrun : L.sen.outRun = 0) (hout : OutOfWindow L.host.run a b) :
    let M := sincos me a b t10 L
    SenOnly L M ∧ M.sen.word = L.sen.word + BitVec.ofInt 32 L.sen.prevDelta.toInt ∧ M.sen.outRun = 1 ∧ M.sen.scLost = L.sen.scLost := by
  obtain ⟨v, low, hsincos⟩ := sincos_outside me t10 hout
  have hamp : SenOnly L (noteAmplitude v L) := rfl
  obtain ⟨honly, hword, hone, hlost⟩ := pairOutside_first me low t10 (L := noteAmplitude v L) hstart hrun
  rw [hsincos]
  generalize pairOutside me low t10 (noteAmplitude v L) = M at honly hword hone hlost ⊢
  exact ⟨(hamp.trans honly).trans (.put M _), hword, hone, hlost⟩

/-- The second conversion outside the window in a row. -/
theorem sincos_loses (hstart : L.sen.started = true) (hrun : L.sen.outRun = 1) (hlost : L.sen.scLost = false)
    (hout : OutOfWindow L.host.run a b) : ∃ cause, SensorLost me cause L (sincos me a b t10 L) := by
  obtain ⟨v, low, hsincos⟩ := sincos_outside me t10 hout
  obtain ⟨cause, hloss⟩ := pairOutside_second me low t10 (L := L) (K := noteAmplitude v L) hstart hrun hlost rfl
  rw [hsincos]
  exact ⟨cause, hloss.noteInstant t10⟩

end

/-- Settles O44: a pair inside the window moves the word (`movePair_moves`) or is too fast (`pairInside_overspeed`), a first pair outside it
is bridged (`pairOutside_first`), and a second one loses the sensor (`pairOutside_second`). -/
theorem sineCosinePairs : Obligations.SineCosinePairs := by
  unfold Obligations.SineCosinePairs
  intro l a b t10 s L p new d out hconv hsc hstart hlost
  have hexec := exec_sincosConversion a b t10 hconv hsc
  refine ⟨fun hin hstep => ⟨_, hexec, ?moves⟩, fun hout hrun => ⟨_, hexec, ?bridges⟩, fun hout hrun => ⟨_, hexec, ?loses⟩,
    fun hin hstep => ⟨_, hexec, ?overspeed⟩⟩ <;> rw [lane_setLane_same]
  case moves =>
    obtain ⟨honly, hmoved, hrun, hconv10⟩ := sincos_moves l t10 hstart (inWindow_of_not_out hin) hstep
    exact ⟨honly, hmoved.low, hmoved.word, hmoved.phase, hmoved.delta, hrun, hconv10, hmoved.lost.trans hlost⟩
  case bridges =>
    obtain ⟨honly, hword, hone, hkept⟩ := sincos_bridges l t10 hstart hrun hout
    exact ⟨honly, hword, hone, hkept.trans hlost⟩
  case loses =>
    obtain ⟨cause, hloss⟩ := sincos_loses l t10 hstart hrun hlost hout
    exact ⟨hloss.lost, hloss.aligned, hloss.fault, hloss.reported⟩
  case overspeed =>
    have hloss := sincos_overspeed l t10 hstart hlost (inWindow_of_not_out hin) hstep
    exact ⟨hloss.lost, hloss.cause, hloss.reported⟩

end Sys2Proof.Machine
end

section

namespace Sys2Proof.Machine

/-! ## Hall edges (06 R211–R213) -/

/-- From `L` to `M` the gates, the start stage and the Hall state are as before. -/
structure HallKept (L M : LaneSt) : Prop where
  gate : M.gate = L.gate
  start : M.start = L.start
  state : M.sen.hallState = L.sen.hallState

theorem HallKept.refl (L : LaneSt) : HallKept L L := ⟨rfl, rfl, rfl⟩

theorem HallKept.trans {L M N : LaneSt} (h : HallKept L M) (k : HallKept M N) : HallKept L N :=
  ⟨k.gate.trans h.gate, k.start.trans h.start, k.state.trans h.state⟩

theorem setAligned_hallKept (me : LaneId) (k : Nat) (L : LaneSt) : HallKept L (setAligned me k L) :=
  have honly := setAligned_only me k L
  ⟨honly.gate_eq, honly.start_eq, by rw [honly.sen_eq]⟩

theorem alignEdge_hallKept (me : LaneId) (t10 : Nat) (e : Word) (L : LaneSt) : HallKept L (alignEdge me t10 e L) := by
  unfold alignEdge
  dsimp only
  split
  · exact .refl L
  · exact setAligned_hallKept _ _ _

theorem hallError_hallKept (L : LaneSt) : HallKept L (hallError L) := ⟨rfl, rfl, rfl⟩

theorem hallEdge_hallKept (me : LaneId) (n : Nat) (rev : Bool) (t10 : Nat) (L : LaneSt) : HallKept L (hallEdge me n rev t10 L) := by
  unfold hallEdge
  extract_lets _ _ _ _ _ M dt _ N K
  have hN : HallKept L N := by
    have hM : HallKept L M := by
      unfold M
      split <;> exact ⟨rfl, rfl, rfl⟩
    exact hM.trans ⟨rfl, rfl, rfl⟩
  have hK : HallKept N K := by
    unfold K
    split
    · exact alignEdge_hallKept _ _ _ _
    · exact .refl N
  split
  · exact hN.trans (hallError_hallKept N)
  · exact hN.trans (hK.trans ⟨rfl, rfl, rfl⟩)

/-- Without a valid own sensor no angle is compared with the edge, and none aligned by it. -/
theorem hallEdge_of_not_ownValid {me : LaneId} (n : Nat) (rev : Bool) (t10 : Nat) {L : LaneSt} (hown : L.ownValid me = false) :
    let M := hallEdge me n rev t10 L
    M.sen.edgeDir = rev ∧ M.sen.lastEdge10 = some t10 ∧ M.sen.edgeIndex = BitVec.ofNat 3 n ∧ M.sen.hallPending = L.sen.hallPending := by
  unfold hallEdge
  simp only [hown, Bool.false_and, Bool.false_eq_true, if_false, and_self]

/-- The Hall state in force, before anything follows from it. -/
def noteHall (h : BitVec 3) (L : LaneSt) : LaneSt := { L with sen := { L.sen with hallState := h, hallSeen := true } }

theorem hallAccept_hallKept (me : LaneId) (h : BitVec 3) (t10 : Nat) (L : LaneSt) : HallKept (noteHall h L) (hallAccept me h t10 L) := by
  unfold hallAccept
  extract_lets seen prev _ K
  split
  case h_1 => exact hallError_hallKept _
  case h_2 => exact ⟨rfl, rfl, rfl⟩
  case h_3 =>
    split
    · exact .refl _
    · split
      · exact hallEdge_hallKept _ _ _ _ _
      · split
        · exact hallEdge_hallKept _ _ _ _ _
        · exact hallError_hallKept _

theorem hallAccept_impossible (me : LaneId) {h : BitVec 3} (t10 : Nat) (L : LaneSt) (himp : hallIdx h = none) :
    hallAccept me h t10 L = hallError (noteHall h L) := by
  unfold hallAccept
  simp only [himp]
  rfl

theorem hallIdx_lt {h : BitVec 3} {i : Nat} (hi : hallIdx h = some i) : i < 6 := by
  obtain ⟨hlt, -⟩ := List.findIdx?_eq_some_iff_getElem.mp hi
  exact hlt

/-- The next state in forward order is an edge between the two, forward. -/
theorem hallAccept_forward (me : LaneId) {h : BitVec 3} (t10 : Nat) {L : LaneSt} {i : Nat} (hseen : L.sen.hallSeen = true)
    (hi : hallIdx L.sen.hallState = some i) (hnext : hallIdx h = some ((i + 1) % 6)) :
    hallAccept me h t10 L = hallEdge me ((i + 1) % 6) false t10 (noteHall h L) := by
  have hne : i ≠ (i + 1) % 6 := by have := hallIdx_lt hi; omega
  unfold hallAccept
  simp only [hseen, hi, hnext, if_true, if_neg hne]
  rfl

/-! ## HALL_STATE_ACCEPTED and HALL_GLITCH -/

theorem exec_hallStateAccepted {l : LaneId} (h : BitVec 3) (t10 : Nat) {s : State} (hsup : (s.lane l).start.supplied = true)
    (hconv : (s.lane l).converts = true) (hhall : (s.lane l).hasHall l = true) :
    exec (.hallStateAccepted l h t10) s = .next (s.setLane l (coltHallState l h t10 (hallAccept l h t10 (s.lane l)))) := by
  have haccept : hallAccepted l h t10 (s.lane l) = coltHallState l h t10 (hallAccept l h t10 (s.lane l)) := by
    unfold hallAccepted
    rw [hconv, hhall]
    rfl
  rw [← haccept]
  exact onLaneIf_pos l (fun L => L.start.supplied) _ s hsup

theorem exec_hallGlitch {l : LaneId} {s : State} (hconv : (s.lane l).converts = true) (hhall : (s.lane l).hasHall l = true) :
    exec (.hallGlitch l) s = .next (s.setLane l
      { s.lane l with sen := { (s.lane l).sen with hallGlitch := satInc (s.lane l).sen.hallGlitch } }) :=
  onLaneIf_pos l (fun L => L.converts && L.hasHall l)
    (fun L => { L with sen := { L.sen with hallGlitch := satInc L.sen.hallGlitch } }) s (by rw [hconv, hhall]; rfl)

theorem coltEdges_coltOn (prev next : Option Nat) (t10 : Nat) (x : StartEng) : (coltEdges prev next t10 x).coltOn = x.coltOn := by
  unfold coltEdges
  dsimp only
  split
  · split
    · rfl
    · split <;> rfl
  · rfl

/-- Outside the Colt stage the always-on hardware only keeps the state and its edges. -/
theorem coltHallState_of_colt_off (me : LaneId) (h : BitVec 3) (t10 : Nat) {L : LaneSt} (hoff : L.start.coltOn = false) :
    ∃ x, coltHallState me h t10 L = { L with start := x } ∧ x.coltHall = some h := by
  unfold coltHallState
  simp only [coltEdges_coltOn, hoff, Bool.false_and, Bool.false_eq_true, if_false]
  exact ⟨_, rfl, rfl⟩

/-! ## AUX_CONVERSION (06 R228, R230) -/

theorem exec_auxConversion {l : LaneId} (i : AuxInput) (code : BitVec 12) {s : State} (hconv : (s.lane l).converts = true) :
    exec (.auxConversion l i code) s = .next (s.setLane l (auxConv l i code (s.lane l))) :=
  onLaneIf_pos l _ _ s hconv

/-- A code of AUX1 in range is delivered. -/
theorem auxOne_inside (me : LaneId) {code : BitVec 12} {L : LaneSt}
    (hin : auxOut code (L.host.run.int Item.aux1Lo) (L.host.run.int Item.aux1Hi) = false) (hfault : L.sen.aux1Fault = false) :
    auxOne me code L = { L with sen := { L.sen with aux1Code := code, aux1Run := 0, aux1Ok := L.sen.aux1Ok + 1, aux1Held := code } } := by
  unfold auxOne
  simp only [hin, hfault, Bool.false_and, Bool.false_eq_true, if_false, Bool.false_or]

/-- The second code of AUX1 out of range in a row is a fault. -/
theorem auxOne_second (me : LaneId) {code : BitVec 12} {L : LaneSt}
    (hout : auxOut code (L.host.run.int Item.aux1Lo) (L.host.run.int Item.aux1Hi) = true) (hfault : L.sen.aux1Fault = false)
    (hrun : L.sen.aux1Run = 1) :
    auxOne me code L = auxRaise me { L with sen := { L.sen with aux1Code := code, aux1Run := 2, aux1Ok := 0, aux1Fault := true } } := by
  unfold auxOne
  simp [hout, hfault, hrun]

/-- A range fault is reported, and leaves the sensors. -/
theorem auxRaise_reported (me : LaneId) (L : LaneSt) : (auxRaise me L).sen = L.sen ∧ Reported L (auxRaise me L) 0x3A := by
  have hraised : ∀ K : LaneSt, K.sen = L.sen → K.int = L.int →
      (postSense me 0x33 clsUc (report me 0x3A 0 0 K)).sen = L.sen ∧ Reported L (postSense me 0x33 clsUc (report me 0x3A 0 0 K)) 0x3A := by
    intro K hsen hint
    have hpost := postSense_only me 0x33 clsUc (report me 0x3A 0 0 K)
    exact ⟨hpost.sen_eq.trans ((report_sen me 0x3A 0 0 K).trans hsen), reported_of_events hint hpost⟩
  exact hraised { L with eng := { L.eng with ucRaised := true } } rfl rfl

/-- Settles O45: an accepted state follows `hallAccept` and then the always-on hardware, which outside the Colt stage only keeps it; a code of
AUX1 is delivered (`auxOne_inside`) or a fault (`auxOne_second`). -/
theorem hallsAndAuxiliaryInputs : Obligations.HallsAndAuxiliaryInputs := by
  unfold Obligations.HallsAndAuxiliaryInputs
  refine ⟨?halls, ?auxiliary⟩
  case halls =>
    intro l h t10 s L hsup hconv hhall
    refine ⟨fun hoff => ⟨_, exec_hallStateAccepted h t10 hsup hconv hhall, ?_⟩, exec_hallGlitch hconv hhall⟩
    have hkept := hallAccept_hallKept l h t10 L
    obtain ⟨x, hcolt, hx⟩ := coltHallState_of_colt_off l h t10 ((congrArg StartEng.coltOn hkept.start).trans hoff)
    rw [lane_setLane_same, hcolt]
    refine ⟨hkept.state, hx, hkept.gate, fun himp => ?impossible, fun i hseen hi hnext hown => ?forward⟩
    case impossible =>
      rw [hallAccept_impossible l t10 L himp]
      exact ⟨rfl, rfl⟩
    case forward =>
      rw [hallAccept_forward l t10 hseen hi hnext]
      exact hallEdge_of_not_ownValid _ _ _ hown
  case auxiliary =>
    intro l code s L out hconv
    refine ⟨exec_auxConversion .vlnk code hconv, fun hin hfault => ⟨_, exec_auxConversion .aux1 code hconv, ?inside⟩,
      fun hout hfault hrun => ⟨_, exec_auxConversion .aux1 code hconv, ?second⟩⟩ <;> rw [lane_setLane_same, auxConv]
    case inside =>
      rw [auxOne_inside l hin hfault]
      exact ⟨rfl, rfl, rfl, hfault⟩
    case second =>
      obtain ⟨hsen, hreported⟩ := auxRaise_reported l
        { L with sen := { L.sen with aux1Code := code, aux1Run := 2, aux1Ok := 0, aux1Fault := true } }
      rw [auxOne_second l hout hfault hrun, hsen]
      exact ⟨rfl, rfl, hreported⟩

end Sys2Proof.Machine
end

section

namespace Sys2Proof.Machine

/-! ## The end of the extrapolation (06 R222, R223) -/

theorem endExtrap_ends (L : LaneSt) : SenOnly L (endExtrap L) ∧ (endExtrap L).sen.extrapFrom = none := by
  unfold endExtrap
  split
  case h_1 => exact ⟨rfl, rfl⟩
  case h_2 hnone => exact ⟨rfl, hnone⟩

/-- The Hall step after the extrapolation ends it, and changes only the sensors. -/
theorem setSource_hall {L : LaneSt} (hsource : L.sen.source = .extrapolating) :
    let M := setSource .hall L
    SenOnly L M ∧ M.sen.source = .hall ∧ M.sen.extrapFrom = none := by
  obtain ⟨honly, hnone⟩ := endExtrap_ends L
  have hset : setSource .hall L = { endExtrap L with sen := { (endExtrap L).sen with source := .hall } } := by
    unfold setSource
    rw [hsource]
    rfl
  rw [hset]
  exact ⟨honly.trans (.put _ _), rfl, hnone⟩

theorem exec_extrapolationEnd {l : LaneId} {s : State} (hrun : (s.lane l).running = true) :
    exec (.extrapolationEnd l) s = .next (s.setLane l (extrapolationEnd l (s.lane l))) :=
  onLaneIf_pos l _ _ s hrun

/-- A lane that extrapolates and keeps its share takes the Hall step where it is available. -/
theorem extrapolationEnd_eq (me : LaneId) {L : LaneSt} (hsource : L.sen.source = .extrapolating) (hshare : L.sen.sharingOut = false) :
    extrapolationEnd me L = if hallStep L.sen.speed L = true then enterSixStep false (setSource .hall L) else shareOutNow me L := by
  unfold extrapolationEnd
  rw [hsource, hshare]
  rfl

/-- A lane with a weight withdraws its share. -/
theorem shareOutNow_of_weight {me : LaneId} {L : LaneSt} (hw : L.mot.w.get me ≠ 0) :
    shareOutNow me L = { L with
      sen := { L.sen with sharingOut := true }, herdTx := L.herdTx ++ [.shareOut],
      mot := { L.mot with ramp := L.mot.ramp.set me (some (newRamp L.host.run false (L.mot.w.get me))) } } := by
  rw [shareOutNow, if_neg hw]
  exact startWithdraw_of_weight (L := send .shareOut { L with sen := { L.sen with sharingOut := true } }) hw

/-! ## SENSE_ALIGN_SET (06 R208) -/

theorem exec_senseAlignSet (c : Ctx) (blk : List Byte) (s : State) :
    exec (.senseAlignSet c blk) s = runOp 0x0401 c blk (opSenseAlignSet c.lane c.sender blk) s := rfl

/-- With motion disabled and some sensor valid, a lane aligns where its own is. -/
theorem opSenseAlignSet_passes (me : LaneId) (h : Sender) (v : Word) {L : LaneSt} (hmin : L.minimal = false) (hoff : L.mot.enabled = false)
    (hvalid : ∃ j, L.sensorValid me j = true) :
    opSenseAlignSet me h (le32 v) L =
      if L.ownValid me = true then (setAligned me (nearestPeriod L.time.clk10 v L) L, some (resultRes (laneBit me)))
      else (L, some (resultRes 0)) := by
  have hlen : ((le32 v).length == 4) = true := rfl
  have hread : rd32 (le32 v) 0 = v := rd32_le32 v []
  have hany : LaneId.all.any (L.sensorValid me) = true := by
    obtain ⟨j, hj⟩ := hvalid
    exact List.any_eq_true.mpr ⟨j, by cases j <;> decide, hj⟩
  unfold opSenseAlignSet
  rw [checked_cons hlen, minimalOk_of_not_minimal _ hmin, hoff, hany, hread]
  rfl

/-- Settles O46: the ladder's step at the end of the extrapolation is `extrapolationEnd_eq`, the effect of the opcode
`opSenseAlignSet_passes`. -/
theorem ladderAndAlignment : Obligations.LadderAndAlignment := by
  unfold Obligations.LadderAndAlignment
  refine ⟨?ladder, ?alignment⟩
  case ladder =>
    intro l s L hrun hsource hshare
    have hend := extrapolationEnd_eq l hsource hshare
    refine ⟨fun hhall => ⟨_, exec_extrapolationEnd hrun, ?hall⟩, fun hhall hw => ⟨_, exec_extrapolationEnd hrun, ?withdraw⟩⟩
      <;> rw [lane_setLane_same, hend]
    case hall =>
      obtain ⟨honly, hnew, hnone⟩ := setSource_hall hsource
      rw [if_pos hhall]
      exact ⟨hnew, hnone, honly.gate_eq, honly.herdTx_eq⟩
    case withdraw =>
      rw [if_neg (Bool.eq_false_iff.mp hhall), shareOutNow_of_weight hw]
      exact ⟨rfl, rfl, rfl, Tri.get_set_same _ _ _⟩
  case alignment =>
    intro c v s L hready hmin hoff hvalid
    have hop := opSenseAlignSet_passes c.lane c.sender v hmin hoff hvalid
    rw [exec_senseAlignSet]
    refine ⟨fun hown => ⟨_, runOp_ended hready (hop.trans (if_pos hown)), setAligned_only _ _ _⟩, fun hown => ?_⟩
    exact runOp_ended hready (hop.trans (if_neg (Bool.eq_false_iff.mp hown)))

end Sys2Proof.Machine
end

section

namespace Sys2Proof.Machine

/-! ## Gates that a reaction or a supply holds off (07 Table 7-1) -/

theorem allGatesOff_of_reaction (me : LaneId) {L : LaneSt} (h : L.gate.reaction = .allOff) : AllGatesOff me L := by
  simp [AllGatesOff, gateCommanded, h]

theorem allGatesOff_of_vgdUvlo (me : LaneId) {L : LaneSt} (h : L.gate.vgdUvlo = true) : AllGatesOff me L := by
  simp [AllGatesOff, gateCommanded, h]

/-- A bridge fault noted in the gate block alone is told of the lane as it was, and leaves the gate block as noted (R256). -/
theorem bridgeReport_of_gate (me : LaneId) (src : Byte) (unit : Nat) (ev : Byte) (L : LaneSt) (g : GateEng) :
    let M := bridgeReport me src unit ev { L with gate := g }
    M.gate = g ∧ .bridgeDown ∈ M.herdTx ∧ (L.running = true → Reported L M src) := by
  obtain ⟨-, hgate, hsent, hreport⟩ := bridgeReport_tells me src unit ev { L with gate := g }
  exact ⟨hgate, hsent, hreport⟩

/-! ## Short circuits (R249–R255) -/

theorem legCount_le_or (a b : BitVec 3) : legCount b ≤ legCount (a ||| b) := by
  have hbit : ∀ x y : Bool, b2n y ≤ b2n (x || y) := by decide
  unfold legCount
  simp only [BitVec.getLsbD_or]
  have hA := hbit (a.getLsbD 0) (b.getLsbD 0)
  have hB := hbit (a.getLsbD 1) (b.getLsbD 1)
  have hC := hbit (a.getLsbD 2) (b.getLsbD 2)
  omega

/-- The cases in which a trip turns every gate off: the policy, VGD below UVLO, a reaction in force, or two legs (R252–R254). -/
theorem scReact_allOff {legs : BitVec 3} {L : LaneSt}
    (h : L.host.run.nat Item.scPolicy = 0 ∨ L.gate.vgdUvlo = true ∨ L.gate.reaction ≠ .none ∨ 2 ≤ legCount legs) :
    (scReact legs L).gate.reaction = .allOff := by
  refine if_pos ?_
  rcases h with hpolicy | hvgd | hreact | htwo
  · simp [hpolicy]
  · simp [hvgd]
  · cases hr : L.gate.reaction with
    | none => exact absurd hr hreact
    | lowSideShort => simp
    | allOff => simp
  · have hlegs : 2 ≤ legCount (L.gate.sampleLegs ||| legs) := Nat.le_trans htwo (legCount_le_or _ _)
    simp [hlegs]

/-- The first trip of one leg answers with the low sides where the policy asks for them (R252). -/
theorem scReact_lowSideShort {legs : BitVec 3} {L : LaneSt} (hpolicy : L.host.run.nat Item.scPolicy ≠ 0) (hvgd : L.gate.vgdUvlo = false)
    (hreact : L.gate.reaction = .none) (hsample : L.gate.sampleLegs = 0) (hone : legCount legs < 2) :
    (scReact legs L).gate.reaction = .lowSideShort := by
  refine if_neg ?_
  have hlegs : L.gate.sampleLegs ||| legs = legs := by rw [hsample]; exact BitVec.zero_or
  have hnot : ¬ 2 ≤ legCount legs := Nat.not_le.mpr hone
  simp [hlegs, hnot, hvgd, hreact, hpolicy]

/-- The gate block after a trip that counts: the reaction, the first trip's registers, and the W fault that the next fast sample raises
(R251–R255). -/
def trippedGate (gross : Bool) (legs : BitVec 3) (L : LaneSt) : GateEng :=
  let g := (scReact legs L).gate
  let g := if g.scFirst then g else { g with scFirst := true, scLegs := legs, scGross := gross, scTime := L.now }
  { g with scCount := satInc g.scCount, pendSc := g.pendSc.orElse fun _ => some (if gross then 0x41 else 0x40) }

theorem trip_counts (me : LaneId) {gross : Bool} {i : TripIn} (L : LaneSt)
    (h : gross = false → ¬(i.blankEnd = true ∧ i.grossSince = true)) :
    trip me gross i L
      = bridgeReport me (if gross then 0x41 else 0x40) (legUnit (tripLegs i)) 0x40 { L with gate := trippedGate gross (tripLegs i) L } := by
  refine if_neg ?_
  intro hblank
  simp only [Bool.and_eq_true, Bool.not_eq_true'] at hblank
  obtain ⟨⟨hfast, hend⟩, hsince⟩ := hblank
  exact h hfast ⟨hend, hsince⟩

/-- The fast comparator's report at the end of blanking, after one of the gross comparator, is no trip (R251). -/
theorem trip_blanked (me : LaneId) {i : TripIn} (L : LaneSt) (hend : i.blankEnd = true) (hsince : i.grossSince = true) :
    trip me false i L = L := by
  refine if_pos ?_
  rw [hend, hsince]
  rfl

theorem trippedGate_reaction (gross : Bool) (legs : BitVec 3) (L : LaneSt) :
    (trippedGate gross legs L).reaction = (scReact legs L).gate.reaction := by
  unfold trippedGate
  dsimp only
  split <;> rfl

theorem trippedGate_scCount (gross : Bool) (legs : BitVec 3) (L : LaneSt) :
    (trippedGate gross legs L).scCount = satInc L.gate.scCount := by
  unfold trippedGate
  dsimp only
  split <;> rfl

/-- A lane whose gate block is as after a trip has counted it, and holds all its gates off or has LOW_SIDE_SHORT in force (R252–R254). -/
theorem trippedGate_reacts (me : LaneId) {gross : Bool} {legs : BitVec 3} {L M : LaneSt} (hgate : M.gate = trippedGate gross legs L) :
    M.gate.scCount = satInc L.gate.scCount
    ∧ (L.host.run.nat Item.scPolicy = 0 ∨ L.gate.vgdUvlo = true ∨ L.gate.reaction ≠ .none ∨ 2 ≤ legCount legs →
        M.gate.reaction = .allOff ∧ AllGatesOff me M)
    ∧ (L.host.run.nat Item.scPolicy ≠ 0 → L.gate.vgdUvlo = false → L.gate.reaction = .none → L.gate.sampleLegs = 0 →
        legCount legs < 2 → M.gate.reaction = .lowSideShort) := by
  have hreaction : M.gate.reaction = (scReact legs L).gate.reaction := by rw [hgate, trippedGate_reaction]
  refine ⟨by rw [hgate, trippedGate_scCount], fun hoff => ?_, fun hpolicy hvgd hreact hsample hone => ?_⟩
  · have halloff : M.gate.reaction = .allOff := hreaction.trans (scReact_allOff hoff)
    exact ⟨halloff, allGatesOff_of_reaction me halloff⟩
  · exact hreaction.trans (scReact_lowSideShort hpolicy hvgd hreact hsample hone)

theorem exec_scFastTrip {l : LaneId} (i : TripIn) {s : State} (hlive : (s.lane l).gateLive l = true) :
    exec (.scFastTrip l i) s = .next (s.setLane l (trip l false i (s.lane l))) :=
  onLaneIf_pos l _ _ s hlive

theorem exec_scGrossTrip {l : LaneId} (i : TripIn) {s : State} (hlive : (s.lane l).gateLive l = true) :
    exec (.scGrossTrip l i) s = .next (s.setLane l (trip l true i (s.lane l))) :=
  onLaneIf_pos l _ _ s hlive

/-! ## Undervoltage and the handshake (R240, R243) -/

theorem vgdLow_vgdUvlo (g : GateEng) : (vgdLow g).vgdUvlo = true := by
  unfold vgdLow
  split <;> rfl

theorem vgdLow_uvloCount (g : GateEng) : (vgdLow g).uvloCount = g.uvloCount := by
  unfold vgdLow
  split <;> rfl

/-- The gate block after an undervoltage of a source, whose flag is set already (R243, R244). -/
def uvloGate (src : Byte) (unit : Nat) (L : LaneSt) : GateEng :=
  let ts := uvloRecent L ++ [L.time.localT]
  { L.gate with uvloCount := satInc L.gate.uvloCount, uvloTimes := ts, uvloLatched := L.gate.uvloLatched || 3 ≤ ts.length,
                pendUvlo := L.gate.pendUvlo ++ [(src, unit)] }

theorem uvloEvent_eq (me : LaneId) (src : Byte) (unit : Nat) (L : LaneSt) :
    uvloEvent me src unit L = bridgeReport me src unit 0x41 { L with gate := uvloGate src unit L } := rfl

theorem exec_vgdUvlo {l : LaneId} {s : State} (hlive : (s.lane l).gateLive l = true) :
    exec (.vgdUvlo l) s = .next (s.setLane l (uvloEvent l 0x42 3 { s.lane l with gate := vgdLow (s.lane l).gate })) :=
  onLaneIf_pos l _ (fun L => uvloEvent l 0x42 3 { L with gate := vgdLow L.gate }) s hlive

/-- The lane with the bootstrap of a leg below UVLO. -/
def bootLow (leg : Leg) (L : LaneSt) : LaneSt := { L with gate := { L.gate with bootUvlo := L.gate.bootUvlo ||| leg.bit } }

theorem exec_bootUvlo {l : LaneId} (leg : Leg) {s : State} (hlive : (s.lane l).gateLive l = true) :
    exec (.bootUvlo l leg) s = .next (s.setLane l (uvloEvent l 0x43 leg.num (bootLow leg (s.lane l)))) :=
  onLaneIf_pos l _ (fun L => uvloEvent l 0x43 leg.num (bootLow leg L)) s hlive

/-- The gate block with a failed handshake of a leg noted (R240). -/
def handshakeFailed (leg : Leg) (g : GateEng) : GateEng :=
  { g with hsFail := g.hsFail ||| leg.bit, hsCount := satInc g.hsCount, pendHs := true }

theorem exec_handshakeTimeout {l : LaneId} (leg : Leg) {s : State} (hlive : (s.lane l).gateLive l = true) :
    exec (.handshakeTimeout l leg) s
      = .next (s.setLane l (bridgeReport l 0x44 leg.num 0x42 { s.lane l with gate := handshakeFailed leg (s.lane l).gate })) :=
  onLaneIf_pos l _ (fun L => bridgeReport l 0x44 leg.num 0x42 { L with gate := handshakeFailed leg L.gate }) s hlive

/-- The lane with a BRIDGE_DOWN of another lane noted (R256). -/
def noteBridgeDown (j : LaneId) (L : LaneSt) : LaneSt := { L with eng := { L.eng with bridgeDown := L.eng.bridgeDown.set j true } }

theorem exec_bridgeDownSymbol {l j : LaneId} {s : State} (hother : j ≠ l) (hrun : (s.lane l).running = true) :
    exec (.bridgeDownSymbol l j) s = .next (s.setLane l (noteBridgeDown j (s.lane l))) := by
  have hnotes := onLaneIf_pos l LaneSt.running (fun L => if j = l then L else noteBridgeDown j L) s hrun
  exact hnotes.trans (by rw [if_neg hother])

/-- Settles O37: each fault of the bridge is told by `bridgeReport_of_gate`; the reaction to a trip is `trippedGate_reacts`. -/
theorem bridgeFaults : Obligations.BridgeFaults := by
  unfold Obligations.BridgeFaults
  intro l i s L told react
  refine ⟨fun hlive => ⟨fun htrip => ⟨_, exec_scFastTrip i hlive, ?fast⟩, fun hend hsince => ?blanked,
    ⟨_, exec_scGrossTrip i hlive, ?gross⟩, ⟨_, exec_vgdUvlo hlive, ?vgd⟩, fun leg => ⟨_, exec_bootUvlo leg hlive, ?boot⟩,
    fun leg => ⟨_, exec_handshakeTimeout leg hlive, ?handshake⟩⟩, fun j hother hrun => exec_bridgeDownSymbol hother hrun⟩
  case fast =>
    rw [lane_setLane_same, trip_counts l _ fun _ => htrip]
    obtain ⟨hgate, htold⟩ := bridgeReport_of_gate l 0x40 (legUnit (tripLegs i)) 0x40 L (trippedGate false (tripLegs i) L)
    exact ⟨htold, trippedGate_reacts l hgate⟩
  case blanked =>
    rw [exec_scFastTrip i hlive, trip_blanked l _ hend hsince, setLane_lane]
  case gross =>
    rw [lane_setLane_same, trip_counts l (gross := true) _ nofun]
    obtain ⟨hgate, htold⟩ := bridgeReport_of_gate l 0x41 (legUnit (tripLegs i)) 0x40 L (trippedGate true (tripLegs i) L)
    exact ⟨htold, trippedGate_reacts l hgate⟩
  case vgd =>
    rw [lane_setLane_same, uvloEvent_eq]
    obtain ⟨hgate, htold⟩ := bridgeReport_of_gate l 0x42 3 0x41 L (uvloGate 0x42 3 { L with gate := vgdLow L.gate })
    refine ⟨htold, allGatesOff_of_vgdUvlo l ?_, ?_⟩
    · exact (congrArg GateEng.vgdUvlo hgate).trans (vgdLow_vgdUvlo L.gate)
    · exact (congrArg GateEng.uvloCount hgate).trans (congrArg satInc (vgdLow_uvloCount L.gate))
  case boot =>
    rw [lane_setLane_same, uvloEvent_eq]
    obtain ⟨hgate, htold⟩ := bridgeReport_of_gate l 0x43 leg.num 0x41 L (uvloGate 0x43 leg.num (bootLow leg L))
    exact ⟨htold, congrArg GateEng.bootUvlo hgate⟩
  case handshake =>
    rw [lane_setLane_same]
    obtain ⟨hgate, htold⟩ := bridgeReport_of_gate l 0x44 leg.num 0x42 L (handshakeFailed leg L.gate)
    exact ⟨htold, congrArg GateEng.hsFail hgate⟩

end Sys2Proof.Machine
end

section

namespace Sys2Proof.Machine

/-! ## The end of an undervoltage's W fault (07 R244) -/

theorem bringBack_safe (me : LaneId) (L : LaneSt) : (bringBack me L).safe = L.safe := by
  unfold bringBack
  split
  · split <;> rfl
  · rfl

/-- What brings a share back moves the gates by their demand alone. -/
theorem bringBack_gate (me : LaneId) (L : LaneSt) : (bringBack me L).gate = { L.gate with demand := (bringBack me L).gate.demand } := by
  unfold bringBack
  split
  · split <;> rfl
  · rfl

theorem exec_uvloRecover {l : LaneId} {s : State} (hrun : (s.lane l).running = true) :
    exec (.uvloRecover l) s = .next (s.setLane l (uvloRecover l (s.lane l))) :=
  onLaneIf_pos l _ _ s hrun

/-- With the supplies up and fewer than three events of late, what is pending and the W fault go. -/
theorem uvloRecover_ends (me : LaneId) {L : LaneSt} (hvgd : L.gate.vgdUvlo = false) (hboot : L.gate.bootUvlo = 0)
    (hlatch : L.gate.uvloLatched = false) (hfew : (uvloRecent L).length < 3) :
    let M := uvloRecover me L
    M.gate.pendUvlo = [] ∧ M.safe.faults = L.safe.faults.filter fun f => !(f.kind == .winding && f.lane == me && isUvlo f.src) := by
  have hends : uvloRecover me L = bringBack me (endFaults (fun f => f.kind == .winding && f.lane == me && isUvlo f.src)
      { L with gate := { L.gate with pendUvlo := [] } }) := by
    refine if_neg ?_
    simp [hvgd, hboot, hlatch, hfew]
  intro M
  refine ⟨?_, ?_⟩
  · exact congrArg GateEng.pendUvlo (hends ▸ bringBack_gate me _)
  · exact congrArg SafeEng.faults (hends ▸ bringBack_safe me _)

theorem uvloRecover_stands (me : LaneId) {L : LaneSt} (hthree : 3 ≤ (uvloRecent L).length) : uvloRecover me L = L := by
  refine if_pos ?_
  simp [hthree]

/-! ## A supply back above its threshold (07 R243, R245) -/

theorem exec_backAboveUvlo {l : LaneId} (supply : Option Leg) {s : State} (hlive : (s.lane l).gateLive l = true) :
    exec (.backAboveUvlo l supply) s = .next (s.setLane l (backAbove l supply (s.lane l))) :=
  onLaneIf_pos l _ _ s hlive

/-- HOLD_EFFORT is in force only where no precharge has failed (13 R396). -/
theorem coltPreFail_of_holdEffort {me : LaneId} {L : LaneSt} (h : coltNow me L = .holdEffort) : L.start.coltPreFail = false := by
  refine Bool.eq_false_iff.mpr fun hfailed => ?_
  unfold coltNow at h
  split at h
  · cases h
  · split at h
    case h_1 => simp [hfailed] at h
    case h_2 hother => exact hother h

/-- A HOLD_EFFORT that finds the gates off begins with the precharge (R247). -/
theorem coltApply_precharges (me : LaneId) {L : LaneSt} (hon : L.start.coltOn = true) (hnow : coltNow me L = .holdEffort)
    (hready : L.start.coltReady = true) (hoff : L.gate.demand = .allOff) :
    coltApply me L = { L with gate := { L.gate with demand := .precharge } } := by
  unfold coltApply
  simp [hon, hnow, hready, hoff]

/-- VGD back in the Colt stage: the hardware forgets nothing of the stage, and precharges for HOLD_EFFORT again. -/
theorem backAbove_colt (me : LaneId) {L : LaneSt} (hon : L.start.coltOn = true) (hnow : coltNow me L = .holdEffort)
    (hready : L.start.coltReady = true) :
    backAbove me none L = { L with gate := { L.gate with vgdUvlo := false, demand := .precharge } } := by
  have hpre : (L.start.coltPreFail && (none : Option Leg).isSome) = L.start.coltPreFail := by
    rw [coltPreFail_of_holdEffort hnow]
    rfl
  unfold backAbove
  dsimp only
  rw [if_pos hon, hpre]
  exact coltApply_precharges me (L := { L with gate := { L.gate with vgdUvlo := false, demand := .allOff } }) hon hnow hready rfl

/-- Settles O38: the W fault ends by `uvloRecover_ends` or stands by `uvloRecover_stands`; outside the Colt stage a supply that is back only
ends its forcing, and in it `backAbove_colt` precharges. -/
theorem suppliesRecover : Obligations.SuppliesRecover := by
  unfold Obligations.SuppliesRecover
  intro l s L
  refine ⟨fun hrun hvgd hboot hlatch => ⟨fun hfew => ⟨_, exec_uvloRecover hrun, ?ends⟩, fun hthree => ?stands⟩,
    fun hlive hoff => ⟨?vgd, fun leg => ?leg⟩, fun hlive hon hnow hready => ⟨_, exec_backAboveUvlo none hlive, ?colt⟩⟩
  case ends =>
    rw [lane_setLane_same]
    exact uvloRecover_ends l hvgd hboot hlatch hfew
  case stands =>
    rw [exec_uvloRecover hrun, uvloRecover_stands l hthree, setLane_lane]
  case vgd =>
    rw [exec_backAboveUvlo none hlive, backAbove, if_neg (Bool.eq_false_iff.mp hoff)]
  case leg =>
    rw [exec_backAboveUvlo (some leg) hlive, backAbove, if_neg (Bool.eq_false_iff.mp hoff)]
  case colt =>
    rw [lane_setLane_same, backAbove_colt l hon hnow hready]
    exact ⟨rfl, rfl⟩

end Sys2Proof.Machine
end
